-- ==== Sys2Proof/Word.lean ====
section
/-! DEFINITION. The word types: what the manual treats as bits on the wire or as a count that wraps. -/

namespace Sys2Proof

/-- One byte of a frame (11.1). -/
abbrev Byte := BitVec 8

/-- A 16-bit field of a payload (11.4). -/
abbrev U16 := BitVec 16

/-- A 24-bit word: a converter count (R16) or the encoder channel's position count (R17). -/
abbrev U24 := BitVec 24

/-- A 32-bit word: station time (R1), elapsed time (R2), a payload field, a quantity pattern (R94). -/
abbrev U32 := BitVec 32

end Sys2Proof
end

