-- ==== Sys2Proof/Syntax.lean ====
section
/-! DEFINITION. The commands: one constructor of `Instr` for each row of spec/opcode_table.json, with its
operands. A row that a request frame asks for carries the port it was taken on and its payload's fields at
their widths on the wire (11.4); a row that the outside world brings about carries what comes from outside. -/

namespace Sys2Proof

/-- The three station ports and their masters (R183, 00_scope.md "The three masters"). -/
inductive Port where
  | logger | cableway | warning
  deriving DecidableEq, Repr

/-- The four stage channels (2.1). -/
inductive Chan where
  | ch0 | ch1 | ch2 | ch3
  deriving DecidableEq, Repr

/-- The two cableway axes (R121). -/
inductive Axis where
  | traverse | reel
  deriving DecidableEq, Repr

/-- The three limit switches, taken unfiltered (R120). -/
inductive Limit where
  | home | far | top
  deriving DecidableEq, Repr

/-- The four filtered cableway inputs (R120). -/
inductive Contact where
  | surface | bottom | meter | loadTrip
  deriving DecidableEq, Repr

/-- What a cableway encoder shows: a step that pays out or moves away (up), a step back (down), or both
quadrature lines changing together (R121, R137). -/
inductive EncoderMove where
  | up | down | impossible
  deriving DecidableEq, Repr

/-- A reply frame of the ranging sensor (R19): whether it answers the request of a slot already ended,
whether its check and form are good, its status, and its distance in mm. -/
structure RangingFrame where
  late     : Bool
  good     : Bool
  echo     : Bool
  distance : U16
  deriving DecidableEq, Repr

/-- The physical condition of one slot of the record memory, as a read of it finds it (5.5): no error,
one flipped bit, an uncorrectable error that the test pattern shows to be soft, or one that the test
pattern shows to be hard (R76, R81, R82). -/
inductive CellCondition where
  | clean | correctable | soft | hard
  deriving DecidableEq, Repr

/-- One point of a LOAD_RATING payload: a stage, signed, and a discharge (R55, 11.4). -/
structure RatingPoint where
  stage     : U16
  discharge : U32
  deriving DecidableEq, Repr

/-- Bytes 1..20 of a CONFIGURE_CHANNEL payload (R20, 11.4). -/
structure ChannelPayload where
  mode    : Byte
  warmUp  : Byte
  n       : Byte
  gain    : U32
  offset  : U16
  low     : U32
  high    : U32
  f       : Byte
  maxStep : U16
  deriving DecidableEq, Repr

/-- Bytes 1..17 of a LOAD_RULE payload (R91, 11.4). -/
structure RulePayload where
  enabled     : Byte
  quantity    : Byte
  mask        : U32
  set         : U32
  clear       : U32
  condition   : Byte
  level       : Byte
  persistence : Byte
  deriving DecidableEq, Repr

/-- The payload of SET_CABLEWAY_CONFIG (R123, 11.4). -/
structure CablePayload where
  span          : U32
  traverseScale : U16
  reelScale     : U16
  maxReel       : U16
  carry         : U16
  hanger        : U16
  dwell         : U16
  filterWidth   : Byte
  deriving DecidableEq, Repr

/-- The payload of OPEN_RUN: the meter rating and the unsteadiness limit (R142, 11.4). -/
structure OpenRunPayload where
  a        : U16
  b        : U32
  ppr      : Byte
  unsteady : U16
  deriving DecidableEq, Repr

/-- The payload of SET_STANDDOWN (R163, 11.4). -/
structure StanddownPayload where
  level : Byte
  rate  : U16
  stage : U16
  deriving DecidableEq, Repr

/-- The commands of the part: one constructor per row of spec/opcode_table.json, in the table's order. -/
inductive Instr where
  /-- A request frame ends at the rise of chip select (R184); `bytes` is what the master shifted in. -/
  | requestFrame (p : Port) (bytes : List Byte)
  /-- A block answers (R185): the command the port is BUSY with (`none`), or the port's abandoned
  command number `i`, oldest first (`some i`). -/
  | commandAnswer (p : Port) (source : Option Nat)
  /-- A FETCH transaction of `clocked` whole bytes (R187). -/
  | fetch (p : Port) (clocked : Nat)
  /-- A CLEAR transaction (R188). -/
  | clear (p : Port)
  /-- A POLL transaction of `clocked` whole bytes (R189). -/
  | poll (p : Port) (clocked : Nat)
  | getTime (p : Port)
  | setTime (p : Port) (time : U32)
  | setSchedule (p : Port) (normal fast : U16) (level : Byte)
  | forceSample (p : Port)
  | stationReset (p : Port)
  | stationResetTimeout
  | getEvents (p : Port)
  | setEventMask (p : Port) (mask : Byte)
  | setReporting (p : Port) (threshold : Byte)
  | configureChannel (p : Port) (ch : Byte) (config : ChannelPayload)
  | enableChannel (p : Port) (ch : Byte)
  | disableChannel (p : Port) (ch : Byte)
  | restoreChannel (p : Port) (ch : Byte)
  | selectPrimary (p : Port) (ch : Byte)
  | selectCheck (p : Port) (ch : Byte)
  | setCrosscheck (p : Port) (limit : U16) (k w : Byte)
  | getChannel (p : Port) (ch : Byte)
  | getStage (p : Port)
  | loadRating (p : Port) (count : Byte) (points : List RatingPoint)
  | getRating (p : Port)
  | setShift (p : Port) (shift : U32)
  | applyShift (p : Port)
  | setShiftLimit (p : Port) (limit : U16)
  /-- READ_RECORDS has no payload (R79); `upsets` is what comes from outside: the slots whose physical
  condition has changed since the memory was last read (log entry 4). -/
  | readRecords (p : Port) (upsets : List (Nat × CellCondition))
  | seekRecords (p : Port) (sequence : U32)
  | getRecordStatus (p : Port)
  | loadRule (p : Port) (rule : Byte) (record : RulePayload)
  | getRule (p : Port) (rule : Byte)
  | setWarningConfig (p : Port) (sirenLevel : Byte) (hold : U16) (sirenRun : Byte)
  | getWarning (p : Port)
  | ackSiren (p : Port)
  | raiseManual (p : Port) (level : Byte)
  | clearManual (p : Port)
  | getFaults (p : Port)
  | clearFaults (p : Port) (mask : U32)
  | holdExpiry
  | sirenTimeout
  | beaconPhaseEnd
  | setCablewayConfig (p : Port) (config : CablePayload)
  | getCableway (p : Port)
  | home (p : Port)
  | move (p : Port) (target : U32)
  | sound (p : Port)
  | position (p : Port) (fraction : Byte)
  | positionCarry (p : Port)
  | observe (p : Port) (period : U32)
  | abort (p : Port)
  | reelFree (p : Port)
  | openRun (p : Port) (meter : OpenRunPayload)
  | addEdge (p : Port) (kind : Byte) (depth : U16)
  | acceptVertical (p : Port) (method : Byte)
  | discardLast (p : Port)
  | closeRun (p : Port) (abandon : Byte)
  | getRun (p : Port) (page : Byte)
  | setStanddown (p : Port) (config : StanddownPayload)
  | stationTimeCount
  | preWarmPoint (ch : Chan)
  | warmUpExpiry (ch : Chan)
  /-- A reading slot of a channel ends (R27); `count` is what the converter input of a BRIDGE channel
  delivers over the slot (R16), and is not read for the other kinds. -/
  | readingSlotEnd (ch : Chan) (count : U24)
  | rangingReply (reply : RangingFrame)
  | quadratureStep (up : Bool)
  /-- The level of a filtered input changes to closed or open (R120). -/
  | inputChange (input : Contact) (closed : Bool)
  | filterPass (input : Contact)
  /-- The level of a limit switch changes to closed or open (R136). -/
  | limitSwitchChange (limit : Limit) (closed : Bool)
  | cablewayEncoderStep (axis : Axis) (moved : EncoderMove)
  | stallWatchExpiry
  | axisSettled (axis : Axis)
  | repeatWatchExpiry
  | dwellEnd
  | observeCountEnd
  | resetPin
  | brownOut
  | coldReset
  /-- The part leaves a station reset; `msToCount` is the part of the crystal's second that is left
  until the next count of station time (R1, log entry 3). -/
  | stationRestart (msToCount : Nat)
  deriving DecidableEq, Repr

end Sys2Proof
end

