-- ==== Sys2Proof/Decode.lean ====
section
/-! DEFINITION. Decoding: a word of the opcode table (its rows give no bits), and a request frame's
command code and payload (11.4), with the encoder of request frames after it. -/

namespace Sys2Proof

/-- The command that a word spells by the opcode table's bits. No row of the table gives bits, so no
word spells a command (log entry 1). -/
def decodeTableWord (_nbits _w : Nat) : Option Instr := none

/-! ### The command table (11.4) -/

/-- Which ports may give the command of a code: L, C, W (11.4); `none` for a code that is not in the
table, which halts the port UNKNOWN (R184). The commands marked own may be given on every port. -/
def codePorts (code : Byte) : Option (Bool × Bool × Bool) :=
  let l := (true, false, false)
  let c := (false, true, false)
  let w := (false, false, true)
  let lw := (true, false, true)
  let any := (true, true, true)
  match code.toNat with
  | 0x10 => some any | 0x11 => some l | 0x12 => some l | 0x13 => some l | 0x14 => some l
  | 0x15 => some any | 0x16 => some any | 0x17 => some any
  | 0x20 => some l | 0x21 => some l | 0x22 => some l | 0x23 => some l | 0x24 => some l
  | 0x25 => some l | 0x26 => some l | 0x27 => some any | 0x28 => some any
  | 0x30 => some l | 0x31 => some any | 0x32 => some l | 0x33 => some l | 0x34 => some l
  | 0x40 => some lw | 0x41 => some lw | 0x42 => some any
  | 0x50 => some l | 0x51 => some any | 0x52 => some l | 0x53 => some any
  | 0x54 => some w | 0x55 => some w | 0x56 => some w
  | 0x58 => some any | 0x59 => some l
  | 0x60 => some c | 0x61 => some any | 0x62 => some c | 0x63 => some c | 0x64 => some c
  | 0x65 => some c | 0x66 => some c | 0x67 => some c | 0x68 => some c
  | 0x70 => some c | 0x71 => some c | 0x72 => some c | 0x73 => some c | 0x74 => some c
  | 0x75 => some any | 0x76 => some l
  | _ => none

/-- Whether a command code is one of the codes of the command table (R184). -/
def knownCode (code : Byte) : Bool := (codePorts code).isSome

/-- Whether the command table's column names the asking port (R190). -/
def codeAllows (code : Byte) (p : Port) : Bool :=
  match codePorts code with
  | none => false
  | some (l, c, w) =>
    match p with
    | .logger => l
    | .cableway => c
    | .warning => w

/-- The port on which a request-borne command was taken. -/
def Instr.port? : Instr → Option Port
  | .getTime p => some p
  | .setTime p _ => some p
  | .setSchedule p _ _ _ => some p
  | .forceSample p => some p
  | .stationReset p => some p
  | .getEvents p => some p
  | .setEventMask p _ => some p
  | .setReporting p _ => some p
  | .configureChannel p _ _ => some p
  | .enableChannel p _ => some p
  | .disableChannel p _ => some p
  | .restoreChannel p _ => some p
  | .selectPrimary p _ => some p
  | .selectCheck p _ => some p
  | .setCrosscheck p _ _ _ => some p
  | .getChannel p _ => some p
  | .getStage p => some p
  | .loadRating p _ _ => some p
  | .getRating p => some p
  | .setShift p _ => some p
  | .applyShift p => some p
  | .setShiftLimit p _ => some p
  | .readRecords p _ => some p
  | .seekRecords p _ => some p
  | .getRecordStatus p => some p
  | .loadRule p _ _ => some p
  | .getRule p _ => some p
  | .setWarningConfig p _ _ _ => some p
  | .getWarning p => some p
  | .ackSiren p => some p
  | .raiseManual p _ => some p
  | .clearManual p => some p
  | .getFaults p => some p
  | .clearFaults p _ => some p
  | .setCablewayConfig p _ => some p
  | .getCableway p => some p
  | .home p => some p
  | .move p _ => some p
  | .sound p => some p
  | .position p _ => some p
  | .positionCarry p => some p
  | .observe p _ => some p
  | .abort p => some p
  | .reelFree p => some p
  | .openRun p _ => some p
  | .addEdge p _ _ => some p
  | .acceptVertical p _ => some p
  | .discardLast p => some p
  | .closeRun p _ => some p
  | .getRun p _ => some p
  | .setStanddown p _ => some p
  | .requestFrame _ _ => none
  | .commandAnswer _ _ => none
  | .fetch _ _ => none
  | .clear _ => none
  | .poll _ _ => none
  | .stationResetTimeout => none
  | .holdExpiry => none
  | .sirenTimeout => none
  | .beaconPhaseEnd => none
  | .stationTimeCount => none
  | .preWarmPoint _ => none
  | .warmUpExpiry _ => none
  | .readingSlotEnd _ _ => none
  | .rangingReply _ => none
  | .quadratureStep _ => none
  | .inputChange _ _ => none
  | .filterPass _ => none
  | .limitSwitchChange _ _ => none
  | .cablewayEncoderStep _ _ => none
  | .stallWatchExpiry => none
  | .axisSettled _ => none
  | .repeatWatchExpiry => none
  | .dwellEnd => none
  | .observeCountEnd => none
  | .resetPin => none
  | .brownOut => none
  | .coldReset => none
  | .stationRestart _ => none

/-! ### Request payloads (11.4) -/

/-- The points of a LOAD_RATING payload, six bytes each; `none` when a part of a point is left over. -/
def decodePoints : List Byte → Option (List RatingPoint)
  | [] => some []
  | s1 :: s0 :: d3 :: d2 :: d1 :: d0 :: rest =>
    match decodePoints rest with
    | some ps => some ({ stage := s1 ++ s0, discharge := d3 ++ d2 ++ d1 ++ d0 } :: ps)
    | none => none
  | _ :: _ => none

/-- LOAD_RATING's form: 1 + 6 k bytes for k of 2..24 (11.4). -/
def decodeLoadRating (p : Port) (payload : List Byte) : Option Instr :=
  match payload with
  | [] => none
  | count :: rest =>
    match decodePoints rest with
    | some ps => if 2 ≤ ps.length ∧ ps.length ≤ 24 then some (.loadRating p count ps) else none
    | none => none

/-- Commands without a payload, by code. -/
def decodeBare (p : Port) (code : Byte) : Option Instr :=
  match code.toNat with
  | 0x10 => some (.getTime p)
  | 0x13 => some (.forceSample p)
  | 0x14 => some (.stationReset p)
  | 0x15 => some (.getEvents p)
  | 0x28 => some (.getStage p)
  | 0x31 => some (.getRating p)
  | 0x33 => some (.applyShift p)
  | 0x40 => some (.readRecords p [])
  | 0x42 => some (.getRecordStatus p)
  | 0x53 => some (.getWarning p)
  | 0x54 => some (.ackSiren p)
  | 0x56 => some (.clearManual p)
  | 0x58 => some (.getFaults p)
  | 0x61 => some (.getCableway p)
  | 0x62 => some (.home p)
  | 0x64 => some (.sound p)
  | 0x67 => some (.abort p)
  | 0x68 => some (.reelFree p)
  | 0x73 => some (.discardLast p)
  | _ => none

/-- Commands whose payload is one byte, by code. -/
def decodeByte (p : Port) (code b : Byte) : Option Instr :=
  match code.toNat with
  | 0x16 => some (.setEventMask p b)
  | 0x17 => some (.setReporting p b)
  | 0x21 => some (.enableChannel p b)
  | 0x22 => some (.disableChannel p b)
  | 0x23 => some (.restoreChannel p b)
  | 0x24 => some (.selectPrimary p b)
  | 0x25 => some (.selectCheck p b)
  | 0x27 => some (.getChannel p b)
  | 0x51 => some (.getRule p b)
  | 0x55 => some (.raiseManual p b)
  | 0x65 => if b = 0xFF then some (.positionCarry p) else some (.position p b)
  | 0x72 => some (.acceptVertical p b)
  | 0x74 => some (.closeRun p b)
  | 0x75 => some (.getRun p b)
  | _ => none

/-- Commands whose payload is four bytes, by code. -/
def decodeFour (p : Port) (code b0 b1 b2 b3 : Byte) : Option Instr :=
  match code.toNat with
  | 0x11 => some (.setTime p (b0 ++ b1 ++ b2 ++ b3))
  | 0x26 => some (.setCrosscheck p (b0 ++ b1) b2 b3)
  | 0x32 => some (.setShift p (b0 ++ b1 ++ b2 ++ b3))
  | 0x41 => some (.seekRecords p (b0 ++ b1 ++ b2 ++ b3))
  | 0x52 => some (.setWarningConfig p b0 (b1 ++ b2) b3)
  | 0x59 => some (.clearFaults p (b0 ++ b1 ++ b2 ++ b3))
  | 0x63 => some (.move p (b0 ++ b1 ++ b2 ++ b3))
  | 0x66 => some (.observe p (b0 ++ b1 ++ b2 ++ b3))
  | _ => none

/-- Commands with a longer payload, by code. -/
def decodeLong (p : Port) (code : Byte) (payload : List Byte) : Option Instr :=
  match code.toNat, payload with
  | 0x12, [n1, n0, f1, f0, l] => some (.setSchedule p (n1 ++ n0) (f1 ++ f0) l)
  | 0x20, [ch, m, wu, n, g3, g2, g1, g0, o1, o0, l3, l2, l1, l0, h3, h2, h1, h0, f, x1, x0] =>
    some (.configureChannel p ch
      { mode := m, warmUp := wu, n := n, gain := g3 ++ g2 ++ g1 ++ g0, offset := o1 ++ o0
        low := l3 ++ l2 ++ l1 ++ l0, high := h3 ++ h2 ++ h1 ++ h0, f := f, maxStep := x1 ++ x0 })
  | 0x34, [l1, l0] => some (.setShiftLimit p (l1 ++ l0))
  | 0x50, [r, en, qu, m3, m2, m1, m0, s3, s2, s1, s0, c3, c2, c1, c0, co, lv, pe] =>
    some (.loadRule p r
      { enabled := en, quantity := qu, mask := m3 ++ m2 ++ m1 ++ m0, set := s3 ++ s2 ++ s1 ++ s0
        clear := c3 ++ c2 ++ c1 ++ c0, condition := co, level := lv, persistence := pe })
  | 0x60, [s3, s2, s1, s0, t1, t0, r1, r0, m1, m0, c1, c0, h1, h0, d1, d0, f] =>
    some (.setCablewayConfig p
      { span := s3 ++ s2 ++ s1 ++ s0, traverseScale := t1 ++ t0, reelScale := r1 ++ r0
        maxReel := m1 ++ m0, carry := c1 ++ c0, hanger := h1 ++ h0, dwell := d1 ++ d0
        filterWidth := f })
  | 0x70, [a1, a0, b3, b2, b1, b0, ppr, u1, u0] =>
    some (.openRun p
      { a := a1 ++ a0, b := b3 ++ b2 ++ b1 ++ b0, ppr := ppr, unsteady := u1 ++ u0 })
  | 0x71, [k, d1, d0] => some (.addEdge p k (d1 ++ d0))
  | 0x76, [l, r1, r0, s1, s0] =>
    some (.setStanddown p { level := l, rate := r1 ++ r0, stage := s1 ++ s0 })
  | _, _ => none

/-- The command that a taken frame asks for on port `p`; `none` when the payload's length does not fit
the command's form, which is answered RANGE (R190). -/
def decodeRequest (p : Port) (code : Byte) (payload : List Byte) : Option Instr :=
  if code = 0x30 then decodeLoadRating p payload
  else
    match payload with
    | [] => decodeBare p code
    | [b] => decodeByte p code b
    | [b0, b1, b2, b3] => decodeFour p code b0 b1 b2 b3
    | long => decodeLong p code long

/-! ### The encoder of request frames (11.2, 11.4) -/

/-- The two bytes of a field, most significant first (R183). -/
def bytes16 (v : U16) : List Byte := [v.extractLsb' 8 8, v.extractLsb' 0 8]

/-- The four bytes of a field, most significant first (R183). -/
def bytes32 (v : U32) : List Byte :=
  [v.extractLsb' 24 8, v.extractLsb' 16 8, v.extractLsb' 8 8, v.extractLsb' 0 8]

/-- The points of a LOAD_RATING payload. -/
def encodePoints : List RatingPoint → List Byte
  | [] => []
  | q :: qs => bytes16 q.stage ++ bytes32 q.discharge ++ encodePoints qs

/-- The command code and payload of a request-borne command (11.4); `none` for every other command. -/
def encodeRequest : Instr → Option (Byte × List Byte)
  | .getTime _ => some (0x10, [])
  | .setTime _ t => some (0x11, bytes32 t)
  | .setSchedule _ n f l => some (0x12, bytes16 n ++ bytes16 f ++ [l])
  | .forceSample _ => some (0x13, [])
  | .stationReset _ => some (0x14, [])
  | .getEvents _ => some (0x15, [])
  | .setEventMask _ m => some (0x16, [m])
  | .setReporting _ t => some (0x17, [t])
  | .configureChannel _ ch c =>
    some (0x20, [ch, c.mode, c.warmUp, c.n] ++ bytes32 c.gain ++ bytes16 c.offset ++ bytes32 c.low
      ++ bytes32 c.high ++ [c.f] ++ bytes16 c.maxStep)
  | .enableChannel _ ch => some (0x21, [ch])
  | .disableChannel _ ch => some (0x22, [ch])
  | .restoreChannel _ ch => some (0x23, [ch])
  | .selectPrimary _ ch => some (0x24, [ch])
  | .selectCheck _ ch => some (0x25, [ch])
  | .setCrosscheck _ l k w => some (0x26, bytes16 l ++ [k, w])
  | .getChannel _ ch => some (0x27, [ch])
  | .getStage _ => some (0x28, [])
  | .loadRating _ n ps => some (0x30, n :: encodePoints ps)
  | .getRating _ => some (0x31, [])
  | .setShift _ v => some (0x32, bytes32 v)
  | .applyShift _ => some (0x33, [])
  | .setShiftLimit _ l => some (0x34, bytes16 l)
  | .readRecords _ _ => some (0x40, [])
  | .seekRecords _ n => some (0x41, bytes32 n)
  | .getRecordStatus _ => some (0x42, [])
  | .loadRule _ r c =>
    some (0x50, [r, c.enabled, c.quantity] ++ bytes32 c.mask ++ bytes32 c.set ++ bytes32 c.clear
      ++ [c.condition, c.level, c.persistence])
  | .getRule _ r => some (0x51, [r])
  | .setWarningConfig _ l h r => some (0x52, [l] ++ bytes16 h ++ [r])
  | .getWarning _ => some (0x53, [])
  | .ackSiren _ => some (0x54, [])
  | .raiseManual _ l => some (0x55, [l])
  | .clearManual _ => some (0x56, [])
  | .getFaults _ => some (0x58, [])
  | .clearFaults _ m => some (0x59, bytes32 m)
  | .setCablewayConfig _ c =>
    some (0x60, bytes32 c.span ++ bytes16 c.traverseScale ++ bytes16 c.reelScale
      ++ bytes16 c.maxReel ++ bytes16 c.carry ++ bytes16 c.hanger ++ bytes16 c.dwell
      ++ [c.filterWidth])
  | .getCableway _ => some (0x61, [])
  | .home _ => some (0x62, [])
  | .move _ t => some (0x63, bytes32 t)
  | .sound _ => some (0x64, [])
  | .position _ f => some (0x65, [f])
  | .positionCarry _ => some (0x65, [0xFF])
  | .observe _ t => some (0x66, bytes32 t)
  | .abort _ => some (0x67, [])
  | .reelFree _ => some (0x68, [])
  | .openRun _ m => some (0x70, bytes16 m.a ++ bytes32 m.b ++ [m.ppr] ++ bytes16 m.unsteady)
  | .addEdge _ k d => some (0x71, [k] ++ bytes16 d)
  | .acceptVertical _ m => some (0x72, [m])
  | .discardLast _ => some (0x73, [])
  | .closeRun _ a => some (0x74, [a])
  | .getRun _ g => some (0x75, [g])
  | .setStanddown _ c => some (0x76, [c.level] ++ bytes16 c.rate ++ bytes16 c.stage)
  | .requestFrame _ _ => none
  | .commandAnswer _ _ => none
  | .fetch _ _ => none
  | .clear _ => none
  | .poll _ _ => none
  | .stationResetTimeout => none
  | .holdExpiry => none
  | .sirenTimeout => none
  | .beaconPhaseEnd => none
  | .stationTimeCount => none
  | .preWarmPoint _ => none
  | .warmUpExpiry _ => none
  | .readingSlotEnd _ _ => none
  | .rangingReply _ => none
  | .quadratureStep _ => none
  | .inputChange _ _ => none
  | .filterPass _ => none
  | .limitSwitchChange _ _ => none
  | .cablewayEncoderStep _ _ => none
  | .stallWatchExpiry => none
  | .axisSettled _ => none
  | .repeatWatchExpiry => none
  | .dwellEnd => none
  | .observeCountEnd => none
  | .resetPin => none
  | .brownOut => none
  | .coldReset => none
  | .stationRestart _ => none

/-- A request frame of a code and a payload: code, length, payload, check byte (11.2). -/
def requestFrameBytes (code : Byte) (payload : List Byte) : List Byte :=
  let body := code :: BitVec.ofNat 8 payload.length :: payload
  body ++ [-(body.foldl (· + ·) 0)]

/-- A command as its request frame asks for it: without what READ_RECORDS carries from outside
(log entry 4). -/
def Instr.asked : Instr → Instr
  | .readRecords p _ => .readRecords p []
  | c => c

end Sys2Proof
end

