-- ==== Sys2Proof/Config.lean ====
section
/-! DEFINITION. The free values: what the manual leaves open and the part nevertheless produces.
Each is a constant without a body, so that nothing can be proved of its value. -/

namespace Sys2Proof

/-- The number sent in a field of `bytes` bytes when the value to send does not fit the field: the
manual states no result there (log entry 7). -/
opaque Config.unfitField (bytes : Nat) (value : Int) : Nat

/-- The count that a cableway encoder count takes when it is stepped past an end of its signed 32-bit
range: the manual gives the width (7.1) and states no result (log entry 8). -/
opaque Config.countPast (up : Bool) (count : U32) : U32

/-- How a yes/no byte that is neither 0 nor 1 is read where no rule refuses it: Enabled of LOAD_RULE
(R91) and the abandon mark of CLOSE_RUN (R153) (log entry 9). -/
opaque Config.otherYesByte (b : Byte) : Bool

/-- The mean velocity of a completed run whose area is below 0, which R155 does not state
(log entry 10). -/
opaque Config.negativeAreaVelocity (discharge area : Int) : Int

end Sys2Proof
end

