-- ==== Sys2Proof/Machine/State.lean ====
section
/-! DEFINITION. The state of the part as plain data, block by block (00_scope.md "Block overview"), the
reasons a step could stop, and the state right after a cold reset. -/

namespace Sys2Proof.Machine

/-! ### One value per channel, per port, per limit -/

/-- One value for each stage channel. -/
structure PerChan (α : Type) where
  c0 : α
  c1 : α
  c2 : α
  c3 : α
  deriving DecidableEq, Repr

/-- The value of channel `c`. -/
def PerChan.get {α : Type} (x : PerChan α) : Chan → α
  | .ch0 => x.c0
  | .ch1 => x.c1
  | .ch2 => x.c2
  | .ch3 => x.c3

/-- Replace the value of channel `c`. -/
def PerChan.set {α : Type} (x : PerChan α) (c : Chan) (v : α) : PerChan α :=
  match c with
  | .ch0 => { x with c0 := v }
  | .ch1 => { x with c1 := v }
  | .ch2 => { x with c2 := v }
  | .ch3 => { x with c3 := v }

/-- The same function of each channel and its value. -/
def PerChan.map {α β : Type} (f : Chan → α → β) (x : PerChan α) : PerChan β :=
  { c0 := f .ch0 x.c0, c1 := f .ch1 x.c1, c2 := f .ch2 x.c2, c3 := f .ch3 x.c3 }

/-- The same value for every channel. -/
def PerChan.all {α : Type} (v : α) : PerChan α := { c0 := v, c1 := v, c2 := v, c3 := v }

/-- One value for each station port. -/
structure PerPort (α : Type) where
  logger   : α
  cableway : α
  warning  : α
  deriving DecidableEq, Repr

/-- The value of port `p`. -/
def PerPort.get {α : Type} (x : PerPort α) : Port → α
  | .logger => x.logger
  | .cableway => x.cableway
  | .warning => x.warning

/-- Replace the value of port `p`. -/
def PerPort.set {α : Type} (x : PerPort α) (p : Port) (v : α) : PerPort α :=
  match p with
  | .logger => { x with logger := v }
  | .cableway => { x with cableway := v }
  | .warning => { x with warning := v }

/-- The same function of each port and its value. -/
def PerPort.map {α β : Type} (f : Port → α → β) (x : PerPort α) : PerPort β :=
  { logger := f .logger x.logger, cableway := f .cableway x.cableway
    warning := f .warning x.warning }

/-! ### Time base and sampling schedule (chapter 1) -/

/-- The two clocks (R1, R2) and the elapsed-time reading at which the next count of station time falls
(R9), which is the sub-second phase of R4. -/
structure TimeBase where
  station   : U32
  elapsed   : U32
  nextCount : U32
  deriving DecidableEq, Repr

/-- The schedule's mode (R7). -/
inductive Mode where
  | normal | fast
  deriving DecidableEq, Repr

/-- The cause of an acquisition (1.6). -/
inductive Cause where
  | normal | fast | forced
  deriving DecidableEq, Repr

/-- What a channel hands over when its burst ends: MISSING, or VALID with its reading in mm (R36). -/
inductive Handed where
  | missing
  | valid (value : Int)
  deriving DecidableEq, Repr

/-- The acquisition in flight (1.6), with the samples handed so far (R12, R36). -/
structure Acquisition where
  sampleTime   : U32
  cause        : Cause
  participants : PerChan Bool
  still        : PerChan Bool
  handed       : PerChan (Option Handed)
  deriving DecidableEq, Repr

/-- The sampling schedule: configuration (R6), mode (R7), next due instant (R9), pre-warm set (R10) and
acquisition in flight (R11). -/
structure Schedule where
  normal    : Nat
  fast      : Nat
  fastLevel : Nat
  mode      : Mode
  nextDue   : U32
  preWarm   : PerChan Bool
  acq       : Option Acquisition
  deriving DecidableEq, Repr

/-! ### Stage channels (chapter 2) -/

/-- The power mode of a channel (R15). -/
inductive PowerMode where
  | continuous | switched
  deriving DecidableEq, Repr

/-- The state of a channel (2.1). -/
inductive ChanState where
  | disabled | warming | on | sleeping | failed
  deriving DecidableEq, Repr

/-- The configuration of a channel (R20). -/
structure ChanConfig where
  mode    : PowerMode
  warmUp  : Nat
  n       : Nat
  gain    : Int
  offset  : Int
  low     : Int
  high    : Int
  f       : Nat
  maxStep : Nat
  deriving DecidableEq, Repr

/-- The outcome of one reading (R27). -/
inductive ReadOutcome where
  | valid | readFailure | outOfWindow
  deriving DecidableEq, Repr

/-- One reading: its raw value (absent when the slot gave none), its outcome and, when converted, its
value in mm (R27 to R29). -/
structure Reading where
  raw     : Option Int
  outcome : ReadOutcome
  value   : Option Int
  deriving DecidableEq, Repr

/-- The pass of a burst (R27). -/
inductive Pass where
  | first | retry
  deriving DecidableEq, Repr

/-- A burst in flight: its pass, the readings taken so far, and the elapsed-time reading at which the
present reading slot ends (R27). -/
structure Burst where
  pass     : Pass
  readings : List Reading
  slotEnds : U32
  deriving DecidableEq, Repr

/-- The last sample of a channel (2.1, R30): `value` is present when VALID, absent when MISSING. -/
structure LastSample where
  time    : U32
  value   : Option Int
  v       : Nat
  retried : Bool
  deriving DecidableEq, Repr

/-- The channel record (2.1), less the parts that only CH2 has. -/
structure Channel where
  config     : ChanConfig
  state      : ChanState
  warmUntil  : Option U32
  burst      : Option Burst
  missing    : Nat
  lastSample : Option LastSample
  lastRaw    : Option Reading
  deriving DecidableEq, Repr

/-- What only the ENCODER channel CH2 holds: its position count (R17) and its step reference (R18). -/
structure EncoderInput where
  count   : U24
  stepRef : Option U24
  deriving DecidableEq, Repr

/-- The serial line of the RANGING channel CH3: how many measurement requests have been sent, and the
reply kept for the present slot (R19). -/
structure RangingLine where
  requests : Nat
  reply    : Option RangingFrame
  deriving DecidableEq, Repr

/-! ### Station stage unit (chapter 3) -/

/-- The station stage quality (R44). -/
inductive Quality where
  | none | good | suspect | held
  deriving DecidableEq, Repr

/-- The discharge quality (4.1). -/
inductive DischargeQuality where
  | none | noRating | zeroFlow | rated | aboveRating | held
  deriving DecidableEq, Repr

/-- The station stage record (R39), with the discharge and rating generation fields that the rating unit
writes (R60). -/
structure StageRecord where
  value            : Option Int
  quality          : Quality
  substituted      : Bool
  disagree         : Bool
  clamped          : Bool
  source           : Option Chan
  sampleTime       : Option U32
  rate             : Int
  rateValid        : Bool
  discharge        : Nat
  dischargeQuality : DischargeQuality
  generation       : Byte
  deriving DecidableEq, Repr

/-- One entry of the history ring (R49). -/
structure RingEntry where
  time    : U32
  value   : Option Int
  quality : Quality
  deriving DecidableEq, Repr

/-- The station stage unit: its record, its working state (3.1) and the two selections (R33, R34). -/
structure StageUnit where
  record        : StageRecord
  earlier       : Option (Int × Chan)
  heldSince     : Option U32
  disagreeCount : Nat
  lastDiff      : Option Int
  limit         : Nat
  k             : Nat
  w             : Nat
  ring          : List RingEntry
  primary       : Option Chan
  check         : Option Chan
  deriving DecidableEq, Repr

/-! ### Rating unit (chapter 4) -/

/-- One point of the rating table in force (4.1). -/
structure TablePoint where
  stage     : Int
  discharge : Nat
  deriving DecidableEq, Repr

/-- The rating unit (4.1). -/
structure Rating where
  table         : Option (List TablePoint)
  generation    : Byte
  shift         : Int
  shiftLimit    : Nat
  lastEffective : Option Int
  deriving DecidableEq, Repr

/-! ### Stage record (chapter 5) -/

/-- The source of a station reset (R89). -/
inductive ResetSource where
  | pin | brownOut | command
  deriving DecidableEq, Repr

/-- The kind of a restart (R72). -/
inductive RestartKind where
  | cold
  | station (source : ResetSource)
  | renumber
  deriving DecidableEq, Repr

/-- The cause of a WARNING entry (R72). -/
inductive WarningCause where
  | rule (number : Nat)
  | manual
  | holdExpiry
  | ack
  deriving DecidableEq, Repr

/-- The outcome of a closed run (8.1). -/
inductive RunOutcome where
  | complete | abandonedOperator | abandonedFlood | abandonedFault | abandonedReset
  deriving DecidableEq, Repr

/-- The shift status of a closed run (8.1, R64). -/
inductive ShiftStatus where
  | available | outOfRating | noRating | notComputed
  deriving DecidableEq, Repr

/-- The change that a CHANNEL entry records (R72). -/
inductive ChannelChange where
  | failed | restored | promoted
  deriving DecidableEq, Repr

/-- The fields of a SAMPLE entry (R71). -/
structure SampleEntry where
  time             : U32
  stage            : Option Int
  quality          : Quality
  substituted      : Bool
  disagree         : Bool
  clamped          : Bool
  source           : Option Chan
  rate             : Int
  rateValid        : Bool
  discharge        : Nat
  dischargeQuality : DischargeQuality
  level            : Nat
  cause            : Cause
  generation       : Byte
  deriving DecidableEq, Repr

/-- The fields of a RUN entry (R72, R159). The discharge of a COMPLETE run below 0, which R72 does not state,
is kept as it is (log entry 10). -/
structure RunEntry where
  number    : U16
  openTime  : U32
  closeTime : U32
  outcome   : RunOutcome
  meanStage : Option Int
  discharge : Option Int
  status    : ShiftStatus
  shift     : Int
  deriving DecidableEq, Repr

/-- A record entry's kind and fields (R71, R72). -/
inductive Entry where
  | sample (e : SampleEntry)
  | timeStep (old new : U32)
  | warning (time : U32) (old new : Nat) (cause : WarningCause)
  | run (e : RunEntry)
  | channel (time : U32) (ch : Chan) (change : ChannelChange)
  | restart (time : U32) (kind : RestartKind)
  deriving DecidableEq, Repr

/-- The content of a slot (R69). -/
inductive Slot where
  | empty
  | entry (sequence : Nat) (e : Entry)
  | placeholder (sequence : Nat)
  deriving DecidableEq, Repr

/-- One entry of the map-out table (R86). -/
structure MapEntry where
  slot : Nat
  lost : Option Nat
  deriving DecidableEq, Repr

/-- The stage record (R69). `slots` lists the slots that are not empty and `cells` the slots whose
physical condition is not clean, each in rising slot order. -/
structure Record where
  slots         : List (Nat × Slot)
  cells         : List (Nat × CellCondition)
  oldest        : Nat
  next          : Nat
  writePos      : Nat
  loggerCursor  : Nat
  warningCursor : Nat
  mapOut        : List MapEntry
  deriving DecidableEq, Repr

/-! ### Warning unit (chapter 6) -/

/-- The quantity a rule watches (6.2). -/
inductive Quantity where
  | stage | rate | discharge | diff | quality | faults
  deriving DecidableEq, Repr

/-- The condition of a rule (R97). -/
inductive Condition where
  | eq | ne | gt | ge | lt | le | ugt | uge | ult | ule
  deriving DecidableEq, Repr

/-- The state of a rule (6.2). -/
inductive RuleState where
  | inactive | arming | active | clearing
  deriving DecidableEq, Repr

/-- The outcome of an evaluation (R92). -/
inductive EvalOutcome where
  | skipped | isTrue | isFalse
  deriving DecidableEq, Repr

/-- The last evaluation of a rule (R92): `tested` is true for the set threshold, false for the clear
threshold; the masked quantity is absent when the quantity itself was. -/
structure Evaluation where
  outcome   : EvalOutcome
  testedSet : Bool
  masked    : Option U32
  time      : U32
  deriving DecidableEq, Repr

/-- A rule record (6.2) with its working state. -/
structure Rule where
  enabled     : Bool
  quantity    : Quantity
  mask        : U32
  set         : U32
  clear       : U32
  condition   : Condition
  level       : Nat
  persistence : Nat
  state       : RuleState
  count       : Nat
  last        : Option Evaluation
  deriving DecidableEq, Repr

/-- The content of the outside display (R114): four dashes, or a stage in centimetres. -/
inductive DisplayContent where
  | dashes
  | cm (value : Int)
  deriving DecidableEq, Repr

/-- The outside display's serial latch (R115): the 20 bits it took at the last transfer, in the order in
which they came, and how many transfers it has taken, which is the model's own count (log entry 35). -/
structure DisplayLatch where
  bits      : List Bool
  transfers : Nat
  deriving DecidableEq, Repr

/-- The beacon while its pattern runs: whether it is in an on period, and when the period ends (R113). -/
structure BeaconPhase where
  on    : Bool
  until_ : U32
  deriving DecidableEq, Repr

/-- The warning unit (6.1), with the beacon (R113). The siren and the hold timer hold the elapsed-time
reading at which they expire. -/
structure Warning where
  rules      : List Rule
  level      : Nat
  target     : Nat
  floor      : Nat
  hold       : Option U32
  siren      : Option U32
  sirenLevel : Nat
  holdMin    : Nat
  sirenRun   : Nat
  display    : DisplayContent
  beacon     : Option BeaconPhase
  deriving DecidableEq, Repr

/-! ### Cableway unit (chapter 7) -/

/-- The cableway configuration (R123). -/
structure CableConfig where
  span          : Nat
  traverseScale : Nat
  reelScale     : Nat
  maxReel       : Nat
  carry         : Nat
  hanger        : Nat
  dwell         : Nat
  filterWidth   : Nat
  deriving DecidableEq, Repr

/-- A noise filter: its passed level (true: closed) and, while the input differs from it, the elapsed-time
reading at which the candidate was first seen (R120). -/
structure Filter where
  passed    : Bool
  candidate : Option U32
  deriving DecidableEq, Repr

/-- The levels at the input pins (true: closed): the four filtered inputs before their filters, and the
three limits (R120). -/
structure Pins where
  surface  : Bool
  bottom   : Bool
  meter    : Bool
  loadTrip : Bool
  home     : Bool
  far      : Bool
  top      : Bool
  deriving DecidableEq, Repr

/-- The four direction outputs (R121). -/
inductive Direction where
  | traverseOut | traverseIn | reelDown | reelUp
  deriving DecidableEq, Repr

/-- The drive that is energised: its direction output, the speed output (true: FAST), and the
elapsed-time reading from which the stall watch runs (R121, R135). No drive is `none`, with speed SLOW. -/
structure Drive where
  dir   : Direction
  fast  : Bool
  since : U32
  deriving DecidableEq, Repr

/-- The state of an axis (R121): COASTING holds the reading at which its count last changed, SETTLED the
count at which it settled. -/
inductive AxisState where
  | driven
  | coasting (since : U32)
  | settled (count : U32)
  deriving DecidableEq, Repr

/-- How far the present step of an operation or of the retract has come: waiting for every axis to
settle, its drive energised, or its drive cut and its axis to settle (R121). -/
inductive Phase where
  | waiting | driving | settling
  deriving DecidableEq, Repr

/-- The two steps of HOME and of the retract (R127, R139). -/
inductive HomeStep where
  | reel | traverse
  deriving DecidableEq, Repr

/-- The phases of OBSERVE, each with the reading at which it ends (R132). -/
inductive ObservePhase where
  | dwell (ends : U32)
  | count (ends : U32)
  deriving DecidableEq, Repr

/-- A POSITION in flight: its fraction, target reel length, the surface mark it is placed against, the
stop length once the drive is cut, and its LOW_LIMITED mark (R130). -/
structure PositionOp where
  fraction : Nat
  target   : Int
  surface  : Int
  stop     : Option Int
  low      : Bool
  deriving DecidableEq, Repr

/-- An OBSERVE in flight (R132). -/
structure ObserveOp where
  period    : Nat
  phase     : ObservePhase
  pulses    : Nat
  saturated : Bool
  deriving DecidableEq, Repr

/-- The kind of an operation with its arguments and what its steps have found so far (7.3).
`fromHalted`: the HOME was accepted in HALTED (R171). -/
inductive OpKind where
  | home (step : HomeStep) (fromHalted : Bool)
  | move (target : Int)
  | sound (ls lb : Option Int)
  | position (p : PositionOp)
  | carry
  | observe (o : ObserveOp)
  | reelFree (watchEnds : U32)
  deriving DecidableEq, Repr

/-- The operation in flight. -/
structure Operation where
  kind  : OpKind
  phase : Phase
  deriving DecidableEq, Repr

/-- The retract in flight (R139). -/
structure Retract where
  step  : HomeStep
  phase : Phase
  deriving DecidableEq, Repr

/-- The meter placement (7.1). -/
structure Placement where
  fraction : Nat
  depth    : Int
  low      : Bool
  deriving DecidableEq, Repr

/-- The outcome of an operation (7.3). -/
inductive OpOutcome where
  | done | aborted | stoodDown | stall | limit | loadTrip | noSurface | noBottom
  deriving DecidableEq, Repr

/-- The kind of an operation without its arguments, as the last operation record names it. -/
inductive OpName where
  | home | move | sound | position | observe | reelFree
  deriving DecidableEq, Repr

/-- The results of an operation that ended DONE (R124, R128 to R132). -/
inductive OpResults where
  | none
  | move (x : Int)
  | sound (x ls lb d : Int)
  | position (fraction : Option Nat) (depth : Int) (low : Bool)
  | observe (pulses period : Nat) (saturated : Bool)
  deriving DecidableEq, Repr

/-- The last operation record (R126). -/
structure LastOp where
  name    : OpName
  outcome : OpOutcome
  time    : U32
  results : OpResults
  deriving DecidableEq, Repr

/-- The cableway unit (7.1). -/
structure Cableway where
  config        : CableConfig
  traverseCount : U32
  reelCount     : U32
  referenced    : Bool
  pins          : Pins
  surface       : Filter
  bottom        : Filter
  meter         : Filter
  loadTrip      : Filter
  drive         : Option Drive
  traverseAxis  : AxisState
  reelAxis      : AxisState
  op            : Option Operation
  retract       : Option Retract
  lastSurface   : Option Int
  placement     : Option Placement
  lastOp        : Option LastOp
  deriving DecidableEq, Repr

/-! ### Gauging run unit (chapter 8) -/

/-- The sounding of the working vertical (8.2). -/
structure Sounding where
  x  : Int
  ls : Int
  lb : Int
  d  : Int
  deriving DecidableEq, Repr

/-- A point observation (8.2). -/
structure Observation where
  fraction  : Nat
  depth     : Int
  pulses    : Nat
  period    : Nat
  velocity  : Nat
  low       : Bool
  saturated : Bool
  deriving DecidableEq, Repr

/-- The working vertical (8.2), observations oldest first. -/
structure Working where
  sounding     : Option Sounding
  observations : List Observation
  deriving DecidableEq, Repr

/-- The method of a vertical (R151). -/
inductive Method where
  | onePoint | twoPoint | none
  deriving DecidableEq, Repr

/-- The kind of a stack item; a vertical carries its method (8.3). -/
inductive ItemKind where
  | start
  | vertical (method : Method)
  | finish
  deriving DecidableEq, Repr

/-- An item of the stack (8.3): `stage` is a station stage value with its sample time. -/
structure StackItem where
  kind      : ItemKind
  distance  : Int
  depth     : Int
  velocity  : Nat
  low       : Bool
  saturated : Bool
  stage     : Option (Int × U32)
  deriving DecidableEq, Repr

/-- The direction of a stack (R149). -/
inductive StackDirection where
  | unset | ascending | descending
  deriving DecidableEq, Repr

/-- The results of a COMPLETE run (8.1, R154 to R156). -/
structure RunResults where
  q            : Int
  area         : Int
  width        : Int
  velocity     : Int
  meanStage    : Int
  stageChange  : Int
  unsteady     : Bool
  low          : Bool
  saturated    : Bool
  deriving DecidableEq, Repr

/-- What a close writes into the run record (R157). -/
structure Closing where
  time       : U32
  outcome    : RunOutcome
  results    : Option RunResults
  status     : ShiftStatus
  shift      : Int
  clamped    : Bool
  generation : Byte
  deriving DecidableEq, Repr

/-- A run from its grant on (8.1); it is OPEN while `closing` is absent and CLOSED from then on. -/
structure RunBody where
  openTime  : U32
  a         : Nat
  b         : Nat
  ppr       : Nat
  unsteady  : Nat
  openStage : Int
  openStageTime : U32
  stack     : List StackItem
  direction : StackDirection
  closing   : Option Closing
  deriving DecidableEq, Repr

/-- The run record (8.1); it is in state NONE while `body` is absent (R141). -/
structure RunRecord where
  number : U16
  body   : Option RunBody
  deriving DecidableEq, Repr

/-! ### Permit (chapter 9) -/

/-- The permit's states (9.1). -/
inductive PermitState where
  | closed | open_ | standingDown | halted
  deriving DecidableEq, Repr

/-- The stand-down conditions (9.2). -/
inductive StandCondition where
  | level | rate | stage
  deriving DecidableEq, Repr

/-- The fault that a halt names (9.1). -/
inductive HaltFault where
  | loadTrip | stall | limit | encoder
  deriving DecidableEq, Repr

/-- The cause of the permit's last change (9.1). -/
inductive PermitCause where
  | restart
  | granted
  | runClosed
  | standDown (condition : StandCondition)
  | retractDone
  | retractAborted
  | halt (fault : HaltFault)
  | homed
  deriving DecidableEq, Repr

/-- The part of the permit record that a PERMIT event's copy carries: state, cause and time (9.1, 11.4). -/
structure PermitRecord where
  state : PermitState
  cause : PermitCause
  time  : U32
  deriving DecidableEq, Repr

/-- The permit: its record and the stand-down configuration (9.1). -/
structure Permit where
  record : PermitRecord
  level  : Nat
  rate   : Nat
  stage  : Option Int
  deriving DecidableEq, Repr

/-! ### Fault unit (chapter 10) -/

/-- The severity of a fault, from lowest to highest (R174). -/
inductive Severity where
  | notice | degraded | severe
  deriving DecidableEq, Repr

/-- The station faults (R174). -/
inductive StationFault where
  | channelFailed (ch : Chan)
  | primaryPromoted
  | stageHeld
  | disagree
  | stageClamped
  | recordCorrected
  | recordDamaged
  | recordMappedOut
  | recordMapFull
  | readerLoss
  | timeStep
  | cableLoadTrip
  | cableStall
  | cableLimit
  | encoderFault
  | sirenTimeout
  | aboveRating
  | restart
  deriving DecidableEq, Repr

/-- The argument of a report (R174). -/
inductive FaultArg where
  | none
  | chan (c : Chan)
  | number (n : Nat)
  | mm (v : Int)
  | time (t : U32)
  | axis (a : Axis)
  | limit (l : Limit)
  | reset (k : RestartKind)
  deriving DecidableEq, Repr

/-- One report to the fault unit: the fault and its argument (10.2). -/
structure Report where
  fault : StationFault
  arg   : FaultArg
  deriving DecidableEq, Repr

/-- The fault detail when it is not empty (R178); its severity is the fixed one of its kind. -/
structure FaultDetail where
  fault : StationFault
  time  : U32
  arg   : FaultArg
  deriving DecidableEq, Repr

/-- A port's reporting threshold (R179). -/
inductive Threshold where
  | quiet | severe | degraded | all
  deriving DecidableEq, Repr

/-- The fault unit (10.1, 10.4, 10.5). -/
structure FaultUnit where
  word       : U32
  detail     : Option FaultDetail
  thresholds : PerPort Threshold
  deriving DecidableEq, Repr

/-! ### Station ports (chapter 11) -/

/-- The response statuses (11.4). -/
inductive Status where
  | ok | accepted | denied | state | busy | range | invalid | notReady | inUse | order | stale
  | missing | none
  deriving DecidableEq, Repr

/-- A block's answer: status and payload, which a response frame carries (11.2). -/
structure Answer where
  status  : Status
  payload : List Byte
  deriving DecidableEq, Repr

/-- A taken command while it is with its owning block (R184, R185): which command it is (absent when
its payload did not fit the command's form), and its answer once the block has it. -/
structure InBlock where
  command : Option Instr
  answer  : Option Answer
  deriving DecidableEq, Repr

/-- What the response buffer holds: the answer, and the command it answers (R185, R191). -/
structure Response where
  command : Option Instr
  answer  : Answer
  deriving DecidableEq, Repr

/-- The halt reasons (R184). -/
inductive HaltReason where
  | check | length | unknown
  deriving DecidableEq, Repr

/-- The port state with what it holds in that state (chapter 11): the command it is BUSY with, the
response it is READY with, the reason it is HALTED for. In every other state each of these is absent. -/
inductive PortPhase where
  | idle
  | busy (c : InBlock)
  | ready (r : Response)
  | halted (h : HaltReason)
  deriving DecidableEq, Repr

/-- The events (R192). -/
inductive Event where
  | sample | level | fault | record | opDone | permit | siren
  deriving DecidableEq, Repr

/-- A set of events: a pending-event set or an event mask (R192). -/
structure EventSet where
  sample : Bool
  level  : Bool
  fault  : Bool
  record : Bool
  opDone : Bool
  permit : Bool
  siren  : Bool
  deriving DecidableEq, Repr

/-- One station port (chapter 11). `lastAnswer` and `shiftedOut` are the model's own: the answer most
recently given to a command of this port, and the bytes its last transaction shifted out (log entry 2). -/
structure PortUnit where
  phase      : PortPhase
  overrun    : Bool
  abandoned  : List InBlock
  events     : EventSet
  permitCopy : Option PermitRecord
  mask       : EventSet
  lastAnswer : Option Answer
  shiftedOut : List Byte
  deriving DecidableEq, Repr

/-! ### The whole part -/

/-- What a step still has to do before it is whole: the hand-ons of a changed fault word, of a stage
update and of a change of L, in the order in which they are taken (log entry 5). -/
inductive Work where
  /-- The fault unit's taking of a batch of reports (R175). -/
  | batch (reports : List Report)
  /-- The fault round of one change of the fault word, on the word as that change left it (R93). -/
  | faultRound (word : U32)
  /-- The stage round of a stage update (R93). -/
  | stageRound
  /-- The permit's test of the stand-down conditions (R166). -/
  | permitTest
  /-- The SAMPLE entry of a stage update (R71). -/
  | sampleEntry (time : U32) (cause : Cause)
  /-- The completion of the acquisition in flight, if its last participant has finished (R12). -/
  | completion
  deriving DecidableEq, Repr

/-- Where the permit's test stands among the readers of a stage update (R73, R166). -/
inductive PermitPlace where
  | first | beforeSample | last
  deriving DecidableEq, Repr

/-- The model's own: the orders that the manual leaves open within one stage update (R73, R93, R166).
Nothing in the model fixes or changes them (log entry 6). -/
structure TakingOrder where
  permitPlace     : PermitPlace
  faultRoundFirst : Bool
  deriving DecidableEq, Repr

/-- The state of the part. `held` is the source of a station reset while the part is still held in it
(R1, STATION_RESTART); `resetOrder` the elapsed-time reading at which an ordered station reset takes
effect at the latest (R191); `due` the step's own agenda, empty between steps; `queue` the commands that
are waiting. -/
structure State where
  time       : TimeBase
  schedule   : Schedule
  chans      : PerChan Channel
  encoder    : EncoderInput
  ranging    : RangingLine
  stage      : StageUnit
  rating     : Rating
  record     : Record
  warning    : Warning
  latch      : DisplayLatch
  cableway   : Cableway
  run        : RunRecord
  working    : Working
  permit     : Permit
  faults     : FaultUnit
  ports      : PerPort PortUnit
  resetOrder : Option U32
  held       : Option ResetSource
  orders     : TakingOrder
  due        : List Work
  pending    : List Instr
  deriving DecidableEq, Repr

/-- The reasons for a machine fault. The manual names no happening that stops the part, so there is one
constructor and no meaning raises it. -/
inductive Fault where
  /-- Raised by no command: the manual describes no stop of the part. Safe. -/
  | noSuchFault
  deriving DecidableEq, Repr

/-- The reasons for a refusal. -/
inductive Refusal where
  /-- Raised by an arm of the dispatch whose command has no meaning yet; no arm raises it. Safe. -/
  | notModelled (mnemonic : String)
  deriving DecidableEq, Repr

/-! ### Reset values -/

/-- The cold configuration of a channel (R38); the maximum step is 1 for CH2 and 0 for the others. -/
def ChanConfig.cold (maxStep : Nat) : ChanConfig :=
  { mode := .continuous, warmUp := 0, n := 5, gain := 0, offset := 0, low := -32000, high := 32000
    f := 3, maxStep := maxStep }

/-- A channel after a cold reset (R38). -/
def Channel.cold (maxStep : Nat) : Channel :=
  { config := .cold maxStep, state := .disabled, warmUntil := none, burst := none, missing := 0
    lastSample := none, lastRaw := none }

/-- The station stage record after either reset (R52), with the generation given. -/
def StageRecord.reset (generation : Byte) : StageRecord :=
  { value := none, quality := .none, substituted := false, disagree := false, clamped := false
    source := none, sampleTime := none, rate := 0, rateValid := false, discharge := 0
    dischargeQuality := .none, generation := generation }

/-- A warning rule after a cold reset (R119). -/
def Rule.cold : Rule :=
  { enabled := false, quantity := .stage, mask := 4294967295#32, set := 0, clear := 0
    condition := .eq, level := 1, persistence := 1, state := .inactive, count := 0, last := none }

/-- The cableway configuration after a cold reset (R140). -/
def CableConfig.cold : CableConfig :=
  { span := 0, traverseScale := 100, reelScale := 100, maxReel := 10000, carry := 500
    hanger := 150, dwell := 10000, filterWidth := 2 }

/-- Every contact and limit open. -/
def Pins.allOpen : Pins :=
  { surface := false, bottom := false, meter := false, loadTrip := false, home := false
    far := false, top := false }

/-- A filter that takes the level at its input as its passed level (R120). -/
def Filter.restart (level : Bool) : Filter := { passed := level, candidate := none }

/-- The cableway unit after a reset (R140), with its configuration and the levels at its pins. -/
def Cableway.reset (config : CableConfig) (pins : Pins) : Cableway :=
  { config := config, traverseCount := 0, reelCount := 0, referenced := false, pins := pins
    surface := .restart pins.surface, bottom := .restart pins.bottom, meter := .restart pins.meter
    loadTrip := .restart pins.loadTrip, drive := none, traverseAxis := .settled 0
    reelAxis := .settled 0, op := none, retract := none, lastSurface := none, placement := none
    lastOp := none }

/-- The working vertical when it is clear (R144). -/
def Working.empty : Working := { sounding := none, observations := [] }

/-- No event. -/
def EventSet.none : EventSet :=
  { sample := false, level := false, fault := false, record := false, opDone := false
    permit := false, siren := false }

/-- All seven events. -/
def EventSet.all : EventSet :=
  { sample := true, level := true, fault := true, record := true, opDone := true
    permit := true, siren := true }

/-- A port after a reset (R194), with nothing pending. -/
def PortUnit.reset : PortUnit :=
  { phase := .idle, overrun := false, abandoned := [], events := .none, permitCopy := none
    mask := .all, lastAnswer := none, shiftedOut := [] }

/-- The reporting thresholds after a reset (R182). -/
def FaultUnit.defaultThresholds : PerPort Threshold :=
  { logger := .all, cableway := .severe, warning := .degraded }

/-- The part right after a cold reset, its inputs open: every field as the chapters' reset rules give it
(R14, R38, R52, R53, R68, R90, R118, R119, R140, R161, R173, R182, R194), the RESTART entry in slot 0,
the RESTART fault set, and four dashes sent to the display (R114). -/
def State.reset : State :=
  { time := { station := 0, elapsed := 0, nextCount := 1000 }
    schedule :=
      { normal := 900, fast := 60, fastLevel := 0, mode := .normal, nextDue := 900
        preWarm := .all false, acq := none }
    chans := { c0 := .cold 0, c1 := .cold 0, c2 := .cold 1, c3 := .cold 0 }
    encoder := { count := 0, stepRef := none }
    ranging := { requests := 0, reply := none }
    stage :=
      { record := .reset 0, earlier := none, heldSince := none, disagreeCount := 0
        lastDiff := none, limit := 100, k := 3, w := 4, ring := [], primary := none
        check := none }
    rating :=
      { table := none, generation := 0, shift := 0, shiftLimit := 500, lastEffective := none }
    record :=
      { slots := [(0, .entry 1 (.restart 0 .cold))], cells := [], oldest := 1, next := 2
        writePos := 0, loggerCursor := 1, warningCursor := 1, mapOut := [] }
    warning :=
      { rules := List.replicate 16 Rule.cold, level := 0, target := 0, floor := 0, hold := none
        siren := none, sirenLevel := 3, holdMin := 60, sirenRun := 10, display := .dashes
        beacon := none }
    latch :=
      { bits := [true, true, true, true] ++ (List.replicate 4 [true, false, true, true]).flatten
        transfers := 1 }
    cableway := .reset .cold .allOpen
    run := { number := 0, body := none }
    working := .empty
    permit :=
      { record := { state := .closed, cause := .restart, time := 0 }, level := 3, rate := 0
        stage := none }
    faults :=
      { word := 0x00100000#32
        detail := some { fault := .restart, time := 0, arg := .reset .cold }
        thresholds := FaultUnit.defaultThresholds }
    ports :=
      { logger := { PortUnit.reset with
          events := { EventSet.none with fault := true, record := true } }
        cableway := PortUnit.reset
        warning := { PortUnit.reset with events := { EventSet.none with record := true } } }
    resetOrder := none
    held := none
    orders := { permitPlace := .first, faultRoundFirst := true }
    due := []
    pending := [] }

/-! ### Replacing one block of the state

Each operation changes a block through one of these; Laws/State.lean has what each leaves alone. -/

/-- Replace the time base. -/
def State.withTime (s : State) (x : TimeBase) : State := { s with time := x }
/-- Replace the schedule. -/
def State.withSchedule (s : State) (x : Schedule) : State := { s with schedule := x }
/-- Replace the channels. -/
def State.withChans (s : State) (x : PerChan Channel) : State := { s with chans := x }
/-- Replace the encoder input. -/
def State.withEncoder (s : State) (x : EncoderInput) : State := { s with encoder := x }
/-- Replace the ranging line. -/
def State.withRanging (s : State) (x : RangingLine) : State := { s with ranging := x }
/-- Replace the station stage unit. -/
def State.withStage (s : State) (x : StageUnit) : State := { s with stage := x }
/-- Replace the rating unit. -/
def State.withRating (s : State) (x : Rating) : State := { s with rating := x }
/-- Replace the stage record. -/
def State.withRecord (s : State) (x : Record) : State := { s with record := x }
/-- Replace the warning unit. -/
def State.withWarning (s : State) (x : Warning) : State := { s with warning := x }
/-- Replace the display's latch. -/
def State.withLatch (s : State) (x : DisplayLatch) : State := { s with latch := x }
/-- Replace the cableway unit. -/
def State.withCableway (s : State) (x : Cableway) : State := { s with cableway := x }
/-- Replace the run record. -/
def State.withRun (s : State) (x : RunRecord) : State := { s with run := x }
/-- Replace the working vertical. -/
def State.withWorking (s : State) (x : Working) : State := { s with working := x }
/-- Replace the permit. -/
def State.withPermit (s : State) (x : Permit) : State := { s with permit := x }
/-- Replace the fault unit. -/
def State.withFaults (s : State) (x : FaultUnit) : State := { s with faults := x }
/-- Replace the ports. -/
def State.withPorts (s : State) (x : PerPort PortUnit) : State := { s with ports := x }
/-- Replace the ordered reset. -/
def State.withResetOrder (s : State) (x : Option U32) : State := { s with resetOrder := x }
/-- Replace the held mark. -/
def State.withHeld (s : State) (x : Option ResetSource) : State := { s with held := x }
/-- Replace the agenda. -/
def State.withDue (s : State) (x : List Work) : State := { s with due := x }
/-- Replace the queue of waiting commands. -/
def State.withPending (s : State) (x : List Instr) : State := { s with pending := x }

end Sys2Proof.Machine
end

