-- ==== Sys2Proof/Machine/Flags.lean ====
section
/-! DEFINITION. The comparison of a warning rule: the four flags (R96) and the conditions (R97). -/

namespace Sys2Proof.Machine

/-- The flags of a comparison (R96). -/
structure CompareFlags where
  z : Bool
  s : Bool
  v : Bool
  c : Bool
  deriving DecidableEq, Repr

/-- The flags of the masked quantity `q` against the threshold `t` (R96): `d` is `q - t` modulo 2^32. -/
def compareFlags (q t : U32) : CompareFlags :=
  let d := q - t
  { z := decide (d = 0)
    s := d.msb
    v := (q.msb != t.msb) && (d.msb != q.msb)
    c := decide (q.toNat < t.toNat) }

/-- Whether a condition is true by the flags (R97). -/
def conditionHolds (cond : Condition) (f : CompareFlags) : Bool :=
  match cond with
  | .eq => f.z
  | .ne => !f.z
  | .gt => !f.z && (f.s == f.v)
  | .ge => f.s == f.v
  | .lt => f.s != f.v
  | .le => f.z || (f.s != f.v)
  | .ugt => !f.c && !f.z
  | .uge => !f.c
  | .ult => f.c
  | .ule => f.c || f.z

/-- The outcome of comparing the masked quantity with a threshold under a condition (R96, R97). -/
def compare (cond : Condition) (q t : U32) : Bool := conditionHolds cond (compareFlags q t)

end Sys2Proof.Machine
end

