-- ==== Sys2Proof/Machine/Operands.lean ====
section
/-! DEFINITION. The operand forms: rounding and clamping (00_scope.md "Arithmetic and rounding"), the
codes of the payload layouts (11.4), and the bytes of answers, items and frames. -/

namespace Sys2Proof.Machine

/-! ### Rounding and clamping -/

/-- `n ÷ d` to the nearest integer, an exact half going up, for `d > 0`. -/
def roundHalfUp (n d : Int) : Int := (2 * n + d) / (2 * d)

/-- `n ÷ d` to the nearest integer, an exact half going away from zero, for `d > 0`. -/
def roundHalfAway (n d : Int) : Int :=
  if 0 ≤ n then roundHalfUp n d else -roundHalfUp (-n) d

/-- `n ÷ d` with the fractional part dropped. -/
def roundTowardZero (n d : Int) : Int := n.tdiv d

/-- Clamping to `lo..hi`. -/
def clampInt (lo hi v : Int) : Int := if v < lo then lo else if hi < v then hi else v

/-- Whether `v` lies in `lo..hi`, both ends included. -/
def inRange (lo hi v : Int) : Bool := decide (lo ≤ v) && decide (v ≤ hi)

/-! ### Elapsed time -/

/-- Whether the elapsed-time reading `t` still lies ahead of the reading `now`. Readings wrap, and no
duration of the part comes near half of the counter's range (R2). -/
def ahead (t now : U32) : Bool := decide (0 < (t - now).toNat) && decide ((t - now).toNat < 2147483648)

/-- The milliseconds left until the reading `t`, 0 when it does not lie ahead. -/
def msLeft (t now : U32) : Nat := if ahead t now then (t - now).toNat else 0

/-- `ms` milliseconds after the reading `now`, modulo 2^32 (R2). -/
def after (now : U32) (ms : Nat) : U32 := now + BitVec.ofNat 32 ms

/-! ### Channels by number -/

/-- The channel that a payload byte names, 0..3 (11.4). -/
def chanOfByte (b : Byte) : Option Chan :=
  match b.toNat with
  | 0 => some .ch0
  | 1 => some .ch1
  | 2 => some .ch2
  | 3 => some .ch3
  | _ => none

/-- The number of a channel. -/
def chanNumber : Chan → Nat
  | .ch0 => 0
  | .ch1 => 1
  | .ch2 => 2
  | .ch3 => 3

/-- The four channels in order. -/
def allChans : List Chan := [.ch0, .ch1, .ch2, .ch3]

/-- A yes/no byte (11.4): 1 yes, 0 no; any other value is open where no rule refuses it (log entry 9). -/
def yesByte (b : Byte) : Bool :=
  if b = 1 then true else if b = 0 then false else Config.otherYesByte b

/-! ### Bytes -/

/-- `n` bytes of the two's-complement pattern of `v`, most significant first (R183). -/
def beBytes : Nat → Int → List Byte
  | 0, _ => []
  | n + 1, v => BitVec.ofInt 8 (v / (256 : Int) ^ n) :: beBytes n v

/-- An unsigned field of `n` bytes; a value that does not fit is open (log entry 7). -/
def beU (n : Nat) (v : Int) : List Byte :=
  if decide (0 ≤ v) && decide (v < (256 : Int) ^ n) then beBytes n v
  else beBytes n (Config.unfitField n v)

/-- A signed field of `n` bytes; a value that does not fit is open (log entry 7). -/
def beS (n : Nat) (v : Int) : List Byte :=
  if decide (-((256 : Int) ^ n) ≤ 2 * v) && decide (2 * v < (256 : Int) ^ n) then beBytes n v
  else beBytes n (Config.unfitField n v)

/-- A one-byte field. -/
def u8 (n : Nat) : List Byte := beU 1 n
/-- A two-byte unsigned field. -/
def u16 (n : Nat) : List Byte := beU 2 n
/-- A four-byte unsigned field. -/
def u32 (n : Nat) : List Byte := beU 4 n
/-- A two-byte signed field. -/
def s16 (v : Int) : List Byte := beS 2 v
/-- A four-byte signed field. -/
def s32 (v : Int) : List Byte := beS 4 v
/-- A four-byte field that is held as a word. -/
def w32 (w : U32) : List Byte := beBytes 4 w.toNat
/-- A yes/no byte: 1 yes, 0 no (11.4). -/
def yes (b : Bool) : List Byte := [if b then 1 else 0]

/-- An absent field is sent as 0 (11.4). -/
def absentZero (v : Option Int) : Int := v.getD 0

/-- An absent time is sent as 0 (11.4). -/
def absentTime (t : Option U32) : U32 := t.getD 0

/-- Eight marks as one byte, bit 0 first. -/
def bitByte (bs : List Bool) : List Byte :=
  [BitVec.ofNat 8 (bs.foldr (fun b n => b.toNat + 2 * n) 0)]

/-! ### Codes (11.4, 11.6) -/

/-- Status codes (11.4). -/
def statusCode : Status → Byte
  | .ok => 0x00
  | .accepted => 0x01
  | .denied => 0x02
  | .state => 0x03
  | .busy => 0x04
  | .range => 0x05
  | .invalid => 0x06
  | .notReady => 0x07
  | .inUse => 0x08
  | .order => 0x09
  | .stale => 0x0A
  | .missing => 0x0B
  | .none => 0x0C

def modeCode : Mode → Nat
  | .normal => 0
  | .fast => 1

def causeCode : Cause → Nat
  | .normal => 0
  | .fast => 1
  | .forced => 2

def powerModeCode : PowerMode → Nat
  | .continuous => 0
  | .switched => 1

/-- A power mode by its code; any other byte is outside the field's range (R20). -/
def powerModeOf (b : Byte) : Option PowerMode :=
  if b = 0 then some .continuous else if b = 1 then some .switched else none

def chanStateCode : ChanState → Nat
  | .disabled => 0
  | .warming => 1
  | .on => 2
  | .sleeping => 3
  | .failed => 4

/-- The kind of a channel, fixed by its front end (2.1): 0 BRIDGE, 1 ENCODER, 2 RANGING. -/
def chanKindCode : Chan → Nat
  | .ch0 => 0
  | .ch1 => 0
  | .ch2 => 1
  | .ch3 => 2

/-- A channel or NONE as one byte. -/
def chanOrNone : Option Chan → List Byte
  | some c => u8 (chanNumber c)
  | none => [0xFF]

def passCode : Pass → Nat
  | .first => 1
  | .retry => 2

def readOutcomeCode : ReadOutcome → Nat
  | .valid => 1
  | .readFailure => 2
  | .outOfWindow => 3

def qualityCode : Quality → Nat
  | .none => 0
  | .good => 1
  | .suspect => 2
  | .held => 3

def dischargeQualityCode : DischargeQuality → Nat
  | .none => 0
  | .noRating => 1
  | .zeroFlow => 2
  | .rated => 3
  | .aboveRating => 4
  | .held => 5

def quantityCode : Quantity → Nat
  | .stage => 0
  | .rate => 1
  | .discharge => 2
  | .diff => 3
  | .quality => 4
  | .faults => 5

def quantityOf (b : Byte) : Option Quantity :=
  match b.toNat with
  | 0 => some .stage
  | 1 => some .rate
  | 2 => some .discharge
  | 3 => some .diff
  | 4 => some .quality
  | 5 => some .faults
  | _ => none

def conditionCode : Condition → Nat
  | .eq => 0
  | .ne => 1
  | .gt => 2
  | .ge => 3
  | .lt => 4
  | .le => 5
  | .ugt => 6
  | .uge => 7
  | .ult => 8
  | .ule => 9

def conditionOf (b : Byte) : Option Condition :=
  match b.toNat with
  | 0 => some .eq
  | 1 => some .ne
  | 2 => some .gt
  | 3 => some .ge
  | 4 => some .lt
  | 5 => some .le
  | 6 => some .ugt
  | 7 => some .uge
  | 8 => some .ult
  | 9 => some .ule
  | _ => none

def ruleStateCode : RuleState → Nat
  | .inactive => 0
  | .arming => 1
  | .active => 2
  | .clearing => 3

def evalOutcomeCode : EvalOutcome → Nat
  | .skipped => 1
  | .isTrue => 2
  | .isFalse => 3

def thresholdCode : Threshold → Nat
  | .quiet => 0
  | .severe => 1
  | .degraded => 2
  | .all => 3

def thresholdOf (b : Byte) : Option Threshold :=
  match b.toNat with
  | 0 => some .quiet
  | 1 => some .severe
  | 2 => some .degraded
  | 3 => some .all
  | _ => none

def severityCode : Severity → Nat
  | .notice => 0
  | .degraded => 1
  | .severe => 2

def permitStateCode : PermitState → Nat
  | .closed => 0
  | .open_ => 1
  | .standingDown => 2
  | .halted => 3

def permitCauseCode : PermitCause → Nat
  | .restart => 0
  | .granted => 1
  | .runClosed => 2
  | .standDown _ => 3
  | .retractDone => 4
  | .retractAborted => 5
  | .halt _ => 6
  | .homed => 7

def permitDetailCode : PermitCause → Nat
  | .standDown .level => 0
  | .standDown .rate => 1
  | .standDown .stage => 2
  | .halt .loadTrip => 0
  | .halt .stall => 1
  | .halt .limit => 2
  | .halt .encoder => 3
  | .restart => 0
  | .granted => 0
  | .runClosed => 0
  | .retractDone => 0
  | .retractAborted => 0
  | .homed => 0

/-- A permit record: state, cause, cause detail and station time (11.4). -/
def permitBytes (r : PermitRecord) : List Byte :=
  u8 (permitStateCode r.state) ++ u8 (permitCauseCode r.cause) ++ u8 (permitDetailCode r.cause)
    ++ w32 r.time

def opNameCode : OpName → Nat
  | .home => 1
  | .move => 2
  | .sound => 3
  | .position => 4
  | .observe => 5
  | .reelFree => 6

def opOutcomeCode : OpOutcome → Nat
  | .done => 0
  | .aborted => 1
  | .stoodDown => 2
  | .stall => 3
  | .limit => 4
  | .loadTrip => 5
  | .noSurface => 6
  | .noBottom => 7

def itemKindCode : ItemKind → Nat
  | .start => 0
  | .vertical _ => 1
  | .finish => 2

/-- The method of an item; an edge has 0xFF (11.4). -/
def itemMethodByte : ItemKind → List Byte
  | .vertical .onePoint => [0]
  | .vertical .twoPoint => [1]
  | .vertical .none => [2]
  | .start => [0xFF]
  | .finish => [0xFF]

def methodOf (b : Byte) : Option Method :=
  if b = 0 then some .onePoint else if b = 1 then some .twoPoint
  else if b = 2 then some .none else none

def stackDirectionCode : StackDirection → Nat
  | .unset => 0
  | .ascending => 1
  | .descending => 2

def runOutcomeCode : RunOutcome → Nat
  | .complete => 0
  | .abandonedOperator => 1
  | .abandonedFlood => 2
  | .abandonedFault => 3
  | .abandonedReset => 4

def shiftStatusCode : ShiftStatus → Nat
  | .available => 0
  | .outOfRating => 1
  | .noRating => 2
  | .notComputed => 3

def channelChangeCode : ChannelChange → Nat
  | .failed => 0
  | .restored => 1
  | .promoted => 2

def warningCauseCode : WarningCause → Nat
  | .rule _ => 0
  | .manual => 1
  | .holdExpiry => 2
  | .ack => 3

def resetSourceCode : ResetSource → Nat
  | .pin => 0
  | .brownOut => 1
  | .command => 2

def restartKindCode : RestartKind → Nat
  | .cold => 0
  | .station _ => 1
  | .renumber => 2

/-- The source of a restart, sent as 0 where there is none (11.6). -/
def restartSourceCode : RestartKind → Nat
  | .station src => resetSourceCode src
  | .cold => 0
  | .renumber => 0

def axisCode : Axis → Nat
  | .traverse => 0
  | .reel => 1

def limitCode : Limit → Nat
  | .home => 0
  | .far => 1
  | .top => 2

def axisStateCode : AxisState → Nat
  | .driven => 0
  | .coasting _ => 1
  | .settled _ => 2

/-- The argument of the fault detail in its four bytes (GET_FAULTS, 11.4). -/
def faultArgBytes : FaultArg → List Byte
  | .none => u32 0
  | .chan c => u32 (chanNumber c)
  | .number n => u32 n
  | .mm v => s32 v
  | .time t => w32 t
  | .axis a => u32 (axisCode a)
  | .limit l => u32 (limitCode l)
  | .reset k => u32 (256 * restartKindCode k + restartSourceCode k)

/-- An event set as one byte: SAMPLE is bit 0, SIREN bit 6, bit 7 is 0 (R189). -/
def eventByte (e : EventSet) : List Byte :=
  bitByte [e.sample, e.level, e.fault, e.record, e.opDone, e.permit, e.siren]

/-- The event set that a byte enables (R192); bit 7 is refused before. -/
def eventSetOf (b : Byte) : EventSet :=
  { sample := b.getLsbD 0, level := b.getLsbD 1, fault := b.getLsbD 2, record := b.getLsbD 3
    opDone := b.getLsbD 4, permit := b.getLsbD 5, siren := b.getLsbD 6 }

/-! ### Frames -/

/-- The check byte that brings the sum of the frame's bytes to 0 modulo 256 (11.2). -/
def checkByte (bytes : List Byte) : Byte := -(bytes.foldl (· + ·) 0)

/-- A response frame: status code, payload length, payload, check byte (11.2). -/
def responseFrame (a : Answer) : List Byte :=
  let body := statusCode a.status :: BitVec.ofNat 8 a.payload.length :: a.payload
  body ++ [checkByte body]

/-- What the part shifts out in a transaction of `clocked` bytes whose reply is `reply`: 0x00 while it
learns the type, then the reply, then 0x00 (R183, R187; for a POLL log entry 47). -/
def shiftOut (reply : List Byte) (clocked : Nat) : List Byte :=
  ((0 :: reply) ++ List.replicate clocked 0).take clocked

/-! ### Record items on the wire (11.6) -/

/-- One item of a READ_RECORDS response (R79). -/
inductive RecordItem where
  | entry (sequence : Nat) (e : Entry)
  | gap (first count : Nat)
  | damaged (sequence : Nat)
  deriving DecidableEq, Repr

/-- The type byte of an entry (11.6). -/
def entryType : Entry → Byte
  | .sample _ => 0x01
  | .timeStep _ _ => 0x02
  | .warning _ _ _ _ => 0x03
  | .run _ => 0x04
  | .channel _ _ _ => 0x05
  | .restart _ _ => 0x06

/-- Bytes 5 and on of an entry, before the padding (11.6). -/
def entryBody : Entry → List Byte
  | .sample e =>
    w32 e.time ++ s16 (absentZero e.stage) ++ u8 (qualityCode e.quality)
      ++ bitByte [e.substituted, e.disagree, e.clamped] ++ chanOrNone e.source ++ s16 e.rate
      ++ yes e.rateValid ++ u32 e.discharge ++ u8 (dischargeQualityCode e.dischargeQuality)
      ++ u8 (e.level + 16 * causeCode e.cause) ++ [e.generation]
  | .timeStep old new => w32 old ++ w32 new
  | .warning time old new cause =>
    w32 time ++ u8 old ++ u8 new ++ u8 (warningCauseCode cause)
      ++ u8 (match cause with
        | .rule n => n
        | .manual => 0
        | .holdExpiry => 0
        | .ack => 0)
  | .run e =>
    beBytes 2 e.number.toNat ++ w32 e.openTime ++ w32 e.closeTime
      ++ u8 (runOutcomeCode e.outcome + 16 * shiftStatusCode e.status)
      ++ s16 (absentZero e.meanStage) ++ beU 4 (absentZero e.discharge) ++ s16 e.shift
  | .channel time ch change =>
    w32 time ++ u8 (chanNumber ch) ++ u8 (channelChangeCode change)
  | .restart time kind =>
    w32 time ++ u8 (restartKindCode kind) ++ u8 (restartSourceCode kind)

/-- An item's 24 bytes: type, sequence, body, and 0 in every byte not named (11.6). -/
def itemBytes (i : RecordItem) : List Byte :=
  let bytes := match i with
    | .entry sequence e => entryType e :: (u32 sequence ++ entryBody e)
    | .gap first count => 0x80 :: (u32 first ++ u32 count)
    | .damaged sequence => 0x81 :: u32 sequence
  bytes ++ List.replicate (24 - bytes.length) 0

end Sys2Proof.Machine
end

