-- ==== Sys2Proof/Machine/Ops.lean ====
section
/-! DEFINITION. The operations that every block shares: the clock, the ports' events and answers, reports
to the fault unit, and the record memory with its appends. -/

namespace Sys2Proof.Machine

/-! ### The elapsed-time counter -/

/-- Bring the elapsed-time counter to the reading `t` when `t` still lies ahead: the step that a timer's
expiry is takes place when the counter has reached it (R2, log entry 3). -/
def reach (t : U32) (s : State) : State :=
  if ahead t s.time.elapsed then s.withTime { s.time with elapsed := t } else s

/-! ### Pending events and ATTN -/

/-- Put an event into a set (R192). -/
def EventSet.insert (x : EventSet) : Event → EventSet
  | .sample => { x with sample := true }
  | .level => { x with level := true }
  | .fault => { x with fault := true }
  | .record => { x with record := true }
  | .opDone => { x with opDone := true }
  | .permit => { x with permit := true }
  | .siren => { x with siren := true }

/-- Whether a port's role receives an event (R192). -/
def receives : Event → Port → Bool
  | .sample, _ => true
  | .level, _ => true
  | .fault, _ => true
  | .record, .logger => true
  | .record, .cableway => false
  | .record, .warning => true
  | .opDone, .logger => false
  | .opDone, .cableway => true
  | .opDone, .warning => false
  | .permit, .logger => false
  | .permit, .cableway => true
  | .permit, .warning => true
  | .siren, .logger => false
  | .siren, .cableway => false
  | .siren, .warning => true

/-- An event enters the pending-event set of each port whose role receives it (R192). -/
def raiseEvent (e : Event) (s : State) : State :=
  s.withPorts (s.ports.map fun p u =>
    if receives e p then { u with events := u.events.insert e } else u)

/-- A PERMIT event with the copy of the permit record handed with it (R162, R192). -/
def raisePermit (copy : PermitRecord) (s : State) : State :=
  s.withPorts (s.ports.map fun p u =>
    if receives .permit p then
      { u with events := u.events.insert .permit, permitCopy := some copy }
    else u)

/-- The RECORD event of a reader's port stands in the set while its cursor is below the next sequence
(R78, R192). -/
def syncRecord (s : State) : State :=
  s.withPorts
    { s.ports with
      logger :=
        { s.ports.logger with
          events := { s.ports.logger.events with
            record := decide (s.record.loggerCursor < s.record.next) } }
      warning :=
        { s.ports.warning with
          events := { s.ports.warning.events with
            record := decide (s.record.warningCursor < s.record.next) } } }

/-- Whether an event set and a mask share an event. -/
def EventSet.meets (x m : EventSet) : Bool :=
  (x.sample && m.sample) || (x.level && m.level) || (x.fault && m.fault)
    || (x.record && m.record) || (x.opDone && m.opDone) || (x.permit && m.permit)
    || (x.siren && m.siren)

/-- Whether a port's ATTN line is asserted (R193): it follows the port state, the pending-event set and
the mask, so it is computed and not stored. -/
def attn (s : State) (p : Port) : Bool :=
  let u := s.ports.get p
  (match u.phase with
    | .ready _ => true
    | .idle => false
    | .busy _ => false
    | .halted _ => false) || u.events.meets u.mask

/-! ### Answers -/

/-- An answer without payload. -/
def plain (st : Status) : Answer := { status := st, payload := [] }

/-- An answer OK with a payload. -/
def okWith (payload : List Byte) : Answer := { status := .ok, payload := payload }

/-- Whether a taken command is `c` and its block has not answered it yet. -/
def InBlock.awaits (b : InBlock) (c : Instr) : Bool :=
  decide (b.command = some c.asked) && b.answer.isNone

/-- Give an answer to the first of the abandoned commands that awaits it; `none` when none does. -/
def answerAbandoned (c : Instr) (a : Answer) : List InBlock → Option (List InBlock)
  | [] => none
  | b :: bs =>
    if b.awaits c then some ({ b with answer := some a } :: bs)
    else
      match answerAbandoned c a bs with
      | some bs' => some (b :: bs')
      | none => none

/-- The block's answer to command `c` waits with the command it answers until it is placed in the
response buffer (R185): with an abandoned command taken earlier, or with the command the port is BUSY
with. A command row without a taken frame is answered to `lastAnswer` alone (log entry 2). -/
def PortUnit.answer (u : PortUnit) (c : Instr) (a : Answer) : PortUnit :=
  let u := { u with lastAnswer := some a }
  match answerAbandoned c a u.abandoned with
  | some bs => { u with abandoned := bs }
  | none =>
    match u.phase with
    | .busy b => if b.awaits c then { u with phase := .busy { b with answer := some a } } else u
    | .idle => u
    | .ready _ => u
    | .halted _ => u

/-- Give the block's answer to command `c` of port `p`. -/
def giveAnswer (p : Port) (c : Instr) (a : Answer) (s : State) : State :=
  s.withPorts (s.ports.set p ((s.ports.get p).answer c a))

/-- Whether the command table's column names the port (R190). -/
def permitted (p : Port) (c : Instr) : Bool :=
  match encodeRequest c with
  | some (code, _) => codeAllows code p
  | none => false

/-- The shape of a request-borne command's step: nothing while the part is held in reset; DENIED when
its column does not name the port (R190); otherwise the owning block's work and its answer. -/
def command (p : Port) (c : Instr) (work : State → State × Answer) (s : State) :
    Host.Outcome State Fault Refusal :=
  if s.held.isSome then .next s
  else if permitted p c then
    let r := work s
    .next (giveAnswer p c r.2 r.1)
  else .next (giveAnswer p c (plain .denied) s)

/-! ### Reports to the fault unit -/

/-- The bit of a fault (R174). -/
def faultBit : StationFault → Nat
  | .channelFailed c => chanNumber c
  | .primaryPromoted => 4
  | .stageHeld => 5
  | .disagree => 6
  | .stageClamped => 7
  | .recordCorrected => 8
  | .recordDamaged => 9
  | .recordMappedOut => 10
  | .recordMapFull => 11
  | .readerLoss => 12
  | .timeStep => 13
  | .cableLoadTrip => 14
  | .cableStall => 15
  | .cableLimit => 16
  | .encoderFault => 17
  | .sirenTimeout => 18
  | .aboveRating => 19
  | .restart => 20

/-- The fixed severity of a fault (R174). -/
def faultSeverity : StationFault → Severity
  | .channelFailed _ => .degraded
  | .primaryPromoted => .notice
  | .stageHeld => .severe
  | .disagree => .degraded
  | .stageClamped => .degraded
  | .recordCorrected => .notice
  | .recordDamaged => .degraded
  | .recordMappedOut => .degraded
  | .recordMapFull => .severe
  | .readerLoss => .notice
  | .timeStep => .notice
  | .cableLoadTrip => .severe
  | .cableStall => .degraded
  | .cableLimit => .degraded
  | .encoderFault => .severe
  | .sirenTimeout => .notice
  | .aboveRating => .notice
  | .restart => .notice

/-- The word with a fault's bit alone. -/
def faultMask (f : StationFault) : U32 := 1#32 <<< faultBit f

/-- Whether a fault's bit is set in the word. -/
def bitSet (word : U32) (f : StationFault) : Bool := word.getLsbD (faultBit f)

/-- The fault detail after a report (R178). -/
def detailAfter (time : U32) (r : Report) (d : Option FaultDetail) : Option FaultDetail :=
  match d with
  | none => some { fault := r.fault, time := time, arg := r.arg }
  | some held =>
    if severityCode (faultSeverity held.fault) ≤ severityCode (faultSeverity r.fault) then
      some { fault := r.fault, time := time, arg := r.arg }
    else some held

/-- The fault unit after one report (R175 steps 1 and 2). -/
def takeReport (time : U32) (f : FaultUnit) (r : Report) : FaultUnit :=
  { f with word := f.word ||| faultMask r.fault, detail := detailAfter time r f.detail }

/-- The fault unit after a batch, report by report in order (R175). -/
def takeReports (time : U32) (f : FaultUnit) (rs : List Report) : FaultUnit :=
  rs.foldl (takeReport time) f

/-- The faults of a batch whose bit the batch took from 0 to 1 (R179). -/
def newlySet (word : U32) (rs : List Report) : List StationFault :=
  (rs.map (·.fault)).filter fun f => !bitSet word f

/-- Whether a threshold admits a severity (R179). -/
def admits : Threshold → Severity → Bool
  | .quiet, _ => false
  | .severe, sev => decide (sev = .severe)
  | .degraded, sev => decide (sev ≠ .notice)
  | .all, _ => true

/-- The FAULT events of a changing batch: one on each port whose threshold admits a bit that went from 0
to 1 (R179). -/
def raiseFaultEvents (fresh : List StationFault) (s : State) : State :=
  s.withPorts (s.ports.map fun p u =>
    if fresh.any (fun f => admits (s.faults.thresholds.get p) (faultSeverity f)) then
      { u with events := u.events.insert .fault }
    else u)

/-- Add to what the step still has to do. -/
def State.owe (s : State) (w : List Work) : State := s.withDue (s.due ++ w)

/-- The fault unit takes a batch (R175): bits and detail, FAULT events, and one fault round owed when the
batch changed the word. -/
def takeBatch (rs : List Report) (s : State) : State :=
  let fresh := newlySet s.faults.word rs
  let s1 := s.withFaults (takeReports s.time.station s.faults rs)
  if fresh.isEmpty then s1
  else (raiseFaultEvents fresh s1).owe [.faultRound s1.faults.word]

/-! ### The record memory -/

/-- What the list shows at a key; a key that is not listed shows the default `d`. -/
def Sparse.read {α : Type} (d : α) : List (Nat × α) → Nat → α
  | [], _ => d
  | (k, v) :: m, a => if a = k then v else Sparse.read d m a

/-- Write a key, keeping the keys strictly rising and no entry equal to the default. -/
def Sparse.write {α : Type} [DecidableEq α] (d : α) : List (Nat × α) → Nat → α → List (Nat × α)
  | [], a, v => if v = d then [] else [(a, v)]
  | (k, w) :: m, a, v =>
    if a < k then (if v = d then (k, w) :: m else (a, v) :: (k, w) :: m)
    else if a = k then (if v = d then m else (a, v) :: m)
    else (k, w) :: Sparse.write d m a v

/-- The canonical form: keys strictly rising, no entry equal to the default. -/
def Sparse.wf {α : Type} [DecidableEq α] (d : α) : List (Nat × α) → Bool
  | [] => true
  | (k, v) :: m => decide (v ≠ d) && m.all (fun e => decide (k < e.1)) && Sparse.wf d m

/-- The canonical form of the record memory's two lists. -/
def Record.wf (r : Record) : Bool := Sparse.wf .empty r.slots && Sparse.wf .clean r.cells

/-- The content of a slot (R69). -/
def Record.slot (r : Record) (n : Nat) : Slot := Sparse.read .empty r.slots n

/-- The physical condition of a slot. -/
def Record.cell (r : Record) (n : Nat) : CellCondition := Sparse.read .clean r.cells n

/-- Write a slot whole: a flipped bit is gone, a hard cell stays hard (R74, R84). -/
def Record.writeSlot (r : Record) (n : Nat) (c : Slot) : Record :=
  { r with
    slots := Sparse.write .empty r.slots n c
    cells := if r.cell n = .hard then r.cells else Sparse.write .clean r.cells n .clean }

/-- Whether a slot is mapped out (R69). -/
def Record.mappedOut (r : Record) (n : Nat) : Bool := r.mapOut.any fun e => decide (e.slot = n)

/-- Whether a sequence is named as lost in the map-out table (R86). -/
def Record.lost (r : Record) (q : Nat) : Bool := r.mapOut.any fun e => decide (e.lost = some q)

/-- How many sequences the map-out table names as lost. -/
def Record.lostCount (r : Record) : Nat := r.mapOut.countP fun e => e.lost.isSome

/-- The items held: entries and placeholders in usable slots (R69, R88). -/
def Record.held (r : Record) : Nat := r.next - r.oldest - r.lostCount

/-- The capacity (R69). -/
def Record.capacity (r : Record) : Nat := 4096 - r.mapOut.length

/-- Whether the record is full (R69). -/
def Record.full (r : Record) : Bool := decide (r.capacity ≤ r.held)

/-- The next usable slot after `p`, wrapping from 4,095 to 0 (R69). -/
def Record.nextUsable (r : Record) : Nat → Nat → Nat
  | 0, p => (p + 1) % 4096
  | fuel + 1, p =>
    if r.mappedOut ((p + 1) % 4096) then r.nextUsable fuel ((p + 1) % 4096) else (p + 1) % 4096

/-- The next usable slot before `p`, wrapping from 0 to 4,095 (R69). -/
def Record.prevUsable (r : Record) : Nat → Nat → Nat
  | 0, p => (p + 4095) % 4096
  | fuel + 1, p =>
    if r.mappedOut ((p + 4095) % 4096) then r.prevUsable fuel ((p + 4095) % 4096)
    else (p + 4095) % 4096

/-- The slot the next append goes into (R74). -/
def Record.nextSlot (r : Record) : Nat := r.nextUsable 4096 r.writePos

/-- The slot that is `n` usable slots before `p`. -/
def Record.back (r : Record) : Nat → Nat → Nat
  | 0, p => p
  | n + 1, p => r.back n (r.prevUsable 4096 p)

/-- The slot that holds a sequence, worked out from the write position, the usable slots and the lost
sequences, without reading a slot (R77). A write position that is itself mapped out holds no item, so
the newest item is then in the usable slot before it (R83). -/
def Record.slotOf (r : Record) (q : Nat) : Nat :=
  let newest := if r.mappedOut r.writePos then r.prevUsable 4096 r.writePos else r.writePos
  let lostAbove := r.mapOut.countP fun e =>
    match e.lost with
    | some l => decide (q < l)
    | none => false
  r.back (r.next - 1 - q - lostAbove) newest

/-- The sequence a slot's content carries. -/
def Slot.sequence? : Slot → Option Nat
  | .empty => none
  | .entry q _ => some q
  | .placeholder q => some q

/-- How a read of a slot is judged (R77, R81, R82). -/
inductive ReadJudgement where
  | good
  | correctable
  | bad (hard : Bool)
  deriving DecidableEq, Repr

/-- Judge the read of a slot for an expected sequence (R77, R81, R82). -/
def Record.judge (r : Record) (n expected : Nat) : ReadJudgement :=
  let right := decide ((r.slot n).sequence? = some expected)
  match r.cell n with
  | .clean => if right then .good else .bad false
  | .correctable => if right then .correctable else .bad false
  | .soft => .bad false
  | .hard => .bad true

/-- Enter a slot at the end of the map-out table (R86). -/
def Record.mapSlot (r : Record) (n : Nat) (lost : Option Nat) : Record :=
  { r with mapOut := r.mapOut ++ [{ slot := n, lost := lost }] }

/-- Drop the lost-sequence field of a sequence that leaves the record (R75 step 1). -/
def Record.dropLost (r : Record) (q : Nat) : Record :=
  { r with mapOut := r.mapOut.map fun e => if e.lost = some q then { e with lost := none } else e }

/-- The READER_LOSS reports of a discard step, the logger port's first (R75, R175). -/
def Record.lossReports (r : Record) (q : Nat) : List Report :=
  let loss : Report := { fault := .readerLoss, arg := .number q }
  (if r.loggerCursor ≤ q then [loss] else []) ++ (if r.warningCursor ≤ q then [loss] else [])

/-- The overwrite check of the slot about to be freed (R76): the record after it, its reports, and
whether the slot is freed. -/
def Record.overwriteCheck (r : Record) : Record × List Report × Bool :=
  let n := r.nextSlot
  match r.judge n r.oldest with
  | .good => (r, [], true)
  | .correctable => (r, [{ fault := .recordCorrected, arg := .number n }], true)
  | .bad false => (r, [{ fault := .recordDamaged, arg := .number r.oldest }], true)
  | .bad true =>
    if r.mapOut.length < 16 then
      (r.mapSlot n none, [{ fault := .recordMappedOut, arg := .number n }], false)
    else
      (r, [{ fault := .recordDamaged, arg := .number r.oldest },
           { fault := .recordMapFull, arg := .number n }], true)

/-- One discard step (R75): the record after it, its batch, and whether it freed a slot. -/
def Record.discard (r : Record) : Record × List Report × Bool :=
  let q := r.oldest
  if r.lost q then
    ({ r.dropLost q with oldest := q + 1 }, r.lossReports q, false)
  else
    let c := r.overwriteCheck
    ({ c.1 with oldest := q + 1 }, c.2.1 ++ r.lossReports q, c.2.2)

/-- Discard steps until one has freed a slot (R75). The fuel counts the steps that free none: one for
each lost sequence and one for each slot still to be mapped out. -/
def discardSteps : Nat → State → State
  | 0, s => s
  | fuel + 1, s =>
    let d := s.record.discard
    let s1 := takeBatch d.2.1 (s.withRecord d.1)
    if d.2.2 then s1 else discardSteps fuel s1

/-- Write the new item into the next usable slot after the write position (R74). -/
def Record.place (r : Record) (e : Entry) : Record :=
  let n := r.nextSlot
  { r.writeSlot n (.entry r.next e) with next := r.next + 1, writePos := n }

/-- The record after it has given out its last sequence number, before the RESTART entry of kind
RENUMBER (R70). -/
def Record.renumbered (r : Record) : Record :=
  { r with
    slots := r.slots.filter fun x => r.mappedOut x.1
    mapOut := r.mapOut.map fun e => { e with lost := none }
    oldest := 1, next := 1, loggerCursor := 1, warningCursor := 1
    writePos := r.prevUsable 4096 0 }

/-- The record after an append of `e` for which a slot is free, renumbering itself when the entry took
the last sequence number (R70, R74). -/
def Record.placeOrRenumber (r : Record) (e : Entry) (time : U32) : Record :=
  let r1 := r.place e
  if r1.next = 4294967296 then r1.renumbered.place (.restart time .renumber) else r1

/-- Append an entry (R73 to R75), with the discard steps a full record needs, renumbering (R70), and the
RECORD events of the readers it leaves behind. -/
def append (e : Entry) (s : State) : State :=
  let s1 := if s.record.full then discardSteps (s.record.mapOut.length + 18) s else s
  syncRecord (s1.withRecord (s1.record.placeOrRenumber e s1.time.station))

end Sys2Proof.Machine
end

