-- ==== Sys2Proof/Machine/RatingOps.lean ====
section
/-! DEFINITION. The rating unit's computations: the discharge (R57 to R61), the shift (R62, R63) and the
derived shift of a completed run (R64, R65). -/

namespace Sys2Proof.Machine

/-! ### The discharge -/

/-- The effective stage (R57). -/
def effectiveStage (value shift : Int) : Int := clampInt (-32000) 32000 (value + shift)

/-- The interpolated discharge of a stage inside the table (R59). -/
def interpolate : List TablePoint → Int → Nat
  | a :: b :: rest, h =>
    if a.stage ≤ h ∧ h < b.stage then
      a.discharge
        + (roundHalfUp (((b.discharge : Int) - a.discharge) * (h - a.stage)) (b.stage - a.stage)).toNat
    else interpolate (b :: rest) h
  | [_], _ => 0
  | [], _ => 0

/-- The discharge of an effective stage and its quality for a read stage (R58). -/
def rateStage (table : List TablePoint) (h : Int) : Nat × DischargeQuality :=
  match table.head?, table.getLast? with
  | some first, some top =>
    if h ≤ first.stage then (0, .zeroFlow)
    else if top.stage ≤ h then (top.discharge, .aboveRating)
    else (interpolate table h, .rated)
  | none, _ => (0, .noRating)
  | some _, none => (0, .noRating)

/-- What a discharge computation gives (R57, R58): the discharge, its quality, the effective stage when one
was formed, and whether it reached the ABOVE_RATING row or its HELD form (R61). -/
structure DischargeResult where
  discharge : Nat
  quality   : DischargeQuality
  effective : Option Int
  above     : Bool
  deriving DecidableEq, Repr

/-- The discharge of a station stage under the table and shift in force (R57, R58). -/
def computeDischarge (r : Rating) (value : Option Int) (quality : Quality) : DischargeResult :=
  match value with
  | none => { discharge := 0, quality := .none, effective := none, above := false }
  | some v =>
    let h := effectiveStage v r.shift
    match r.table with
    | none => { discharge := 0, quality := .noRating, effective := some h, above := false }
    | some t =>
      let q := rateStage t h
      { discharge := q.1
        quality := if quality = .held then .held else q.2
        effective := some h
        above := decide (q.2 = .aboveRating) }

/-- The report of a computation above the rating (R61). -/
def DischargeResult.reports (d : DischargeResult) : List Report :=
  if d.above then [{ fault := .aboveRating, arg := .mm (d.effective.getD 0) }] else []

/-- The rating unit after a computation: the effective stage is recorded when one was formed (R57). -/
def Rating.noted (r : Rating) (d : DischargeResult) : Rating :=
  match d.effective with
  | some h => { r with lastEffective := some h }
  | none => r

/-- The station stage record with the discharge and generation fields written (R60). -/
def StageRecord.withDischarge (x : StageRecord) (d : DischargeResult) (generation : Byte) : StageRecord :=
  { x with discharge := d.discharge, dischargeQuality := d.quality, generation := generation }

/-- A recomputation of the discharge (R60): from the station stage as it stands, with its report (R61). -/
def recompute (s : State) : State :=
  let d := computeDischarge s.rating s.stage.record.value s.stage.record.quality
  takeBatch d.reports
    ((s.withRating (s.rating.noted d)).withStage
      { s.stage with record := s.stage.record.withDischarge d s.rating.generation })

/-! ### The shift -/

/-- A shift clamped to the limit (R62, R63, R66). -/
def clampShift (limit : Nat) (v : Int) : Int := clampInt (-(limit : Int)) limit v

/-- Install a shift, clamped to the limit in force (R62, R66). -/
def installShift (v : Int) (s : State) : State :=
  s.withRating { s.rating with shift := clampShift s.rating.shiftLimit v }

/-! ### The derived shift (R64, R65) -/

/-- The first rising segment whose discharges contain Q_meas gives the rated stage (R65 steps 2, 3). -/
def ratedStage : List TablePoint → Int → Option Int
  | a :: b :: rest, q =>
    if (a.discharge : Int) ≤ q ∧ q ≤ b.discharge ∧ a.discharge < b.discharge then
      some (a.stage
        + roundHalfUp ((b.stage - a.stage) * (q - a.discharge)) ((b.discharge : Int) - a.discharge))
    else ratedStage (b :: rest) q
  | [_], _ => none
  | [], _ => none

/-- What the rating unit hands back for a completed run (R64). -/
structure DerivedShift where
  status  : ShiftStatus
  shift   : Int
  clamped : Bool
  deriving DecidableEq, Repr

/-- The derived shift of a completed run (R64, R65). -/
def deriveShift (r : Rating) (q meanStage : Int) : DerivedShift :=
  match r.table with
  | none => { status := .noRating, shift := 0, clamped := false }
  | some t =>
    let zeroFlow := match t.head? with
      | some first => if q = 0 ∧ first.discharge = 0 then some first.stage else none
      | none => none
    let rated := match zeroFlow with
      | some h => some h
      | none => ratedStage t q
    match rated with
    | none => { status := .outOfRating, shift := 0, clamped := false }
    | some h =>
      let d := h - meanStage
      { status := .available, shift := clampShift r.shiftLimit d
        clamped := decide (clampShift r.shiftLimit d ≠ d) }

end Sys2Proof.Machine
end

