-- ==== Sys2Proof/Machine/RunOps.lean ====
section
/-! DEFINITION. The gauging run unit: the working vertical (R144 to R147), the stack (R149), the results of
a completed run (R154 to R156) and the close (R157). -/

namespace Sys2Proof.Machine

/-! ### The working vertical -/

/-- Clear the working vertical, which makes the meter placement absent (R144). -/
def clearWorking (s : State) : State :=
  (s.withWorking .empty).withCableway { s.cableway with placement := none }

/-- The point velocity of an observation (R147). -/
def pointVelocity (a b ppr pulses period : Nat) : Nat :=
  if pulses = 0 then 0
  else min 20000 (a + (roundHalfUp ((b : Int) * pulses) ((ppr : Int) * period)).toNat)

/-- A sounding arrives at the working vertical: the observations are emptied (R145). -/
def handSounding (x : Sounding) (s : State) : State :=
  s.withWorking { sounding := some x, observations := [] }

/-- An observation joins at the newest end; of four held, the oldest leaves first (R146). -/
def Working.observe (w : Working) (o : Observation) : Working :=
  { w with
    observations :=
      (if 4 ≤ w.observations.length then w.observations.drop (w.observations.length - 3)
       else w.observations) ++ [o] }

/-- The newest observation at a fraction (R146, R151). -/
def Working.newestAt (w : Working) (fraction : Nat) : Option Observation :=
  w.observations.reverse.find? fun o => decide (o.fraction = fraction)

/-! ### The run record -/

/-- The run that is OPEN, if there is one (R141). -/
def RunRecord.openBody (r : RunRecord) : Option RunBody :=
  match r.body with
  | some b => if b.closing.isNone then some b else none
  | none => none

/-- Whether the run record is OPEN (R141). -/
def RunRecord.isOpen (r : RunRecord) : Bool := r.openBody.isSome

/-- The run's stage list: the open stage, then the stages of the verticals that carry one (8.1). -/
def RunBody.stageList (b : RunBody) : List Int :=
  b.openStage :: b.stack.filterMap fun i => i.stage.map (·.1)

/-! ### The stack (R149) -/

/-- Whether an item is an edge of kind END. -/
def ItemKind.isFinish : ItemKind → Bool
  | .finish => true
  | .start => false
  | .vertical _ => false

/-- Whether an item is a START edge. -/
def ItemKind.isStart : ItemKind → Bool
  | .start => true
  | .finish => false
  | .vertical _ => false

/-- Whether an item is a VERTICAL. -/
def ItemKind.isVertical : ItemKind → Bool
  | .vertical _ => true
  | .start => false
  | .finish => false

/-- Whether the stack is closed: an END edge is present, as its last item (R149). -/
def stackClosed (st : List StackItem) : Bool :=
  match st.getLast? with
  | some i => i.kind.isFinish
  | none => false

/-- Whether a distance lies beyond the newest item (R149). -/
def liesBeyond (b : RunBody) (d : Int) : Bool :=
  match b.stack.getLast? with
  | none => false
  | some newest =>
    match b.direction with
    | .ascending => decide (newest.distance < d)
    | .descending => decide (d < newest.distance)
    | .unset => decide (d ≠ newest.distance)

/-- Push an item as the newest; a second item sets the direction (R149). -/
def RunBody.push (b : RunBody) (i : StackItem) : RunBody :=
  { b with
    stack := b.stack ++ [i]
    direction :=
      match b.stack with
      | [first] => if first.distance < i.distance then .ascending else .descending
      | [] => b.direction
      | _ :: _ :: _ => b.direction }

/-- Pop the newest item; with one item or none left the direction is UNSET again (R152). -/
def RunBody.pop (b : RunBody) : RunBody :=
  let st := b.stack.dropLast
  { b with stack := st, direction := if st.length ≤ 1 then .unset else b.direction }

/-! ### The results (R154 to R156) -/

/-- The width factors of the items at these distances, `before` being the distance of the item before
the first of them; at an end the missing neighbour is the item itself (R154). -/
def widthFactors : Option Int → List Int → List Int
  | _, [] => []
  | before, d :: rest => |rest.headD d - before.getD d| :: widthFactors (some d) rest

/-- The items with their width factors. -/
def weighted (st : List StackItem) : List (StackItem × Int) :=
  st.zip (widthFactors none (st.map (·.distance)))

/-- The sum of the partial terms (R154). -/
def partialSum (st : List StackItem) : Int :=
  ((weighted st).map fun x => (x.1.velocity : Int) * x.1.depth * x.2).sum

/-- The sum of depth × width factor (R155). -/
def areaSum (st : List StackItem) : Int := ((weighted st).map fun x => x.1.depth * x.2).sum

/-- Q of a completed run in L/s (R154). -/
def runDischarge (st : List StackItem) : Int :=
  min 4294967295 (roundHalfUp (partialSum st) 2000000)

/-- The mean velocity of a completed run from the rounded Q and the rounded area (R155). An area below 0
is stated nowhere (log entry 10). -/
def runVelocity (q area : Int) : Int :=
  if area = 0 then 0
  else if 0 < area then min 20000 (roundHalfUp (q * 1000000) area)
  else Config.negativeAreaVelocity q area

/-- The greatest of the values, `v` among them. -/
def greatest (v : Int) (vs : List Int) : Int := vs.foldl max v

/-- The smallest of the values, `v` among them. -/
def smallest (v : Int) (vs : List Int) : Int := vs.foldl min v

/-- The magnitude of the distance between the first and the last item (R155). -/
def sectionWidth (st : List StackItem) : Int :=
  match st.head?, st.getLast? with
  | some a, some z => |z.distance - a.distance|
  | none, _ => 0
  | some _, none => 0

/-- The results of a COMPLETE close (R154 to R156). -/
def runResults (b : RunBody) : RunResults :=
  let q := runDischarge b.stack
  let area := roundHalfUp (areaSum b.stack) 2
  let stages := b.stageList
  let change := greatest b.openStage stages - smallest b.openStage stages
  { q := q, area := area, width := sectionWidth b.stack, velocity := runVelocity q area
    meanStage := roundHalfUp stages.sum stages.length
    stageChange := change
    unsteady := decide ((b.unsteady : Int) < change)
    low := b.stack.any fun i => i.kind.isVertical && i.low
    saturated := b.stack.any fun i => i.kind.isVertical && i.saturated }

/-! ### The close (R157) -/

/-- What a close writes (R157 steps 1 and 2). -/
def closingOf (r : Rating) (b : RunBody) (outcome : RunOutcome) (time : U32) : Closing :=
  match outcome with
  | .complete =>
    let x := runResults b
    let d := deriveShift r x.q x.meanStage
    { time := time, outcome := outcome, results := some x, status := d.status, shift := d.shift
      clamped := d.clamped, generation := r.generation }
  | .abandonedOperator | .abandonedFlood | .abandonedFault | .abandonedReset =>
    { time := time, outcome := outcome, results := none, status := .notComputed, shift := 0
      clamped := false, generation := r.generation }

/-- The RUN entry of a close (R159). A Q below 0 (log entry 10) stands in it as in the run record; no field
states it (log entry 7). -/
def runEntry (number : U16) (b : RunBody) (c : Closing) : RunEntry :=
  { number := number, openTime := b.openTime, closeTime := c.time, outcome := c.outcome
    meanStage := c.results.map (·.meanStage), discharge := c.results.map (·.q)
    status := c.status, shift := c.shift }

/-- Every close of the run, steps 1 to 4 of R157; when the run is not OPEN nothing changes (R158). -/
def closeRun (outcome : RunOutcome) (s : State) : State :=
  match s.run.openBody with
  | none => s
  | some b =>
    let c := closingOf s.rating b outcome s.time.station
    let s1 := s.withRun { s.run with body := some { b with closing := some c } }
    append (.run (runEntry s.run.number b c)) (clearWorking s1)

end Sys2Proof.Machine
end

