-- ==== Sys2Proof/Machine/Sampling.lean ====
section
/-! DEFINITION. What the sampling schedule and the stage channels share: due instants, pre-warm, the mode,
the start of an acquisition, bursts and readings (chapters 1 and 2). -/

namespace Sys2Proof.Machine

/-! ### Channels -/

/-- The channel record of `c`. -/
def chan (c : Chan) (s : State) : Channel := s.chans.get c

/-- Replace the channel record of `c`. -/
def setChan (c : Chan) (x : Channel) (s : State) : State := s.withChans (s.chans.set c x)

/-- The warm-up time of a warm-up code, in ms (R20). -/
def warmUpMs : Nat → Nat
  | 1 => 100
  | 2 => 500
  | 3 => 2000
  | 4 => 5000
  | 5 => 10000
  | _ => 0

/-- Whether a channel is powered (R15). -/
def ChanState.powered : ChanState → Bool
  | .warming => true
  | .on => true
  | .disabled => false
  | .sleeping => false
  | .failed => false

/-- The channel enters WARMING; with warm-up code 0 it goes to ON at once (R23). -/
def Channel.warm (x : Channel) (now : U32) : Channel :=
  if warmUpMs x.config.warmUp = 0 then { x with state := .on, warmUntil := none }
  else { x with state := .warming, warmUntil := some (after now (warmUpMs x.config.warmUp)) }

/-- The channel is unpowered in the state given: its warm-up is cancelled and its burst gone (R15, R23). -/
def Channel.unpower (x : Channel) (st : ChanState) : Channel :=
  { x with state := st, warmUntil := none, burst := none }

/-- The channel enters service from DISABLED or FAILED by its power mode (R22, R25). -/
def Channel.serve (x : Channel) (now : U32) : Channel :=
  match x.config.mode with
  | .continuous => x.warm now
  | .switched => x.unpower .sleeping

/-- Set a channel's mark in the pre-warm set. -/
def setPreWarm (c : Chan) (b : Bool) (s : State) : State :=
  s.withSchedule { s.schedule with preWarm := s.schedule.preWarm.set c b }

/-! ### Due instants (R8, R9) -/

/-- The interval in force (R7). -/
def Schedule.interval (x : Schedule) : Nat :=
  match x.mode with
  | .normal => x.normal
  | .fast => x.fast

/-- The smallest multiple of the interval greater than `now`, or 0 when none is below 2^32 (R9). -/
def nextMultiple (interval : Nat) (now : U32) : U32 :=
  let m := (now.toNat / interval + 1) * interval
  if m < 4294967296 then BitVec.ofNat 32 m else 0

/-- The elapsed-time reading at which station time will count to the next due instant (R9). -/
def dueReading (s : State) : U32 :=
  s.time.nextCount + 1000#32 * (s.schedule.nextDue - s.time.station - 1)

/-- A channel's pre-warm point: its warm-up time before the next due instant (R10). -/
def preWarmReading (c : Chan) (s : State) : U32 :=
  dueReading s - BitVec.ofNat 32 (warmUpMs (chan c s).config.warmUp)

/-- Revise one channel of the pre-warm set after the next due instant has been placed again: it goes
back to SLEEPING when its new point still lies ahead (R10, R26). -/
def revisePreWarm (s : State) (c : Chan) : State :=
  if s.schedule.preWarm.get c && ahead (preWarmReading c s) s.time.elapsed then
    setPreWarm c false (setChan c ((chan c s).unpower .sleeping) s)
  else s

/-- Place the next due instant again and revise the pre-warm set (R9, R10). -/
def placeDue (s : State) : State :=
  let x := s.schedule
  let s1 := s.withSchedule { x with nextDue := nextMultiple x.interval s.time.station }
  allChans.foldl revisePreWarm s1

/-! ### The mode (R7) -/

/-- The mode by the two conditions of R7. -/
def modeNow (s : State) : Mode :=
  if (s.schedule.fastLevel ≠ 0 ∧ s.schedule.fastLevel ≤ s.warning.level)
      ∨ s.permit.record.state = .open_ ∨ s.permit.record.state = .standingDown then .fast
  else .normal

/-- The schedule decides its mode again; only a change of mode places the next due instant again (R7). -/
def decideMode (s : State) : State :=
  if modeNow s = s.schedule.mode then s
  else placeDue (s.withSchedule { s.schedule with mode := modeNow s })

/-! ### Bursts (R27) -/

/-- The RANGING channel sends one measurement request and waits for its reply (R19). -/
def startSlot (c : Chan) (s : State) : State :=
  match c with
  | .ch3 => s.withRanging { requests := s.ranging.requests + 1, reply := none }
  | .ch0 => s
  | .ch1 => s
  | .ch2 => s

/-- A pass of a burst begins at the reading `now` with an empty list (R27, R30). -/
def startPass (c : Chan) (pass : Pass) (now : U32) (s : State) : State :=
  let x := chan c s
  startSlot c (setChan c { x with burst := some { pass := pass, readings := [], slotEnds := after now 100 } } s)

/-- Whether a channel is a participant still to finish (R11). -/
def awaited (c : Chan) (s : State) : Bool :=
  match s.schedule.acq with
  | some a => a.still.get c
  | none => false

/-- The channel goes to ON at the end of its warm-up, and its burst begins if the acquisition in flight
awaits it (R23, R27). -/
def burstIfAwaited (c : Chan) (s : State) : State :=
  if (chan c s).state = .on ∧ awaited c s then startPass c .first s.time.elapsed s else s

/-! ### Acquisitions (R11, R12) -/

/-- Whether a channel takes part in an acquisition that starts now (R11). -/
def participates (x : Channel) : Bool := decide (x.state ≠ .disabled) && decide (x.state ≠ .failed)

/-- Take one channel into the acquisition: a sleeping participant is woken, each leaves the pre-warm set,
and one that is ON begins its burst (R11 steps 2 to 4). -/
def takeIn (s : State) (c : Chan) : State :=
  if awaited c s then
    let s1 := setPreWarm c false s
    let s2 :=
      if (chan c s1).state = .sleeping then setChan c ((chan c s1).warm s1.time.elapsed) s1 else s1
    burstIfAwaited c s2
  else s

/-- An acquisition starts (R11); its completion is owed, and takes place now if it has no participants
(R12). -/
def startAcquisition (sampleTime : U32) (cause : Cause) (s : State) : State :=
  let who := s.chans.map fun _ x => participates x
  let a : Acquisition :=
    { sampleTime := sampleTime, cause := cause, participants := who, still := who
      handed := .all none }
  allChans.foldl takeIn (s.withSchedule { s.schedule with acq := some a })

/-- Whether no participant is still to finish (R12). -/
def Acquisition.finished (a : Acquisition) : Bool := allChans.all fun c => !a.still.get c

/-- A participant finishes: it leaves "still to finish" and hands its sample (R12, R36). -/
def finishParticipant (c : Chan) (h : Handed) (s : State) : State :=
  match s.schedule.acq with
  | none => s
  | some a =>
    if a.still.get c then
      (s.withSchedule { s.schedule with
        acq := some { a with still := a.still.set c false, handed := a.handed.set c (some h) } }).owe
        [.completion]
    else s

/-- A due instant that arrives while an acquisition is in flight is not taken: each channel of the
pre-warm set that is no participant goes back to SLEEPING (R11). -/
def passOverChannel (s : State) (c : Chan) : State :=
  match s.schedule.acq with
  | none => s
  | some a =>
    if s.schedule.preWarm.get c && !a.participants.get c then
      setPreWarm c false (setChan c ((chan c s).unpower .sleeping) s)
    else s

/-- A due instant arrives (R8): it starts an acquisition or is not taken (R11), and the next due instant
is placed (R9). -/
def dueInstant (s : State) : State :=
  let taken :=
    match s.schedule.acq with
    | some _ => allChans.foldl passOverChannel s
    | none =>
      (startAcquisition s.time.station
        (match s.schedule.mode with
          | .normal => .normal
          | .fast => .fast) s).owe [.completion]
  placeDue taken

/-! ### Readings (R16 to R19, R28, R29) -/

/-- A reading that is no read failure, converted and checked against the window (R28, R29). -/
def convert (x : ChanConfig) (raw : Int) : Reading :=
  let mm := roundHalfAway (raw * x.gain) 1048576 + x.offset
  { raw := some raw
    outcome := if inRange x.low x.high mm then .valid else .outOfWindow
    value := some mm }

/-- A read failure with the raw value it has, if any. -/
def failedReading (raw : Option Int) : Reading := { raw := raw, outcome := .readFailure, value := none }

/-- The reading of a BRIDGE channel (R16). -/
def bridgeReading (x : ChanConfig) (count : U24) : Reading :=
  if count.toInt = -8388608 ∨ count.toInt = 8388607 then failedReading (some count.toInt)
  else convert x count.toInt

/-- The reading of the ENCODER channel, step-tested against its reference (R17, R18). -/
def encoderReading (x : ChanConfig) (e : EncoderInput) : Reading :=
  match e.stepRef with
  | none => convert x e.count.toInt
  | some ref =>
    if (x.maxStep : Int) < |(e.count - ref).toInt| then failedReading (some e.count.toInt)
    else convert x e.count.toInt

/-- The reading of the RANGING channel from the reply kept for the slot (R19). -/
def rangingReading (x : ChanConfig) (reply : Option RangingFrame) : Reading :=
  match reply with
  | none => failedReading none
  | some f => if f.good && f.echo then convert x f.distance.toNat else failedReading none

/-- The reading taken in the slot that ends (R27). -/
def slotReading (c : Chan) (count : U24) (s : State) : Reading :=
  let x := (chan c s).config
  match c with
  | .ch0 => bridgeReading x count
  | .ch1 => bridgeReading x count
  | .ch2 => encoderReading x s.encoder
  | .ch3 => rangingReading x s.ranging.reply

/-- Each ENCODER reading becomes the step reference, whatever its outcome (R18). -/
def noteReference (c : Chan) (s : State) : State :=
  match c with
  | .ch2 => s.withEncoder { s.encoder with stepRef := some s.encoder.count }
  | .ch0 => s
  | .ch1 => s
  | .ch3 => s

/-- Insert into a list in ascending order. -/
def insertAscending (v : Int) : List Int → List Int
  | [] => [v]
  | w :: ws => if v ≤ w then v :: w :: ws else w :: insertAscending v ws

/-- A list in ascending order. -/
def ascending : List Int → List Int
  | [] => []
  | v :: vs => insertAscending v (ascending vs)

/-- The values of the VALID readings of a pass (R30). -/
def validValues (rs : List Reading) : List Int :=
  rs.filterMap fun r => if r.outcome = .valid then r.value else none

/-- The value at place ceil(v/2) of the VALID values in ascending order (R30). -/
def median (vs : List Int) : Int := (ascending vs).getD ((vs.length + 1) / 2 - 1) 0

/-- How many VALID readings a pass needs: ceil(N/2) (R30). -/
def needed (n : Nat) : Nat := (n + 1) / 2

/-- The primary has gone to FAILED: a check that is CONTINUOUS and ON is promoted (R35). -/
def promotion (c : Chan) (s : State) : Option Chan :=
  if s.stage.primary = some c then
    match s.stage.check with
    | some k =>
      if (chan k s).config.mode = .continuous ∧ (chan k s).state = .on then some k else none
    | none => none
  else none

/-- The pairing of primary and check has changed: the disagreement count starts again (R46). -/
def StageUnit.rePair (u : StageUnit) : StageUnit := { u with disagreeCount := 0, lastDiff := none }

/-- A channel fails (R32) and is in no pre-warm set (R10), with the promotion of its check where it was the
primary (R35): the CHANNEL entries, then one batch of CHANNEL_FAILED and PRIMARY_PROMOTED (R175). That the
entries, with the discard batches of a full record, come before that batch is the model's choice (log entry
39). -/
def failChannel (c : Chan) (s : State) : State :=
  let s1 := setPreWarm c false (setChan c ((chan c s).unpower .failed) s)
  let s2 := append (.channel s1.time.station c .failed) s1
  let failed : Report := { fault := .channelFailed c, arg := .chan c }
  match promotion c s2 with
  | none => takeBatch [failed] s2
  | some k =>
    let s3 := s2.withStage { s2.stage.rePair with primary := some k, check := none }
    let s4 := append (.channel s3.time.station k .promoted) s3
    takeBatch [failed, { fault := .primaryPromoted, arg := .chan k }] s4

/-- A burst ends with the pass that decides it (R30 to R32): the last sample, the missing count, the
sample handed to the acquisition, and the channel's next state. -/
def endBurst (c : Chan) (b : Burst) (vs : List Int) (good : Bool) (s : State) : State :=
  let x := chan c s
  let time := match s.schedule.acq with
    | some a => a.sampleTime
    | none => s.time.station
  let sample : LastSample :=
    { time := time, value := if good then some (median vs) else none, v := vs.length
      retried := decide (b.pass = .retry) }
  let x1 : Channel :=
    { x with burst := none, lastSample := some sample, missing := if good then 0 else x.missing + 1 }
  let handed : Handed := if good then .valid (median vs) else .missing
  if !good && decide (x1.config.f ≤ x1.missing) then
    finishParticipant c handed (failChannel c (setChan c { x1 with missing := x1.config.f } s))
  else
    finishParticipant c handed
      (match x1.config.mode with
        | .continuous => setChan c x1 s
        | .switched => setPreWarm c false (setChan c (x1.unpower .sleeping) s))

/-- A reading slot ends (R27): the reading joins the pass, and a full pass is judged (R30). -/
def slotEnd (c : Chan) (count : U24) (b : Burst) (s : State) : State :=
  let r := slotReading c count s
  let s1 := noteReference c (reach b.slotEnds s)
  let readings := b.readings ++ [r]
  let x := { chan c s1 with lastRaw := some r }
  if readings.length < x.config.n then
    startSlot c (setChan c
      { x with burst := some { b with readings := readings, slotEnds := after b.slotEnds 100 } } s1)
  else
    let vs := validValues readings
    let s2 := setChan c x s1
    if needed x.config.n ≤ vs.length then endBurst c b vs true s2
    else
      match b.pass with
      | .first => startPass c .retry b.slotEnds s2
      | .retry => endBurst c b vs false s2

end Sys2Proof.Machine
end

