-- ==== Sys2Proof/Machine/Motion.lean ====
section
/-! DEFINITION. The cableway's motion (chapter 7) and the permit that stands over it (chapter 9): drives,
steps, watches, the ends of operations, halts, the stand-down and the retract. -/

namespace Sys2Proof.Machine

/-! ### Changes of the permit -/

/-- A change of the permit's state (R162): the record, the PERMIT events with their copy, and the
schedule's new decision. A report that leaves the state as it was is no change. -/
def permitChange (st : PermitState) (cause : PermitCause) (s : State) : State :=
  if s.permit.record.state = st then s
  else
    let r : PermitRecord := { state := st, cause := cause, time := s.time.station }
    decideMode (raisePermit r (s.withPermit { s.permit with record := r }))

/-- The permit handles a fault report of the cableway unit (R170). -/
def permitReport (f : HaltFault) (s : State) : State :=
  match s.permit.record.state with
  | .open_ => permitChange .halted (.halt f) (closeRun .abandonedFault s)
  | .standingDown => permitChange .halted (.halt f) s
  | .closed => if f = .loadTrip then permitChange .halted (.halt f) s else s
  | .halted => s

/-! ### Positions (R122) -/

/-- A position in mm from a count and a scale (R122). -/
def positionOf (count : U32) (scale : Nat) : Int := roundHalfAway (count.toInt * scale) 1000

/-- The traverse position x (R122). -/
def Cableway.x (c : Cableway) : Int := positionOf c.traverseCount c.config.traverseScale

/-- The reel length (R122). -/
def Cableway.reel (c : Cableway) : Int := positionOf c.reelCount c.config.reelScale

/-! ### Axes and drives -/

/-- The axis a direction output drives. -/
def Direction.axis : Direction → Axis
  | .traverseOut => .traverse
  | .traverseIn => .traverse
  | .reelDown => .reel
  | .reelUp => .reel

/-- The limit toward which a direction moves; reel DOWN moves toward none (R136). -/
def Direction.limit : Direction → Option Limit
  | .traverseIn => some .home
  | .traverseOut => some .far
  | .reelUp => some .top
  | .reelDown => none

/-- The level of a limit. -/
def Pins.limit (p : Pins) : Limit → Bool
  | .home => p.home
  | .far => p.far
  | .top => p.top

/-- The state of an axis. -/
def Cableway.axis (c : Cableway) : Axis → AxisState
  | .traverse => c.traverseAxis
  | .reel => c.reelAxis

/-- Replace the state of an axis. -/
def Cableway.setAxis (c : Cableway) (a : Axis) (x : AxisState) : Cableway :=
  match a with
  | .traverse => { c with traverseAxis := x }
  | .reel => { c with reelAxis := x }

/-- The encoder count of an axis. -/
def Cableway.count (c : Cableway) : Axis → U32
  | .traverse => c.traverseCount
  | .reel => c.reelCount

/-- Replace the encoder count of an axis. -/
def Cableway.setCount (c : Cableway) (a : Axis) (n : U32) : Cableway :=
  match a with
  | .traverse => { c with traverseCount := n }
  | .reel => { c with reelCount := n }

/-- Whether an axis is COASTING. -/
def AxisState.isCoasting : AxisState → Bool
  | .coasting _ => true
  | .driven => false
  | .settled _ => false

/-- Whether no axis is COASTING, so that a first step may begin (R121). -/
def Cableway.quiet (c : Cableway) : Bool := !c.traverseAxis.isCoasting && !c.reelAxis.isCoasting

/-- A limit met sets its axis's count to 0; an axis that has settled settles at 0 (R122, R127). -/
def Cableway.zero (c : Cableway) (a : Axis) : Cableway :=
  let c1 := c.setCount a 0
  match c.axis a with
  | .settled _ => c1.setAxis a (.settled 0)
  | .driven => c1
  | .coasting _ => c1

/-- Cut the drives: every direction output off, the speed SLOW, and the axis that was driven COASTING
(R121). Its 500 ms without a change of its count begin at the cut, however long the count has stood, which
is the model's choice (log entry 41). -/
def Cableway.cut (c : Cableway) (now : U32) : Cableway :=
  match c.drive with
  | none => c
  | some d => { c.setAxis d.dir.axis (.coasting now) with drive := none }

/-- Whether the load trip lets a drive be energised: while its input is asserted only the reel-up drive,
and only at SLOW (R138). -/
def Cableway.mayDrive (c : Cableway) (dir : Direction) (fast : Bool) : Bool :=
  !c.loadTrip.passed || (decide (dir = .reelUp) && !fast)

/-- Energise a drive (R121): the axis is DRIVEN, the stall watch starts (R135), and the meter placement
becomes absent (R126). -/
def Cableway.energise (c : Cableway) (dir : Direction) (fast : Bool) (now : U32) : Cableway :=
  if c.mayDrive dir fast then
    { c.setAxis dir.axis .driven with
      drive := some { dir := dir, fast := fast, since := now }, placement := none }
  else c

/-- Set the speed of the drive that is on, without restarting the stall watch (R135). -/
def Cableway.speed (c : Cableway) (fast : Bool) : Cableway :=
  match c.drive with
  | none => c
  | some d => { c with drive := some { d with fast := fast && c.mayDrive d.dir fast } }

/-- Apply a function to the cableway unit. -/
def onCable (f : Cableway → Cableway) (s : State) : State := s.withCableway (f s.cableway)

/-- Cut the drives now. -/
def cutDrives (s : State) : State := onCable (·.cut s.time.elapsed) s

/-! ### The end of an operation (R126) -/

/-- The name of an operation's kind. -/
def OpKind.name : OpKind → OpName
  | .home _ _ => .home
  | .move _ => .move
  | .sound _ _ => .sound
  | .position _ => .position
  | .carry => .position
  | .observe _ => .observe
  | .reelFree _ => .reelFree

/-- The operation in flight ends with an outcome and, when DONE, its results (R126). -/
def endOp (outcome : OpOutcome) (results : OpResults) (s : State) : State :=
  match s.cableway.op with
  | none => s
  | some op =>
    raiseEvent .opDone (onCable (fun c =>
      { c with
        op := none
        lastOp := some
          { name := op.kind.name, outcome := outcome, time := s.time.station, results := results } }) s)

/-- A watch ends the operation in flight with its outcome, or the retract (7.4). -/
def endMotion (outcome : OpOutcome) (s : State) : State :=
  onCable (fun c => { c with retract := none }) (endOp outcome .none s)

/-! ### The watches (R135 to R138) -/

/-- An unexpected limit (R136). -/
def limitFault (l : Limit) (s : State) : State :=
  permitReport .limit
    (takeBatch [{ fault := .cableLimit, arg := .limit l }] (endMotion .limit (cutDrives s)))

/-- The stall watch expires on the driven axis (R135). -/
def stallFault (a : Axis) (s : State) : State :=
  permitReport .stall
    (takeBatch [{ fault := .cableStall, arg := .axis a }] (endMotion .stall (cutDrives s)))

/-- An encoder fault (R137). -/
def encoderFault (a : Axis) (s : State) : State :=
  let s1 := onCable (fun c => { c with referenced := false, placement := none }) (cutDrives s)
  permitReport .encoder
    (takeBatch [{ fault := .encoderFault, arg := .axis a }] (endMotion .stall s1))

/-- Whether a SETTLED axis has drifted: its count differs from the settled count by more than 20 while
REFERENCED (R137). -/
def Cableway.drifted (c : Cableway) (a : Axis) : Bool :=
  match c.axis a with
  | .settled n => c.referenced && decide (20 < |(c.count a).toInt - n.toInt|)
  | .driven => false
  | .coasting _ => false

/-- The load-trip input asserts (R138). -/
def loadTripFault (s : State) : State :=
  permitReport .loadTrip
    (takeBatch [{ fault := .cableLoadTrip, arg := .none }] (endMotion .loadTrip (cutDrives s)))

/-! ### HOME and the retract (R127, R139) -/

/-- Set the step and the phase of the operation in flight. -/
def setOp (k : OpKind) (ph : Phase) (s : State) : State :=
  onCable (fun c => { c with op := some { kind := k, phase := ph } }) s

/-- The first step of HOME and of the retract begins: the reel is driven UP at FAST, or, with the top limit
asserted, its count is set to 0 and no drive is energised. Answers whether a drive was called for. -/
def beginReelHome (s : State) : State × Bool :=
  if s.cableway.pins.top then (onCable (·.zero .reel) s, false)
  else (onCable (·.energise .reelUp true s.time.elapsed) s, true)

/-- The speed of a homing traverse: FAST only while REFERENCED and more than 1,000 mm out (R127). -/
def Cableway.homingFast (c : Cableway) : Bool := c.referenced && decide (1000 < c.x)

/-- The second step of HOME and of the retract begins. -/
def beginTraverseHome (s : State) : State × Bool :=
  if s.cableway.pins.home then (onCable (·.zero .traverse) s, false)
  else (onCable (fun c => c.energise .traverseIn c.homingFast s.time.elapsed) s, true)

/-- The drift watch looks at a SETTLED axis that the end of HOME has made REFERENCED (R137). -/
def watchDrift (a : Axis) (s : State) : State := if s.cableway.drifted a then encoderFault a s else s

/-- HOME ends DONE (R127); accepted in HALTED, its end takes the permit to CLOSED (R171). The drift watch
then finds a settled reel that has moved while UNREFERENCED (R137). -/
def finishHome (fromHalted : Bool) (s : State) : State :=
  let s1 := endOp .done .none
    (onCable (fun c => { c with referenced := true, lastSurface := none }) s)
  let s2 :=
    if fromHalted ∧ s1.permit.record.state = .halted then permitChange .closed .homed s1 else s1
  watchDrift .traverse (watchDrift .reel s2)

/-- HOME's second step begins, ending HOME at once when the home limit is asserted. -/
def homeTraverse (fromHalted : Bool) (s : State) : State :=
  let r := beginTraverseHome s
  if r.2 then setOp (.home .traverse fromHalted) .driving r.1 else finishHome fromHalted r.1

/-- HOME begins (R127). -/
def homeReel (fromHalted : Bool) (s : State) : State :=
  let r := beginReelHome s
  if r.2 then setOp (.home .reel fromHalted) .driving r.1 else homeTraverse fromHalted r.1

/-- The retract ends: its completion takes the permit from STANDING_DOWN to CLOSED (R169). -/
def finishRetract (cause : PermitCause) (s : State) : State :=
  let s1 := onCable (fun c => { c with retract := none }) s
  if s1.permit.record.state = .standingDown then permitChange .closed cause s1 else s1

/-- Set the retract's step and phase. -/
def setRetract (st : HomeStep) (ph : Phase) (s : State) : State :=
  onCable (fun c => { c with retract := some { step := st, phase := ph } }) s

/-- The retract's second step begins. -/
def retractTraverse (s : State) : State :=
  let r := beginTraverseHome s
  if r.2 then setRetract .traverse .driving r.1 else finishRetract .retractDone r.1

/-- The retract's first step begins. -/
def retractReel (s : State) : State :=
  let r := beginReelHome s
  if r.2 then setRetract .reel .driving r.1 else retractTraverse r.1

/-- Start the retract: its first step begins once any coast has settled (R139). -/
def startRetract (s : State) : State :=
  if s.cableway.quiet then retractReel s else setRetract .reel .waiting s

/-! ### The other operations -/

/-- A drive step of an operation begins (R121, R136): with the limit it moves toward already asserted, no
drive is energised, and the limit is met; otherwise the drive is energised. `aimed`: the limit is the one
the step aims for, whose meeting ends the step by its own rule `atLimit`. -/
def beginDrive (k : OpKind) (dir : Direction) (fast aimed : Bool) (atLimit : State → State) (s : State) :
    State :=
  match dir.limit with
  | some l =>
    if s.cableway.pins.limit l then (if aimed then atLimit s else limitFault l s)
    else setOp k .driving (onCable (·.energise dir fast s.time.elapsed) s)
  | none => setOp k .driving (onCable (·.energise dir fast s.time.elapsed) s)

/-- MOVE ends DONE with the settled x (R128). -/
def finishMove (s : State) : State := endOp .done (.move s.cableway.x) s

/-- Whether MOVE runs at FAST: more than 1,000 mm from its target (R128). -/
def moveFast (target x : Int) : Bool := decide (1000 < |target - x|)

/-- MOVE begins (R128). -/
def beginMove (target : Int) (s : State) : State :=
  let x := s.cableway.x
  if x = target then finishMove s
  else if x < target then beginDrive (.move target) .traverseOut (moveFast target x) false finishMove s
  else beginDrive (.move target) .traverseIn (moveFast target x) (decide (target = 0)) finishMove s

/-- SOUND's speed: FAST only while a last surface mark is present, no mark is recorded yet, and the reel
length is less than the mark minus 300 mm (R129). -/
def soundFast (c : Cableway) (ls : Option Int) : Bool :=
  match c.lastSurface, ls with
  | some mark, none => decide (c.reel < mark - 300)
  | some _, some _ => false
  | none, _ => false

/-- SOUND reaches the maximum reel length (R129). -/
def soundMax (ls : Option Int) (s : State) : State :=
  endOp (if ls.isSome then .noBottom else .noSurface) .none (cutDrives s)

/-- SOUND begins (R129). A reel length at or beyond the maximum has reached it at once (R121). -/
def beginSound (ls lb : Option Int) (s : State) : State :=
  if (s.cableway.config.maxReel : Int) ≤ s.cableway.reel then soundMax ls s
  else beginDrive (.sound ls lb) .reelDown (soundFast s.cableway ls) false id s

/-- SOUND ends DONE and hands its sounding (R129, R145). -/
def finishSound (ls lb : Int) (s : State) : State :=
  let x : Sounding := { x := s.cableway.x, ls := ls, lb := lb, d := lb - ls }
  handSounding x (endOp .done (.sound x.x x.ls x.lb x.d) s)

/-- The meter depth from the stop length (R130). -/
def meterDepth (stop : Int) (hanger : Nat) (surface : Int) : Int := max 0 (stop - hanger - surface)

/-- POSITION ends DONE with its meter placement (R130). -/
def finishPosition (p : PositionOp) (s : State) : State :=
  let depth := meterDepth (p.stop.getD s.cableway.reel) s.cableway.config.hanger p.surface
  onCable (fun c =>
      { c with placement := some { fraction := p.fraction, depth := depth, low := p.low } })
    (endOp .done (.position (some p.fraction) depth p.low) s)

/-- POSITION's and CARRY's speed: FAST while more than 300 mm from the target (R130, R131). -/
def reelFast (target reel : Int) : Bool := decide (300 < |target - reel|)

/-- POSITION begins (R130). -/
def beginPosition (p : PositionOp) (s : State) : State :=
  let l := s.cableway.reel
  let here := { p with stop := some l }
  if l = p.target then finishPosition here s
  else if l < p.target then
    if s.cableway.bottom.passed then finishPosition { here with low := true } s
    else if (s.cableway.config.maxReel : Int) ≤ l then finishPosition here s
    else beginDrive (.position p) .reelDown (reelFast p.target l) false id s
  else beginDrive (.position p) .reelUp (reelFast p.target l) false id s

/-- POSITION CARRY ends DONE, leaving the meter placement absent (R131). -/
def finishCarry (s : State) : State :=
  onCable (fun c => { c with placement := none }) (endOp .done (.position none 0 false) s)

/-- POSITION CARRY begins (R131). -/
def beginCarry (s : State) : State :=
  let l := s.cableway.reel
  let carry : Int := s.cableway.config.carry
  if l ≤ carry then finishCarry s
  else beginDrive .carry .reelUp (reelFast carry l) (decide (carry = 0)) finishCarry s

/-- REEL_FREE ends DONE (R134). -/
def finishReelFree (s : State) : State := endOp .done .none s

/-- REEL_FREE begins (R134): the top limit is the limit it aims for. -/
def beginReelFree (watchEnds : U32) (s : State) : State :=
  beginDrive (.reelFree watchEnds) .reelUp false true finishReelFree s

/-! ### From step to step (R121) -/

/-- The operation in flight begins its present step. -/
def beginOp (k : OpKind) (s : State) : State :=
  match k with
  | .home .reel fromHalted => homeReel fromHalted s
  | .home .traverse fromHalted => homeTraverse fromHalted s
  | .move target => beginMove target s
  | .sound ls lb => beginSound ls lb s
  | .position p => beginPosition p s
  | .carry => beginCarry s
  | .observe _ => s
  | .reelFree watchEnds => beginReelFree watchEnds s

/-- The axis of an operation's last drive step has settled: the next step begins, or the operation ends
DONE (R121, R126). -/
def settleOp (k : OpKind) (s : State) : State :=
  match k with
  | .home .reel fromHalted => homeTraverse fromHalted s
  | .home .traverse fromHalted => finishHome fromHalted s
  | .move _ => finishMove s
  | .sound (some ls) (some lb) => finishSound ls lb s
  | .sound (some _) none => s
  | .sound none _ => s
  | .position p => finishPosition p s
  | .carry => finishCarry s
  | .observe _ => s
  | .reelFree _ => finishReelFree s

/-- Whether what waits for an axis may go on: a first step begins when no axis coasts (R121), and so in every
case but one. A REEL_FREE whose drive is cut, or was never energised, ends when the reel has settled, though
the traverse still coasts (R134). A SOUND that has both its marks before its first step began waits for both
axes too, which is the model's choice (log entry 45). -/
def Cableway.mayResume (c : Cableway) : Bool :=
  match c.op with
  | some { kind := .reelFree _, phase := .settling } => !c.reelAxis.isCoasting
  | some _ => c.quiet
  | none => c.quiet

/-- The axis that was waited for has settled: what waited for it goes on (R121, R139). -/
def resume (s : State) : State :=
  if s.cableway.mayResume then
    match s.cableway.op with
    | some op =>
      match op.phase with
      | .waiting => beginOp op.kind s
      | .driving => s
      | .settling => settleOp op.kind s
    | none =>
      match s.cableway.retract with
      | some r =>
        match r.phase, r.step with
        | .waiting, .reel => retractReel s
        | .waiting, .traverse => retractTraverse s
        | .settling, .reel => retractTraverse s
        | .settling, .traverse => finishRetract .retractDone s
        | .driving, _ => s
      | none => s
  else s

/-- The drive of an operation is cut and the operation waits for its axis to settle. -/
def cutAndSettle (k : OpKind) (s : State) : State := resume (setOp k .settling (cutDrives s))

/-- The operation is accepted: it is in flight from now, and its first step begins when every COASTING
axis has settled (R121, R125). -/
def acceptOp (k : OpKind) (s : State) : State := resume (setOp k .waiting s)

/-! ### Limits met by a drive (R136) -/

/-- The limit toward which the drive moves asserts: a step that aims for it ends by its own rule, any
other step's limit is unexpected (R127, R128, R131, R134, R136, R139). -/
def limitMet (l : Limit) (s : State) : State :=
  match s.cableway.op with
  | some op =>
    match op.kind, l with
    | .home .reel h, .top => cutAndSettle (.home .reel h) (onCable (·.zero .reel) s)
    | .home .traverse h, .home => cutAndSettle (.home .traverse h) (onCable (·.zero .traverse) s)
    | .move target, .home =>
      if target = 0 then cutAndSettle (.move target) s else limitFault l s
    | .carry, .top => if s.cableway.config.carry = 0 then cutAndSettle .carry s else limitFault l s
    | .reelFree w, .top => cutAndSettle (.reelFree w) s
    | _, _ => limitFault l s
  | none =>
    match s.cableway.retract with
    | some r =>
      match r.step, l with
      | .reel, .top => setRetract .reel .settling (cutDrives (onCable (·.zero .reel) s))
      | .traverse, .home => setRetract .traverse .settling (cutDrives (onCable (·.zero .traverse) s))
      | _, _ => limitFault l s
    | none => limitFault l s

/-! ### Positions reached by a drive -/

/-- What the change of a driven axis's count means to the operation or the retract in flight: a target or
the maximum reel length reached, or a change of speed (R121, R127 to R131, R139). -/
def trackMotion (s : State) : State :=
  let c := s.cableway
  match c.drive with
  | none => s
  | some d =>
    match c.op with
    | some op =>
      match op.kind with
      | .home .reel _ => s
      | .home .traverse _ => onCable (·.speed c.homingFast) s
      | .move target =>
        if (d.dir = .traverseOut ∧ target ≤ c.x) ∨ (d.dir = .traverseIn ∧ c.x ≤ target) then
          cutAndSettle (.move target) s
        else onCable (·.speed (moveFast target c.x)) s
      | .sound ls _ =>
        if (c.config.maxReel : Int) ≤ c.reel then soundMax ls s
        else onCable (·.speed (soundFast c ls)) s
      | .position p =>
        if (d.dir = .reelDown ∧ (p.target ≤ c.reel ∨ (c.config.maxReel : Int) ≤ c.reel))
            ∨ (d.dir = .reelUp ∧ c.reel ≤ p.target) then
          cutAndSettle (.position { p with stop := some c.reel }) s
        else onCable (·.speed (reelFast p.target c.reel)) s
      | .carry =>
        if c.reel ≤ (c.config.carry : Int) then cutAndSettle .carry s
        else onCable (·.speed (reelFast c.config.carry c.reel)) s
      | .observe _ => s
      | .reelFree _ => s
    | none =>
      match c.retract with
      | some r =>
        match r.step with
        | .reel => s
        | .traverse => onCable (·.speed c.homingFast) s
      | none => s

/-! ### Contacts during an operation (R129, R130, R132) -/

/-- The surface contact asserts: SOUND records its surface mark (R129). -/
def surfaceContact (s : State) : State :=
  match s.cableway.op with
  | some { kind := .sound none lb, phase := ph } =>
    let l := s.cableway.reel
    onCable (fun c => { c.speed false with lastSurface := some l }) (setOp (.sound (some l) lb) ph s)
  | some _ => s
  | none => s

/-- The bottom contact asserts: SOUND records its bed mark and cuts the drive (R129); a POSITION that
reels DOWN is cut and LOW_LIMITED (R130). -/
def bottomContact (s : State) : State :=
  match s.cableway.op with
  | some { kind := .sound (some ls) none, phase := _ } =>
    cutAndSettle (.sound (some ls) (some s.cableway.reel)) s
  | some { kind := .position p, phase := _ } =>
    match s.cableway.drive with
    | some d =>
      if d.dir = .reelDown then
        cutAndSettle (.position { p with stop := some s.cableway.reel, low := true }) s
      else s
    | none => s
  | some _ => s
  | none => s

/-- A rising edge of the meter input during COUNT (R132). -/
def ObserveOp.pulse (o : ObserveOp) : ObserveOp :=
  match o.phase with
  | .dwell _ => o
  | .count _ => if o.pulses < 65535 then { o with pulses := o.pulses + 1 } else { o with saturated := true }

/-- The meter input's passed level goes from open to closed (R120, R132). -/
def meterEdge (s : State) : State :=
  match s.cableway.op with
  | some { kind := .observe o, phase := ph } => setOp (.observe o.pulse) ph s
  | some _ => s
  | none => s

/-! ### Filters (R120) -/

/-- The filter of a filtered input. -/
def Cableway.filter (c : Cableway) : Contact → Filter
  | .surface => c.surface
  | .bottom => c.bottom
  | .meter => c.meter
  | .loadTrip => c.loadTrip

/-- Replace the filter of a filtered input. -/
def Cableway.setFilter (c : Cableway) (i : Contact) (f : Filter) : Cableway :=
  match i with
  | .surface => { c with surface := f }
  | .bottom => { c with bottom := f }
  | .meter => { c with meter := f }
  | .loadTrip => { c with loadTrip := f }

/-- The width of a filter in ms; the load trip's is fixed at 2 (R120). -/
def CableConfig.width (x : CableConfig) : Contact → Nat
  | .loadTrip => 2
  | .surface => x.filterWidth
  | .bottom => x.filterWidth
  | .meter => x.filterWidth

/-- The level at the pin of a filtered input. -/
def Pins.contact (p : Pins) : Contact → Bool
  | .surface => p.surface
  | .bottom => p.bottom
  | .meter => p.meter
  | .loadTrip => p.loadTrip

/-- Replace the level at the pin of a filtered input. -/
def Pins.setContact (p : Pins) (i : Contact) (b : Bool) : Pins :=
  match i with
  | .surface => { p with surface := b }
  | .bottom => { p with bottom := b }
  | .meter => { p with meter := b }
  | .loadTrip => { p with loadTrip := b }

/-- Replace the level at the pin of a limit. -/
def Pins.setLimit (p : Pins) (l : Limit) (b : Bool) : Pins :=
  match l with
  | .home => { p with home := b }
  | .far => { p with far := b }
  | .top => { p with top := b }

/-- What a contact's assertion (its passed level going from open to closed) brings about. -/
def contactAsserts (i : Contact) (s : State) : State :=
  match i with
  | .surface => surfaceContact s
  | .bottom => bottomContact s
  | .meter => meterEdge s
  | .loadTrip => loadTripFault s

/-- A filter's passed level becomes `level` (R120). -/
def passLevel (i : Contact) (level : Bool) (s : State) : State :=
  let s1 := onCable (·.setFilter i { passed := level, candidate := none }) s
  if level then contactAsserts i s1 else s1

/-! ### The stand-down (R166, R167) -/

/-- The first stand-down condition that holds, in the order LEVEL, RATE, STAGE (9.2, R166). -/
def standCondition (s : State) : Option StandCondition :=
  let x := s.stage.record
  if s.permit.level ≠ 0 ∧ s.permit.level ≤ s.warning.level then some .level
  else if s.permit.rate ≠ 0 ∧ x.rateValid ∧ (s.permit.rate : Int) ≤ x.rate then some .rate
  else
    match s.permit.stage, x.value with
    | some limit, some v =>
      if (x.quality = .good ∨ x.quality = .suspect) ∧ limit ≤ v then some .stage else none
    | some _, none => none
    | none, _ => none

/-- A stand-down, taken whole (R167). -/
def standDown (cond : StandCondition) (s : State) : State :=
  let s1 := closeRun .abandonedFlood (endOp .stoodDown .none (cutDrives s))
  startRetract (permitChange .standingDown (.standDown cond) s1)

/-- The permit tests its conditions, only while OPEN (R166, R168). -/
def permitTest (s : State) : State :=
  if s.permit.record.state = .open_ then
    match standCondition s with
    | some cond => standDown cond s
    | none => s
  else s

end Sys2Proof.Machine
end

