-- ==== Sys2Proof/Machine/WarningOps.lean ====
section
/-! DEFINITION. The warning unit: the evaluation of rules (R93 to R100), the level (R101 to R106), the
siren (R109 to R112), the beacon (R113) and the display (R114, R115). -/

namespace Sys2Proof.Machine

/-! ### Evaluation -/

/-- The quantity a rule watches, as a 32-bit pattern; absent when the stage or the difference is (R94). -/
def quantityOfState (q : Quantity) (word : U32) (s : State) : Option U32 :=
  let x := s.stage.record
  match q with
  | .stage => x.value.map (BitVec.ofInt 32)
  | .rate => some (BitVec.ofInt 32 x.rate)
  | .discharge => some (BitVec.ofNat 32 x.discharge)
  | .diff => s.stage.lastDiff.map (BitVec.ofInt 32)
  | .quality => some (BitVec.ofNat 32 (qualityCode x.quality))
  | .faults => some word

/-- Whether the stage quality is NONE or HELD (R95). -/
def unread (q : Quality) : Bool :=
  match q with
  | .none => true
  | .held => true
  | .good => false
  | .suspect => false

/-- Whether an evaluation is skipped (R95). -/
def skips (q : Quantity) (s : State) : Bool :=
  let x := s.stage.record
  match q with
  | .stage => unread x.quality || x.value.isNone
  | .rate => unread x.quality || !x.rateValid
  | .discharge => unread x.quality || decide (x.dischargeQuality = .noRating)
  | .diff => s.stage.lastDiff.isNone
  | .quality => false
  | .faults => false

/-- Whether a rule tests its set threshold: in INACTIVE and ARMING (R98); in ACTIVE and CLEARING it
tests its clear threshold (R99). -/
def RuleState.testsSet : RuleState → Bool
  | .inactive => true
  | .arming => true
  | .active => false
  | .clearing => false

/-- The rule state and count after a test that was not skipped (R98, R99). -/
def ruleMove (st : RuleState) (count persistence : Nat) (holds : Bool) : RuleState × Nat :=
  if st.testsSet then
    if holds then (if persistence ≤ count + 1 then (.active, 0) else (.arming, count + 1))
    else (.inactive, 0)
  else
    if holds then (.active, 0)
    else (if persistence ≤ count + 1 then (.inactive, 0) else (.clearing, count + 1))

/-- The threshold a rule is testing (R98, R99). -/
def Rule.threshold (r : Rule) : U32 := if r.state.testsSet then r.set else r.clear

/-- One evaluation of a rule (R93): on the quantity `q`, skipped or not, at a station time. A skipped
evaluation tests no threshold; its last evaluation shows the one that the rule's state would test, which is
the model's choice (log entry 40). -/
def Rule.evaluate (r : Rule) (q : Option U32) (skip : Bool) (time : U32) : Rule :=
  let masked := q.map (· &&& r.mask)
  let base : Evaluation :=
    { outcome := .skipped, testedSet := r.state.testsSet, masked := masked, time := time }
  match masked, skip with
  | some m, false =>
    let holds := compare r.condition m r.threshold
    let mv := ruleMove r.state r.count r.persistence holds
    { r with
      state := mv.1, count := mv.2
      last := some { base with outcome := if holds then .isTrue else .isFalse } }
  | some _, true => { r with last := some base }
  | none, _ => { r with last := some base }

/-- A rule's part in a round (R93): a disabled rule takes none, and a fault round is for FAULTS rules
alone. -/
def Rule.inRound (r : Rule) (faultRound : Bool) (word : U32) (s : State) : Rule :=
  if r.enabled && (!faultRound || decide (r.quantity = .faults)) then
    r.evaluate (quantityOfState r.quantity word s) (skips r.quantity s) s.time.station
  else r

/-- Evaluate the rules of a round, each on the same quantities (R93). -/
def evaluateRound (faultRound : Bool) (word : U32) (s : State) : State :=
  s.withWarning { s.warning with
    rules := s.warning.rules.map fun r => r.inRound faultRound word s }

/-! ### The level -/

/-- Whether a rule counts toward the level (R100). -/
def Rule.counts (r : Rule) : Bool := !r.state.testsSet

/-- The highest level among the counting rules, 0 when there are none (R101). -/
def countingLevel (rules : List Rule) : Nat :=
  rules.foldr (fun r n => if r.counts then max r.level n else n) 0

/-- The target (R101). -/
def Warning.formTarget (w : Warning) : Nat := max w.floor (countingLevel w.rules)

/-- The lowest-numbered rule that counts and has the level given (R102); `n` is the number of the first
rule of the list. -/
def lowestRule (level : Nat) : Nat → List Rule → Option Nat
  | _, [] => none
  | n, r :: rs => if r.counts && decide (r.level = level) then some n else lowestRule level (n + 1) rs

/-- On and off periods of the beacon pattern of a level, in ms (R113). -/
def beaconPattern : Nat → Nat × Nat
  | 1 => (100, 3900)
  | 2 => (100, 1900)
  | 3 => (100, 900)
  | _ => (500, 500)

/-- The beacon starts the pattern of a level from the beginning of its on period (R113). -/
def startBeacon (level : Nat) (now : U32) : Option BeaconPhase :=
  if level = 0 then none else some { on := true, until_ := after now (beaconPattern level).1 }

/-- Turn the siren OFF, with its SIREN event, when it is ON (R110 to R112, R116). -/
def sirenOff (s : State) : State :=
  if s.warning.siren.isSome then raiseEvent .siren (s.withWarning { s.warning with siren := none })
  else s

/-- A rise of L to or above a siren level other than 0 turns the siren ON or starts its run timer again;
only a turn from OFF raises a SIREN event (R109). -/
def sirenOnRise (s : State) : State :=
  let w := s.warning
  if w.sirenLevel ≠ 0 ∧ w.sirenLevel ≤ w.level then
    let s1 := s.withWarning
      { w with siren := some (after s.time.elapsed (w.sirenRun * 60000)) }
    if w.siren.isSome then s1 else raiseEvent .siren s1
  else s

/-- A fall of L below the siren level turns a sounding siren OFF (R112). -/
def sirenOnFall (s : State) : State :=
  if s.warning.level < s.warning.sirenLevel then sirenOff s else s

/-- L changes (R102, R105): the hold timer is idle, the WARNING entry is appended, and the change is
handed on to the schedule, the permit, the beacon, the siren and the ports (R106). Two orders are the model's
choice: the permit's test, with the RUN entry of a stand-down, comes before the SAMPLE entry of the stage
update that changed L (R73, R166, log entry 48), and after the fault round that a discard of the WARNING
entry's append owes (log entry 49). -/
def changeLevel (new : Nat) (cause : WarningCause) (s : State) : State :=
  let old := s.warning.level
  let s1 := s.withWarning
    { s.warning with level := new, hold := none, beacon := startBeacon new s.time.elapsed }
  let s2 := append (.warning s1.time.station old new cause) s1
  let s3 := (decideMode s2).owe [.permitTest]
  raiseEvent .level (if old < new then sirenOnRise s3 else sirenOnFall s3)

/-- The level computation (R101 to R104). `byRound`: it ends an evaluation round, so that a rise is a
rule's (R102). -/
def computeLevel (byRound : Bool) (s : State) : State :=
  let target := s.warning.formTarget
  let s1 := s.withWarning { s.warning with target := target }
  let w := s1.warning
  if w.level < target then
    changeLevel target
      (match byRound, lowestRule target 0 w.rules with
        | true, some n => .rule n
        | true, none => .manual
        | false, _ => .manual) s1
  else if target < w.level then
    match w.hold with
    | some _ => s1
    | none =>
      if w.holdMin = 0 then changeLevel target .holdExpiry s1
      else s1.withWarning { w with hold := some (after s1.time.elapsed (w.holdMin * 60000)) }
  else s1.withWarning { w with hold := none }

/-- A fault round (R93). -/
def faultRound (word : U32) (s : State) : State := computeLevel true (evaluateRound true word s)

/-- A stage round (R93): the FAULTS rules see the word as it stands. -/
def stageRound (s : State) : State := computeLevel true (evaluateRound false s.faults.word s)

/-! ### The display (R114, R115) -/

/-- The display content for a station stage (R114). -/
def displayFor (x : StageRecord) : DisplayContent :=
  match x.value with
  | some v => if unread x.quality then .dashes else .cm (roundHalfAway v 10)
  | none => .dashes

/-- The decimal digits of a magnitude in `n` positions, most significant first; a leading zero is blank
(15), and the units digit is always shown (R114, R115). -/
def digitCodes : Nat → Nat → List Nat
  | 0, _ => []
  | n + 1, v =>
    (if n ≠ 0 ∧ v < 10 ^ n then 15 else v / 10 ^ n % 10) :: digitCodes n v

/-- A 4-bit code, most significant bit first (R115). -/
def codeBits (code : Nat) : List Bool := [code.testBit 3, code.testBit 2, code.testBit 1, code.testBit 0]

/-- The five 4-bit codes sent to the display's latch, sign position first (R115). -/
def displayCodes : DisplayContent → List Nat
  | .dashes => [15, 11, 11, 11, 11]
  | .cm v => (if v < 0 then 10 else 15) :: digitCodes 4 v.natAbs

/-- The display content is formed and sent to the latch in one transfer of 20 bits, whether or not it has
changed (R114, R115). -/
def sendDisplay (content : DisplayContent) (s : State) : State :=
  (s.withWarning { s.warning with display := content }).withLatch
    { bits := (displayCodes content).flatMap codeBits, transfers := s.latch.transfers + 1 }

end Sys2Proof.Machine
end

