-- ==== Sys2Proof/Machine/Update.lean ====
section
/-! DEFINITION. The stage update (R40 to R53) with its hand-on to the readers of the station stage, and
the agenda that makes a step whole. -/

namespace Sys2Proof.Machine

/-! ### Forming the station stage -/

/-- A selected channel's reading in an acquisition, when it handed a VALID sample (R40). -/
def handedReading (a : Acquisition) (sel : Option Chan) : Option (Int × Chan) :=
  match sel with
  | none => none
  | some c =>
    match a.handed.get c with
    | some (.valid v) => some (v, c)
    | some .missing => none
    | none => none

/-- The cross-check (R45): the stage unit with its count and last difference. -/
def crossCheck (prim chk : Option (Int × Chan)) (u : StageUnit) : StageUnit :=
  match prim, chk with
  | some (p, _), some (c, _) =>
    { u with
      lastDiff := some (p - c)
      disagreeCount := if (u.limit : Int) < |p - c| then min 15 (u.disagreeCount + 1) else 0 }
  | some _, none => { u with lastDiff := none }
  | none, _ => { u with lastDiff := none }

/-- The rate of rise from the ring, the newest entry last (R50): the new rate and its mark. -/
def computeRate (w : Nat) (ring : List RingEntry) (previous : Int) : Int × Bool :=
  let window := ring.drop (ring.length - w)
  match ring.getLast? with
  | none => (previous, false)
  | some newest =>
    match newest.value, unread newest.quality with
    | some v, false =>
      match window.find? fun e => !unread e.quality && e.value.isSome with
      | none => (previous, false)
      | some oldest =>
        let dt := (newest.time - oldest.time).toNat
        if dt = 0 then (previous, false)
        else (clampInt (-32767) 32767 (roundTowardZero ((v - oldest.value.getD 0) * 3600) dt), true)
    | some _, true => (previous, false)
    | none, _ => (previous, false)

/-- An entry joins the history ring; of 16 the oldest leaves first (R49). -/
def ringPush (ring : List RingEntry) (e : RingEntry) : List RingEntry :=
  (if 16 ≤ ring.length then ring.drop (ring.length - 15) else ring) ++ [e]

/-- The value, source and class of the stage, with the reading before clamping (R41, R43). -/
inductive Chosen where
  | read (reading : Int) (source : Chan) (substituted : Bool)
  | held (value : Int) (source : Chan)
  | nothing
  deriving DecidableEq, Repr

/-- Choosing the stage by the first row of R41's table that fits. -/
def choose (prim chk : Option (Int × Chan)) (earlier : Option (Int × Chan)) : Chosen :=
  match prim, chk, earlier with
  | some (v, c), _, _ => .read v c false
  | none, some (v, c), _ => .read v c true
  | none, none, some (v, c) => .held v c
  | none, none, none => .nothing

/-- The station stage record with its value, quality and flags formed (R41 to R44), before the rate and
the discharge. -/
def formRecord (ch : Chosen) (disagree : Bool) (time : U32) (x : StageRecord) : StageRecord :=
  match ch with
  | .read v c sub =>
    let v' := clampInt (-32000) 32000 v
    let cut := decide (v' ≠ v)
    { x with
      value := some v', source := some c, sampleTime := some time
      substituted := sub, clamped := cut, disagree := disagree
      quality := if sub || cut || disagree then .suspect else .good }
  | .held v c =>
    { x with
      value := some v, source := some c, sampleTime := some time
      substituted := false, clamped := false, disagree := disagree, quality := .held }
  | .nothing =>
    { x with
      value := none, source := none, sampleTime := some time
      substituted := false, clamped := false, disagree := false, quality := .none }

/-- Forming the station stage from an acquisition, steps 1 to 5 of R40. -/
def formStage (a : Acquisition) (u : StageUnit) : StageUnit :=
  let prim := handedReading a u.primary
  let chk := handedReading a u.check
  let u1 := crossCheck prim chk u
  let ch := choose prim chk u.earlier
  let rec1 := formRecord ch (decide (u.k ≤ u1.disagreeCount)) a.sampleTime u.record
  let ring := ringPush u.ring { time := a.sampleTime, value := rec1.value, quality := rec1.quality }
  let rate := computeRate u.w ring u.record.rate
  { u1 with
    record := { rec1 with rate := rate.1, rateValid := rate.2 }
    ring := ring
    earlier := match ch with
      | .read v c _ => some (clampInt (-32000) 32000 v, c)
      | .held _ _ => u.earlier
      | .nothing => u.earlier
    heldSince := match ch with
      | .held _ _ => if u.record.quality = .held then u.heldSince else some a.sampleTime
      | .read _ _ _ => none
      | .nothing => none }

/-- The reading before clamping, when the update clamped it (R43, R174). -/
def clampedReading (a : Acquisition) (u : StageUnit) : Option Int :=
  match choose (handedReading a u.primary) (handedReading a u.check) u.earlier with
  | .read v _ _ => if clampInt (-32000) 32000 v = v then none else some v
  | .held _ _ => none
  | .nothing => none

/-- The channels' part of a stage update's batch (R36). That several FAILED channels are reported in rising
order of their numbers is the model's choice (log entry 46). -/
def failedReports (chans : PerChan Channel) : List Report :=
  allChans.filterMap fun c =>
    if (chans.get c).state = .failed then some { fault := .channelFailed c, arg := .chan c } else none

/-- The stage unit's part of a stage update's batch (R48), from the unit as the update formed it. -/
def stageReports (clamped : Option Int) (u : StageUnit) : List Report :=
  (if u.record.quality = .held then
      [{ fault := .stageHeld
         arg := match u.record.source with
           | some c => .chan c
           | none => .none }]
    else [])
  ++ (if u.k ≤ u.disagreeCount then [{ fault := .disagree, arg := .number u.disagreeCount }] else [])
  ++ (match clamped with
      | some v => [{ fault := .stageClamped, arg := .mm v }]
      | none => [])

/-- The cableway unit's part of a stage update's batch (R138, R176). -/
def loadTripReports (c : Cableway) : List Report :=
  if c.loadTrip.passed then [{ fault := .cableLoadTrip, arg := .none }] else []

/-- What is owed to the readers of a stage update, in one of the orders the manual leaves open (R73, R93,
R166, log entry 6): the batch, with the fault round that a changed word brings at once, and the stage round,
which sees the word as it stands when it is made; the permit's test; and the SAMPLE entry, which always
follows the stage round (R73). That it also follows the batch with its fault round, where the stage round
comes first, is the model's choice (log entry 44). -/
def readersOf (o : TakingOrder) (batch sample : Work) : List Work :=
  let rounds := if o.faultRoundFirst then [batch, .stageRound] else [.stageRound, batch]
  match o.permitPlace with
  | .first => .permitTest :: rounds ++ [sample]
  | .beforeSample => rounds ++ [.permitTest, sample]
  | .last => rounds ++ [sample, .permitTest]

/-- The batch of a stage update (R175), from the state in which the station stage stands formed: the
channels' reports, the stage unit's, the rating unit's and the cableway unit's. -/
def updateBatch (clamped : Option Int) (d : DischargeResult) (s : State) : List Report :=
  failedReports s.chans ++ stageReports clamped s.stage ++ d.reports ++ loadTripReports s.cableway

/-- A stage update (R40): the station stage with its discharge, the display (R114), the SAMPLE event (R192),
and what is owed to the other readers. -/
def stageUpdate (a : Acquisition) (s : State) : State :=
  let clamped := clampedReading a s.stage
  let u := formStage a s.stage
  let d := computeDischarge s.rating u.record.value u.record.quality
  let u1 := { u with record := u.record.withDischarge d s.rating.generation }
  let s1 := sendDisplay (displayFor u1.record) ((s.withStage u1).withRating (s.rating.noted d))
  raiseEvent .sample
    (s1.owe (readersOf s.orders (.batch (updateBatch clamped d s1)) (.sampleEntry a.sampleTime a.cause)))

/-- The acquisition in flight completes when no participant is still to finish (R12). -/
def complete (s : State) : State :=
  match s.schedule.acq with
  | none => s
  | some a =>
    if a.finished then stageUpdate a (s.withSchedule { s.schedule with acq := none }) else s

/-- The SAMPLE entry of a stage update (R71), from the station stage record and the level as they stand
when it is appended. -/
def sampleEntryOf (time : U32) (cause : Cause) (s : State) : SampleEntry :=
  let x := s.stage.record
  { time := time, stage := x.value, quality := x.quality, substituted := x.substituted
    disagree := x.disagree, clamped := x.clamped, source := x.source, rate := x.rate
    rateValid := x.rateValid, discharge := x.discharge, dischargeQuality := x.dischargeQuality
    level := s.warning.level, cause := cause, generation := x.generation }

/-! ### The agenda -/

/-- Do one thing that the step still owes. -/
def doWork (w : Work) (s : State) : State :=
  match w with
  | .batch reports => takeBatch reports s
  | .faultRound word => faultRound word s
  | .stageRound => stageRound s
  | .permitTest => permitTest s
  | .sampleEntry time cause => append (.sample (sampleEntryOf time cause s)) s
  | .completion => complete s

/-- Do what the step owes, the consequences of each thing before what was owed after it. The fuel counts
things done. -/
def drain : Nat → State → State
  | 0, s => s
  | fuel + 1, s =>
    match s.due with
    | [] => s
    | w :: rest =>
      let s1 := doWork w (s.withDue [])
      drain fuel (s1.withDue (s1.due ++ rest))

/-- Make the step whole: nothing is owed after it. A step makes few changes of the fault word, which has
21 bits, and of L, so the fuel is not exhausted (log entry 5). -/
def settle (s : State) : State := (drain 400 s).withDue []

/-- The shape of a step that time, an input or the outside brings about: nothing while the part is held in
reset (log entry 12); otherwise its effect with everything that the effect owes. -/
def event (f : State → State) (s : State) : Host.Outcome State Fault Refusal :=
  if s.held.isSome then .next s else .next (settle (f s))

/-- A part of a command's work that owes something: its effect made whole, and an answer that shows the
state after it. -/
def doneThen (f : State → State) (answer : State → Answer) (s : State) : State × Answer :=
  let s1 := settle (f s)
  (s1, answer s1)

end Sys2Proof.Machine
end

