-- ==== Sys2Proof/Machine/CablewayCommands.lean ====
section
/-! DEFINITION. The cableway unit's commands, inputs and timers (R120 to R139), and the permit's
SET_STANDDOWN (R163). -/

namespace Sys2Proof.Machine

/-! ### SET_CABLEWAY_CONFIG (R123) -/

/-- The configuration a payload carries. -/
def cableConfigOf (x : CablePayload) : CableConfig :=
  { span := x.span.toNat, traverseScale := x.traverseScale.toNat, reelScale := x.reelScale.toNat
    maxReel := x.maxReel.toNat, carry := x.carry.toNat, hanger := x.hanger.toNat
    dwell := x.dwell.toNat, filterWidth := x.filterWidth.toNat }

/-- Whether every item lies in its list and the carry length does not exceed the maximum reel length
(R123). -/
def CableConfig.fits (x : CableConfig) : Bool :=
  inRange 1000 500000 x.span && inRange 1 10000 x.traverseScale && inRange 1 10000 x.reelScale
    && inRange 1 40000 x.maxReel && inRange 0 2000 x.carry && inRange 0 1000 x.hanger
    && inRange 0 60000 x.dwell && decide (x.filterWidth ∈ [0, 1, 2, 4, 8])
    && decide (x.carry ≤ x.maxReel)

/-- A candidate that has held for the width now in force becomes the passed level (R120). -/
def passHeld (s : State) (i : Contact) : State :=
  let f := s.cableway.filter i
  match f.candidate with
  | some t =>
    if ahead (after t (s.cableway.config.width i)) s.time.elapsed then s
    else passLevel i (!f.passed) s
  | none => s

/-- The configuration is replaced, and the new filter width applies at once (R120, R123). -/
def setCableConfig (x : CableConfig) (s : State) : State :=
  [Contact.surface, .bottom, .meter].foldl passHeld (onCable (fun c => { c with config := x }) s)

/-- Whether an operation is an OBSERVE. -/
def OpKind.isObserve : OpKind → Bool
  | .observe _ => true
  | .home _ _ => false
  | .move _ => false
  | .sound _ _ => false
  | .position _ => false
  | .carry => false
  | .reelFree _ => false

/-- The first refusal of SET_CABLEWAY_CONFIG (R123). -/
def configRefusal (x : CableConfig) (s : State) : Option Status :=
  let observing := match s.cableway.op with
    | some op => op.kind.isObserve
    | none => false
  if observing then some .busy
  else if s.permit.record.state = .open_ ∨ s.permit.record.state = .standingDown
      ∨ s.cableway.op.isSome then some .state
  else if !x.fits then some .range
  else none

/-- SET_CABLEWAY_CONFIG (R123). -/
def execSetCablewayConfig (p : Port) (config : CablePayload) (s : State) :
    Host.Outcome State Fault Refusal :=
  command p (.setCablewayConfig p config)
    (fun s =>
      match configRefusal (cableConfigOf config) s with
      | some st => (s, plain st)
      | none => (settle (setCableConfig (cableConfigOf config) s), plain .ok)) s

/-! ### GET_CABLEWAY (R124) -/

/-- The code of the operation in flight, its argument, and its step (11.4; log entry 17). -/
def operationBytes (k : OpKind) : List Byte :=
  let step : HomeStep → Nat := fun
    | .reel => 1
    | .traverse => 2
  u8 (opNameCode k.name)
    ++ (match k with
      | .home st _ => s32 0 ++ u8 (step st)
      | .move target => s32 target ++ u8 1
      | .sound _ _ => s32 0 ++ u8 1
      | .position x => s32 x.fraction ++ u8 1
      | .carry => s32 255 ++ u8 1
      | .observe o => s32 o.period ++ u8 1
      | .reelFree _ => s32 0 ++ u8 1)

/-- OBSERVE's phase and pulses, and the time left of REEL_FREE's repeat watch (11.4). -/
def operationDetail (k : OpKind) (now : U32) : List Byte :=
  match k with
  | .observe o =>
    u8 (match o.phase with
      | .dwell _ => 0
      | .count _ => 1) ++ u16 o.pulses ++ u16 0
  | .reelFree ends => u8 0 ++ u16 0 ++ u16 (msLeft ends now)
  | .home _ _ => u8 0 ++ u16 0 ++ u16 0
  | .move _ => u8 0 ++ u16 0 ++ u16 0
  | .sound _ _ => u8 0 ++ u16 0 ++ u16 0
  | .position _ => u8 0 ++ u16 0 ++ u16 0
  | .carry => u8 0 ++ u16 0 ++ u16 0

/-- The ten bytes of the last operation's results (11.4); bytes that a kind does not use are 0. -/
def resultBytes (r : OpResults) : List Byte :=
  let bytes := match r with
    | .none => []
    | .move _ => []
    | .sound x ls lb d => s32 x ++ beU 2 ls ++ beU 2 lb ++ beU 2 d
    | .position f depth low =>
      (match f with
        | some n => u8 n
        | none => [0xFF]) ++ beU 2 depth ++ yes low
    | .observe pulses period saturated => u16 pulses ++ u32 period ++ yes saturated
  bytes ++ List.replicate (10 - bytes.length) 0

/-- The drive outputs as one byte: traverse OUT, traverse IN, reel DOWN, reel UP, and FAST (11.4). -/
def driveByte (d : Option Drive) : List Byte :=
  match d with
  | none => [0]
  | some d =>
    bitByte [decide (d.dir = .traverseOut), decide (d.dir = .traverseIn), decide (d.dir = .reelDown),
      decide (d.dir = .reelUp), d.fast]

/-- A configuration in the layout of SET_CABLEWAY_CONFIG (11.4). -/
def cableConfigBytes (x : CableConfig) : List Byte :=
  u32 x.span ++ u16 x.traverseScale ++ u16 x.reelScale ++ u16 x.maxReel ++ u16 x.carry
    ++ u16 x.hanger ++ u16 x.dwell ++ u8 x.filterWidth

/-- GET_CABLEWAY's answer (R124, 11.4). The positions are absent while UNREFERENCED. -/
def cablewayAnswer (s : State) : List Byte :=
  let c := s.cableway
  yes c.referenced
    ++ s32 (if c.referenced then c.x else 0) ++ s32 (if c.referenced then c.reel else 0)
    ++ w32 c.traverseCount ++ w32 c.reelCount
    ++ bitByte [c.surface.passed, c.bottom.passed, c.meter.passed, c.loadTrip.passed, c.pins.home,
      c.pins.far, c.pins.top]
    ++ driveByte c.drive ++ u8 (axisStateCode c.traverseAxis) ++ u8 (axisStateCode c.reelAxis)
    ++ (match c.op with
      | some op => operationBytes op.kind ++ operationDetail op.kind s.time.elapsed
      | none => u8 0 ++ s32 0 ++ u8 0 ++ u8 0 ++ u16 0 ++ u16 0)
    ++ (match c.retract with
      | some { step := .reel, phase := _ } => u8 1
      | some { step := .traverse, phase := _ } => u8 2
      | none => u8 0)
    ++ yes c.lastSurface.isSome ++ beU 2 (absentZero c.lastSurface)
    ++ (match c.placement with
      | some x => yes true ++ u8 x.fraction ++ beU 2 x.depth ++ yes x.low
      | none => yes false ++ u8 0 ++ u16 0 ++ yes false)
    ++ (match c.lastOp with
      | some l =>
        u8 (opNameCode l.name) ++ u8 (opOutcomeCode l.outcome) ++ w32 l.time ++ resultBytes l.results
      | none => u8 0 ++ u8 0 ++ w32 0 ++ resultBytes .none)
    ++ cableConfigBytes c.config

/-- GET_CABLEWAY (R124). -/
def execGetCableway (p : Port) (s : State) : Host.Outcome State Fault Refusal :=
  command p (.getCableway p) (fun s => (s, okWith (cablewayAnswer s))) s

/-! ### Operation commands (R125 to R134) -/

/-- The judging of an operation command by its arguments, by an operation in flight, by its gate and by
its own checks (R125); an accepted one is answered ACCEPTED and goes into flight by `accept`. -/
def operate (argumentsFit : Bool) (gate : State → Bool) (own : State → Option Status)
    (accept : State → State) (s : State) : State × Answer :=
  if !argumentsFit then (s, plain .range)
  else if s.cableway.op.isSome then (s, plain .busy)
  else if !gate s then (s, plain .state)
  else
    match own s with
    | some st => (s, plain st)
    | none => (settle (accept s), plain .accepted)

/-- The gate shared by the operations over the water (R125). -/
def overWater (s : State) : Bool :=
  decide (s.permit.record.state = .open_) && s.cableway.referenced

/-- HOME's gate (R125). -/
def homeGate (s : State) : Bool :=
  (decide (s.permit.record.state = .closed) || decide (s.permit.record.state = .halted))
    && !s.cableway.loadTrip.passed

/-- HOME (R125, R127). -/
def execHome (p : Port) (s : State) : Host.Outcome State Fault Refusal :=
  command p (.home p)
    (operate true homeGate (fun _ => none)
      (fun s => acceptOp (.home .reel (decide (s.permit.record.state = .halted))) s)) s

/-- MOVE's gate (R125). -/
def moveGate (s : State) : Bool :=
  overWater s && decide (s.cableway.reel ≤ (s.cableway.config.carry : Int))

/-- MOVE (R125, R128): its acceptance clears the working vertical (R144). -/
def execMove (p : Port) (target : U32) (s : State) : Host.Outcome State Fault Refusal :=
  command p (.move p target)
    (fun s =>
      let span := s.cableway.config.span
      operate (decide (span ≠ 0) && inRange 0 span target.toInt) moveGate (fun _ => none)
        (fun s => acceptOp (.move target.toInt) (clearWorking s)) s) s

/-- SOUND's gate (R125). -/
def soundGate (s : State) : Bool := overWater s && !s.cableway.surface.passed

/-- SOUND (R125, R129): its acceptance makes the meter placement absent. -/
def execSound (p : Port) (s : State) : Host.Outcome State Fault Refusal :=
  command p (.sound p)
    (operate true soundGate (fun _ => none)
      (fun s => acceptOp (.sound none none) (onCable (fun c => { c with placement := none }) s))) s

/-- POSITION's own checks: MISSING without a sounding, RANGE in water not deeper than H (R130). -/
def positionCheck (s : State) : Option Status :=
  match s.working.sounding with
  | none => some .missing
  | some x => if x.d ≤ (s.cableway.config.hanger : Int) then some .range else none

/-- The POSITION operation for a fraction and the sounding held: its target, clamped to the bed mark
(R130). -/
def positionOp (fraction hanger : Nat) (x : Sounding) : PositionOp :=
  let target := x.ls + roundHalfUp (fraction * x.d) 100 + hanger
  { fraction := fraction, target := min target x.lb, surface := x.ls, stop := none
    low := decide (x.lb < target) }

/-- POSITION with a fraction (R125, R130). -/
def execPosition (p : Port) (fraction : Byte) (s : State) : Host.Outcome State Fault Refusal :=
  command p (.position p fraction)
    (operate (inRange 5 95 fraction.toNat) overWater positionCheck
      (fun s =>
        match s.working.sounding with
        | some x => acceptOp (.position (positionOp fraction.toNat s.cableway.config.hanger x)) s
        | none => s)) s

/-- POSITION CARRY (R125, R131). -/
def execPositionCarry (p : Port) (s : State) : Host.Outcome State Fault Refusal :=
  command p (.positionCarry p) (operate true overWater (fun _ => none) (acceptOp .carry)) s

/-- An OBSERVE begins (R132): DWELL from acceptance, straight on to COUNT with a dwell of 0. -/
def startObserve (period : Nat) (s : State) : State :=
  let now := s.time.elapsed
  let dwell := s.cableway.config.dwell
  setOp (.observe
    { period := period
      phase := if dwell = 0 then .count (after now period) else .dwell (after now dwell)
      pulses := 0, saturated := false }) .waiting s

/-- OBSERVE (R125, R132): T is clamped into 10,000..240,000 ms. -/
def execObserve (p : Port) (period : U32) (s : State) : Host.Outcome State Fault Refusal :=
  command p (.observe p period)
    (operate true overWater
      (fun s => if s.cableway.placement.isSome then none else some .missing)
      (startObserve (clampInt 10000 240000 period.toNat).toNat)) s

/-- What ABORT does with what is in flight (R133): the state after it, and 0 for aborted, 1 for nothing in
flight. -/
def abortMotion (s : State) : State × Nat :=
  if s.cableway.op.isSome then (endOp .aborted .none (cutDrives s), 0)
  else if s.cableway.retract.isSome then (finishRetract .retractAborted (cutDrives s), 0)
  else (s, 1)

/-- ABORT (R133). -/
def execAbort (p : Port) (s : State) : Host.Outcome State Fault Refusal :=
  command p (.abort p) (fun s => (settle (abortMotion s).1, okWith (u8 (abortMotion s).2))) s

/-- REEL_FREE's gate (R125). -/
def reelFreeGate (s : State) : Bool :=
  decide (s.permit.record.state = .halted) && s.cableway.loadTrip.passed

/-- Restart the repeat watch of a REEL_FREE in flight; absent when none is (R134). -/
def repeatReelFree (s : State) : Option State :=
  match s.cableway.op with
  | some { kind := .reelFree _, phase := ph } =>
    some (setOp (.reelFree (after s.time.elapsed 500)) ph s)
  | some _ => none
  | none => none

/-- REEL_FREE (R125, R134): repeated while one is in flight, it is answered OK. -/
def execReelFree (p : Port) (s : State) : Host.Outcome State Fault Refusal :=
  command p (.reelFree p)
    (fun s =>
      match repeatReelFree s with
      | some s1 => (s1, plain .ok)
      | none =>
        operate true reelFreeGate (fun _ => none)
          (fun s => acceptOp (.reelFree (after s.time.elapsed 500)) s) s) s

/-! ### Inputs (R120, R136) -/

/-- A filtered input changes level (R120): the filter notes a candidate or discards it; with width 0 the
change passes at once. -/
def changeInput (i : Contact) (closed : Bool) (s : State) : State :=
  let s1 := onCable (fun c => { c with pins := c.pins.setContact i closed }) s
  let f := s1.cableway.filter i
  if closed = f.passed then onCable (·.setFilter i { f with candidate := none }) s1
  else if s1.cableway.config.width i = 0 then passLevel i closed s1
  else
    onCable (·.setFilter i { f with candidate := some (f.candidate.getD s.time.elapsed) }) s1

/-- INPUT_CHANGE (R120). While the part is held in reset only the level at the pin changes. -/
def execInputChange (input : Contact) (closed : Bool) (s : State) : Host.Outcome State Fault Refusal :=
  if s.held.isSome then .next (onCable (fun c => { c with pins := c.pins.setContact input closed }) s)
  else .next (settle (changeInput input closed s))

/-- A candidate has held for the filter's width and becomes the passed level (R120). -/
def passFilter (i : Contact) (s : State) : State :=
  let f := s.cableway.filter i
  match f.candidate with
  | some t => passLevel i (!f.passed) (reach (after t (s.cableway.config.width i)) s)
  | none => s

/-- FILTER_PASS (R120). -/
def execFilterPass (input : Contact) (s : State) : Host.Outcome State Fault Refusal :=
  event (passFilter input) s

/-- A limit switch changes level (R136): a limit that asserts while a drive moves toward it is met. -/
def changeLimit (l : Limit) (closed : Bool) (s : State) : State :=
  let s1 := onCable (fun c => { c with pins := c.pins.setLimit l closed }) s
  match s.cableway.drive with
  | some d =>
    if closed ∧ s.cableway.pins.limit l = false ∧ d.dir.limit = some l then limitMet l s1 else s1
  | none => s1

/-- LIMIT_SWITCH_CHANGE (R136). While the part is held in reset only the level at the pin changes. -/
def execLimitSwitchChange (limit : Limit) (closed : Bool) (s : State) :
    Host.Outcome State Fault Refusal :=
  if s.held.isSome then .next (onCable (fun c => { c with pins := c.pins.setLimit limit closed }) s)
  else .next (settle (changeLimit limit closed s))

/-! ### Encoders and watches (R121, R135, R137) -/

/-- A count one step on; past an end of its signed 32-bit range it is open (log entry 8). -/
def countOn (up : Bool) (n : U32) : U32 :=
  if up then (if n = 2147483647#32 then Config.countPast up n else n + 1)
  else (if n = 2147483648#32 then Config.countPast up n else n - 1)

/-- An axis's count has changed (R121, R135, R137): the stall watch or the coast starts again, positions
are followed, and drift is a fault. -/
def countChanged (a : Axis) (s : State) : State :=
  let now := s.time.elapsed
  match s.cableway.axis a with
  | .driven =>
    trackMotion (onCable (fun c =>
      { c with drive := c.drive.map fun d => if d.dir.axis = a then { d with since := now } else d }) s)
  | .coasting _ => onCable (·.setAxis a (.coasting now)) s
  | .settled _ => if s.cableway.drifted a then encoderFault a s else s

/-- A cableway encoder steps (R121, R137). -/
def stepEncoder (a : Axis) (moved : EncoderMove) (s : State) : State :=
  match moved with
  | .impossible => encoderFault a s
  | .up => countChanged a (onCable (fun c => c.setCount a (countOn true (c.count a))) s)
  | .down => countChanged a (onCable (fun c => c.setCount a (countOn false (c.count a))) s)

/-- CABLEWAY_ENCODER_STEP (R121, R137). -/
def execCablewayEncoderStep (axis : Axis) (moved : EncoderMove) (s : State) :
    Host.Outcome State Fault Refusal :=
  event (stepEncoder axis moved) s

/-- The stall watch expires while a drive is energised (R135). -/
def expireStall (s : State) : State :=
  match s.cableway.drive with
  | some d => stallFault d.dir.axis (reach (after d.since 3000) s)
  | none => s

/-- STALL_WATCH_EXPIRY (R135). -/
def execStallWatchExpiry (s : State) : Host.Outcome State Fault Refusal := event expireStall s

/-- A coasting axis settles at its count, and what waited for it goes on (R121). -/
def settleAxis (a : Axis) (s : State) : State :=
  match s.cableway.axis a with
  | .coasting since =>
    resume (onCable (fun c => c.setAxis a (.settled (c.count a))) (reach (after since 500) s))
  | .driven => s
  | .settled _ => s

/-- AXIS_SETTLED (R121). -/
def execAxisSettled (axis : Axis) (s : State) : Host.Outcome State Fault Refusal :=
  event (settleAxis axis) s

/-- REEL_FREE's repeat watch expires: the reel drive is cut, and REEL_FREE ends when the reel has settled
(R134). -/
def expireRepeat (s : State) : State :=
  match s.cableway.op with
  | some { kind := .reelFree ends, phase := ph } =>
    match ph with
    | .waiting => cutAndSettle (.reelFree ends) (reach ends s)
    | .driving => cutAndSettle (.reelFree ends) (reach ends s)
    | .settling => s
  | some _ => s
  | none => s

/-- REPEAT_WATCH_EXPIRY (R134). -/
def execRepeatWatchExpiry (s : State) : Host.Outcome State Fault Refusal := event expireRepeat s

/-- OBSERVE's dwell ends and its count begins (R132). -/
def endDwell (s : State) : State :=
  match s.cableway.op with
  | some { kind := .observe { period := t, phase := .dwell ends, pulses := _, saturated := _ }, phase := ph } =>
    setOp (.observe { period := t, phase := .count (after ends t), pulses := 0, saturated := false }) ph
      (reach ends s)
  | some _ => s
  | none => s

/-- DWELL_END (R132). -/
def execDwellEnd (s : State) : Host.Outcome State Fault Refusal := event endDwell s

/-- An observation is handed to the working vertical, with its velocity under the meter rating of the run
that is OPEN (R146, R147). -/
def handObservation (pulses period : Nat) (saturated : Bool) (s : State) : State :=
  match s.cableway.placement, s.run.openBody with
  | some x, some b =>
    s.withWorking (s.working.observe
      { fraction := x.fraction, depth := x.depth, pulses := pulses, period := period
        velocity := pointVelocity b.a b.b b.ppr pulses period, low := x.low, saturated := saturated })
  | some _, none => s
  | none, _ => s

/-- OBSERVE's count ends (R132). -/
def endCount (s : State) : State :=
  match s.cableway.op with
  | some { kind := .observe { period := t, phase := .count ends, pulses := n, saturated := sat }, phase := _ } =>
    handObservation n t sat (endOp .done (.observe n t sat) (reach ends s))
  | some _ => s
  | none => s

/-- OBSERVE_COUNT_END (R132). -/
def execObserveCountEnd (s : State) : Host.Outcome State Fault Refusal := event endCount s

/-! ### SET_STANDDOWN (R163) -/

/-- The stand-down stage a payload carries: −32,768 is NONE (11.4). -/
def standStageOf (v : U16) : Option Int := if v = 0x8000#16 then none else some v.toInt

/-- Whether SET_STANDDOWN's items lie in their ranges (R163). -/
def standdownFits (x : StanddownPayload) : Bool :=
  decide (x.level.toNat ≤ 4) && decide (x.rate.toNat ≤ 32767)
    && (decide (x.stage = 0x8000#16) || inRange (-32000) 32000 x.stage.toInt)

/-- The three items are replaced and the permit, when OPEN, tests its conditions (R163). -/
def setStanddown (x : StanddownPayload) (s : State) : State :=
  permitTest (s.withPermit
    { s.permit with level := x.level.toNat, rate := x.rate.toNat, stage := standStageOf x.stage })

/-- SET_STANDDOWN (R163): the answer carries the permit record as it stands after any stand-down. -/
def execSetStanddown (p : Port) (config : StanddownPayload) (s : State) :
    Host.Outcome State Fault Refusal :=
  command p (.setStanddown p config)
    (fun s =>
      if standdownFits config then
        let s1 := setStanddown config s
        (settle s1,
          okWith ([config.level] ++ bytes16 config.rate ++ bytes16 config.stage
            ++ permitBytes s1.permit.record))
      else (s, plain .range)) s

end Sys2Proof.Machine
end

