-- ==== Sys2Proof/Machine/Channels.lean ====
section
/-! DEFINITION. The stage channels and the selections: their commands and what the sensors bring about
(chapter 2, R33, R34, R39, R47). -/

namespace Sys2Proof.Machine

/-- A command that names a channel 0..3; any other number is refused RANGE. -/
def withChannel (ch : Byte) (work : Chan → State → State × Answer) (s : State) : State × Answer :=
  match chanOfByte ch with
  | some c => work c s
  | none => (s, plain .range)

/-! ### CONFIGURE_CHANNEL and GET_CHANNEL (R20, R21) -/

/-- Whether a configuration's fields lie in their ranges (R20). The maximum step is read for CH2 alone. -/
def configFits (c : Chan) (x : ChannelPayload) : Bool :=
  (powerModeOf x.mode).isSome && decide (x.warmUp.toNat ≤ 5)
    && decide (1 ≤ x.n.toNat) && decide (x.n.toNat ≤ 15)
    && inRange (-32000) 32000 x.offset.toInt
    && inRange (-1000000) 1000000 x.low.toInt && inRange (-1000000) 1000000 x.high.toInt
    && decide (x.low.toInt ≤ x.high.toInt)
    && decide (1 ≤ x.f.toNat) && decide (x.f.toNat ≤ 15)
    && (decide (c ≠ .ch2) || decide (1 ≤ x.maxStep.toNat))
    && decide (warmUpMs x.warmUp.toNat + x.n.toNat * 200 ≤ 11500)

/-- The configuration a payload carries; for CH0, CH1 and CH3 the maximum step is stored as 0 (R20). -/
def configOf (c : Chan) (x : ChannelPayload) : ChanConfig :=
  { mode := (powerModeOf x.mode).getD .continuous, warmUp := x.warmUp.toNat, n := x.n.toNat
    gain := x.gain.toInt, offset := x.offset.toInt, low := x.low.toInt, high := x.high.toInt
    f := x.f.toNat, maxStep := if c = .ch2 then x.maxStep.toNat else 0 }

/-- CONFIGURE_CHANNEL (R20). -/
def execConfigureChannel (p : Port) (ch : Byte) (config : ChannelPayload) (s : State) :
    Host.Outcome State Fault Refusal :=
  command p (.configureChannel p ch config)
    (withChannel ch fun c s =>
      if configFits c config then
        if (chan c s).state = .disabled then
          (setChan c { chan c s with config := configOf c config } s, plain .ok)
        else (s, plain .state)
      else (s, plain .range)) s

/-- A configuration in the layout of bytes 1..20 of CONFIGURE_CHANNEL (11.4). -/
def configBytes (x : ChanConfig) : List Byte :=
  u8 (powerModeCode x.mode) ++ u8 x.warmUp ++ u8 x.n ++ s32 x.gain ++ s16 x.offset ++ s32 x.low
    ++ s32 x.high ++ u8 x.f ++ u16 x.maxStep

/-- The role of a channel: 0 NONE, 1 PRIMARY, 2 CHECK (11.4). -/
def roleCode (c : Chan) (u : StageUnit) : Nat :=
  if u.primary = some c then 1 else if u.check = some c then 2 else 0

/-- The position count as GET_CHANNEL sends it: 0 for the channels other than CH2 (11.4). -/
def positionBytes (c : Chan) (e : EncoderInput) : List Byte :=
  match c with
  | .ch2 => s32 e.count.toInt
  | .ch0 => s32 0
  | .ch1 => s32 0
  | .ch3 => s32 0

/-- GET_CHANNEL's answer (R21, 11.4). -/
def channelAnswer (c : Chan) (s : State) : List Byte :=
  let x := chan c s
  u8 (chanKindCode c) ++ configBytes x.config ++ u8 (chanStateCode x.state)
    ++ u8 (roleCode c s.stage)
    ++ u16 (match x.warmUntil with
      | some t => msLeft t s.time.elapsed
      | none => 0)
    ++ (match x.burst with
      | some b => u8 (passCode b.pass) ++ u8 b.readings.length
      | none => [0, 0])
    ++ u8 x.missing
    ++ (match x.lastSample with
      | some l =>
        u8 (if l.value.isSome then 1 else 2) ++ w32 l.time ++ s32 (absentZero l.value) ++ u8 l.v
          ++ yes l.retried
      | none => u8 0 ++ w32 0 ++ s32 0 ++ u8 0 ++ yes false)
    ++ (match x.lastRaw with
      | some r => u8 (readOutcomeCode r.outcome) ++ s32 (absentZero r.raw)
      | none => u8 0 ++ s32 0)
    ++ positionBytes c s.encoder

/-- GET_CHANNEL (R21). -/
def execGetChannel (p : Port) (ch : Byte) (s : State) : Host.Outcome State Fault Refusal :=
  command p (.getChannel p ch) (withChannel ch fun c s => (s, okWith (channelAnswer c s))) s

/-! ### ENABLE_CHANNEL, DISABLE_CHANNEL and RESTORE_CHANNEL (R22, R24, R25) -/

/-- CH2's step reference becomes absent when CH2 is enabled or restored (R18). -/
def dropReference (c : Chan) (s : State) : State :=
  match c with
  | .ch2 => s.withEncoder { s.encoder with stepRef := none }
  | .ch0 => s
  | .ch1 => s
  | .ch3 => s

/-- ENABLE_CHANNEL (R22). -/
def execEnableChannel (p : Port) (ch : Byte) (s : State) : Host.Outcome State Fault Refusal :=
  command p (.enableChannel p ch)
    (withChannel ch fun c s =>
      if (chan c s).state = .disabled then
        (dropReference c (setChan c
          { (chan c s).serve s.time.elapsed with
            missing := 0, lastSample := none, lastRaw := none } s), plain .ok)
      else (s, plain .state)) s

/-- A channel contributes neither a reading nor a missing sample to the acquisition in flight, which no
longer awaits it: its burst is abandoned, and what it has handed already is withdrawn (R24, R36). -/
def leaveAcquisition (c : Chan) (s : State) : State :=
  match s.schedule.acq with
  | none => s
  | some a =>
    let s1 := s.withSchedule { s.schedule with
      acq := some { a with still := a.still.set c false, handed := a.handed.set c none } }
    if a.still.get c then s1.owe [.completion] else s1

/-- A channel that is not DISABLED goes to DISABLED (R24). -/
def disableChannel (c : Chan) (s : State) : State :=
  let s1 := setPreWarm c false (setChan c { (chan c s).unpower .disabled with missing := 0 } s)
  let s2 :=
    if s1.stage.check = some c then s1.withStage { s1.stage.rePair with check := none } else s1
  leaveAcquisition c s2

/-- DISABLE_CHANNEL (R24). -/
def execDisableChannel (p : Port) (ch : Byte) (s : State) : Host.Outcome State Fault Refusal :=
  command p (.disableChannel p ch)
    (withChannel ch fun c s =>
      if s.stage.primary = some c then (s, plain .inUse)
      else if (chan c s).state = .disabled then (s, plain .ok)
      else (settle (disableChannel c s), plain .ok)) s

/-- A FAILED channel returns to service, with its CHANNEL entry (R25). -/
def restoreChannel (c : Chan) (s : State) : State :=
  append (.channel s.time.station c .restored)
    (dropReference c (setChan c { (chan c s).serve s.time.elapsed with missing := 0 } s))

/-- RESTORE_CHANNEL (R25). -/
def execRestoreChannel (p : Port) (ch : Byte) (s : State) : Host.Outcome State Fault Refusal :=
  command p (.restoreChannel p ch)
    (withChannel ch fun c s =>
      if (chan c s).state = .failed then (settle (restoreChannel c s), plain .ok)
      else (s, plain .state)) s

/-! ### The selections (R33, R34, R46) -/

/-- The primary becomes `c`; a check of the same channel becomes NONE, and a change of the primary starts
the disagreement count again (R33, R46). -/
def selectPrimary (c : Chan) (s : State) : State :=
  if s.stage.primary = some c then s
  else
    s.withStage
      { s.stage.rePair with
        primary := some c
        check := if s.stage.check = some c then none else s.stage.check }

/-- SELECT_PRIMARY (R33). -/
def execSelectPrimary (p : Port) (ch : Byte) (s : State) : Host.Outcome State Fault Refusal :=
  command p (.selectPrimary p ch)
    (withChannel ch fun c s =>
      if (chan c s).config.mode = .continuous ∧ (chan c s).state = .on then
        (selectPrimary c s, plain .ok)
      else (s, plain .notReady)) s

/-- The check becomes the one given; a change of it starts the disagreement count again (R34, R46). -/
def selectCheck (sel : Option Chan) (s : State) : State :=
  if s.stage.check = sel then s else s.withStage { s.stage.rePair with check := sel }

/-- SELECT_CHECK (R34): a channel, or NONE by 0xFF. -/
def execSelectCheck (p : Port) (ch : Byte) (s : State) : Host.Outcome State Fault Refusal :=
  command p (.selectCheck p ch)
    (fun s =>
      if ch = 0xFF then (selectCheck none s, plain .ok)
      else
        withChannel ch (fun c s =>
          if s.stage.primary = some c then (s, plain .inUse)
          else if (chan c s).state = .disabled then (s, plain .state)
          else (selectCheck (some c) s, plain .ok)) s) s

/-- SET_CROSSCHECK (R47). -/
def execSetCrosscheck (p : Port) (limit : U16) (k w : Byte) (s : State) :
    Host.Outcome State Fault Refusal :=
  command p (.setCrosscheck p limit k w)
    (fun s =>
      if inRange 1 1000 limit.toNat && inRange 1 15 k.toNat && inRange 2 16 w.toNat then
        (s.withStage { s.stage.rePair with limit := limit.toNat, k := k.toNat, w := w.toNat },
          plain .ok)
      else (s, plain .range)) s

/-! ### GET_STAGE (R39) -/

/-- GET_STAGE's answer (R39, 11.4); the warning level is read from the warning unit. -/
def stageAnswer (s : State) : List Byte :=
  let u := s.stage
  let x := u.record
  s16 (absentZero x.value) ++ u8 (qualityCode x.quality)
    ++ bitByte [x.substituted, x.disagree, x.clamped] ++ chanOrNone x.source
    ++ yes x.sampleTime.isSome ++ w32 (absentTime x.sampleTime) ++ w32 (absentTime u.heldSince)
    ++ s16 x.rate ++ yes x.rateValid ++ u32 x.discharge
    ++ u8 (dischargeQualityCode x.dischargeQuality) ++ u8 s.warning.level ++ [x.generation]
    ++ u16 u.limit ++ u8 u.k ++ u8 u.w ++ u8 u.disagreeCount ++ yes u.lastDiff.isSome
    ++ s32 (absentZero u.lastDiff)

/-- GET_STAGE (R39). -/
def execGetStage (p : Port) (s : State) : Host.Outcome State Fault Refusal :=
  command p (.getStage p) (fun s => (s, okWith (stageAnswer s))) s

/-! ### Warm-up, readings and sensors (R17, R19, R23, R27) -/

/-- A warm-up expires: the channel goes ON, and its burst begins if an acquisition awaits it (R23). -/
def expireWarmUp (c : Chan) (s : State) : State :=
  let x := chan c s
  match x.state, x.warmUntil with
  | .warming, some t =>
    burstIfAwaited c (setChan c { x with state := .on, warmUntil := none } (reach t s))
  | .warming, none => s
  | .disabled, _ => s
  | .on, _ => s
  | .sleeping, _ => s
  | .failed, _ => s

/-- WARM_UP_EXPIRY (R23). -/
def execWarmUpExpiry (c : Chan) (s : State) : Host.Outcome State Fault Refusal :=
  event (expireWarmUp c) s

/-- READING_SLOT_END (R27), for a channel with a burst in flight. -/
def execReadingSlotEnd (c : Chan) (count : U24) (s : State) : Host.Outcome State Fault Refusal :=
  event (fun s =>
    match (chan c s).burst with
    | some b => slotEnd c count b s
    | none => s) s

/-- A reply of the ranging sensor is kept for the slot in flight when it is the slot's first and does not
belong to an ended one (R19, log entry 16). -/
def keepReply (reply : RangingFrame) (s : State) : State :=
  match (chan .ch3 s).burst, s.ranging.reply with
  | some _, none => if reply.late then s else s.withRanging { s.ranging with reply := some reply }
  | some _, some _ => s
  | none, _ => s

/-- RANGING_REPLY (R19). -/
def execRangingReply (reply : RangingFrame) (s : State) : Host.Outcome State Fault Refusal :=
  event (keepReply reply) s

/-- A quadrature step moves the position count while CH2 is powered (R17). -/
def stepQuadrature (up : Bool) (s : State) : State :=
  if (chan .ch2 s).state.powered then
    s.withEncoder { s.encoder with count := if up then s.encoder.count + 1 else s.encoder.count - 1 }
  else s

/-- QUADRATURE_STEP (R17). -/
def execQuadratureStep (up : Bool) (s : State) : Host.Outcome State Fault Refusal :=
  event (stepQuadrature up) s

end Sys2Proof.Machine
end

