-- ==== Sys2Proof/Machine/Reset.lean ====
section
/-! DEFINITION. The resets: what each block loses at a station reset, the restart that follows it, and the
cold reset (00_scope.md "Reset kinds and the retained domain"; R14, R37, R52, R67, R89, R90, R118, R140,
R160, R173, R182, R194). -/

namespace Sys2Proof.Machine

/-! ### What a station reset takes away, block by block -/

/-- A channel at a station reset (R37): unpowered, its burst, warm-up and last readings gone. An enabled
channel waits in SLEEPING until the restart serves it by its power mode. -/
def Channel.atReset (x : Channel) : Channel :=
  { x with
    state := match x.state with
      | .disabled => .disabled
      | .failed => .failed
      | .warming => .sleeping
      | .on => .sleeping
      | .sleeping => .sleeping
    warmUntil := none, burst := none
    missing := if x.state = .failed then x.config.f else 0
    lastSample := none, lastRaw := none }

/-- A channel at the restart (R37): an enabled one enters service by its power mode. -/
def Channel.atRestart (x : Channel) : Channel :=
  if x.state = .sleeping then x.serve 0 else x

/-- The station stage unit at a reset (R52, R53): its configuration and selections are kept. -/
def StageUnit.atReset (u : StageUnit) (generation : Byte) : StageUnit :=
  { u with
    record := .reset generation, earlier := none, heldSince := none, disagreeCount := 0
    lastDiff := none, ring := [] }

/-- A rule at a reset (R118). -/
def Rule.atReset (r : Rule) : Rule := { r with state := .inactive, count := 0, last := none }

/-- The warning unit at a station reset (R118, R119). -/
def Warning.atReset (w : Warning) : Warning :=
  { w with
    rules := w.rules.map Rule.atReset, level := 0, target := 0, floor := 0, hold := none
    siren := none, display := .dashes, beacon := none }

/-- The fault unit at a reset, before RESTART is reported (R182 steps 1 and 3). -/
def FaultUnit.atReset : FaultUnit :=
  { word := 0, detail := none, thresholds := FaultUnit.defaultThresholds }

/-- A port at a reset (R194). What its last transaction shifted out has been shifted out. -/
def PortUnit.atReset (u : PortUnit) : PortUnit := { PortUnit.reset with shiftedOut := u.shiftedOut }

/-- The permit at a restart (R173): CLOSED, or HALTED with the load trip asserted. -/
def restartPermit (loadTrip : Bool) (time : U32) : PermitRecord :=
  { state := if loadTrip then .halted else .closed, cause := .restart, time := time }

/-- Every block's state outside the retained domain takes its reset value (00_scope.md). -/
def clearVolatile (s : State) : State :=
  { s with
    time := { s.time with elapsed := 0 }
    schedule := { s.schedule with mode := .normal, preWarm := .all false, acq := none }
    chans := s.chans.map fun _ x => x.atReset
    encoder := { s.encoder with stepRef := none }
    ranging := { s.ranging with reply := none }
    stage := s.stage.atReset s.rating.generation
    rating := { s.rating with lastEffective := none }
    warning := s.warning.atReset
    cableway := .reset s.cableway.config s.cableway.pins
    working := .empty
    permit :=
      { s.permit with record := restartPermit s.cableway.pins.loadTrip s.time.station }
    faults := .atReset
    ports := s.ports.map fun _ u => u.atReset
    resetOrder := none
    due := [] }

/-! ### The station reset -/

/-- The part is held in a station reset of the source given; a hold that stands keeps its source (log
entry 12). -/
def holdReset (src : ResetSource) (s : State) : State :=
  (clearVolatile s).withHeld (some (s.held.getD src))

/-- The restart from the retained domain, `msToCount` before the next count of station time: the blocks
start (R14, R37, R140, R173), four dashes are sent to the display (R114), RESTART is reported (R182), the
RESTART entry is appended (R89), an OPEN run is closed ABANDONED_RESET (R160), and the fault round made at
restart follows (R118). -/
def restart (src : ResetSource) (msToCount : Nat) (s : State) : State :=
  let s0 := (clearVolatile s).withHeld none
  let s1 := s0.withTime { s0.time with nextCount := BitVec.ofNat 32 msToCount }
  let s2 := placeDue (s1.withChans (s1.chans.map fun _ x => x.atRestart))
  let s3 := takeBatch [{ fault := .restart, arg := .reset (.station src) }] (sendDisplay .dashes s2)
  let s4 := append (.restart s3.time.station (.station src)) s3
  settle (closeRun .abandonedReset s4)

/-- The station reset that STATION_RESET orders takes effect (R191): the part restarts at once, and the
next count of station time stays where it was (R1). -/
def commandReset (s : State) : State :=
  restart .command (msLeft s.time.nextCount s.time.elapsed) s

/-! ### The cold reset -/

/-- A cold reset (R14, R38, R52, R53, R68, R90, R118, R119, R140, R161, R173, R182, R194): every field as
`State.reset` has it, but for what lies outside the part: the levels at the pins, which the filters and
the permit take up, the slots whose memory fails hard, the count of the latch's transfers, and the waiting
commands. -/
def coldRestart (s : State) : State :=
  let x := State.reset
  { x with
    record := { x.record with cells := s.record.cells.filter fun e => decide (e.2 = .hard) }
    cableway := .reset .cold s.cableway.pins
    permit := { x.permit with record := restartPermit s.cableway.pins.loadTrip 0 }
    latch := { x.latch with transfers := s.latch.transfers + 1 }
    orders := s.orders
    pending := s.pending }

/-! ### The commands -/

/-- RESET_PIN: the RESET pin held low for 2 ms makes a station reset with source PIN (R89). -/
def execResetPin (s : State) : Host.Outcome State Fault Refusal := .next (holdReset .pin s)

/-- BROWN_OUT: a brown-out of the main supply makes a station reset with source BROWN_OUT (R89). -/
def execBrownOut (s : State) : Host.Outcome State Fault Refusal := .next (holdReset .brownOut s)

/-- COLD_RESET (R90). -/
def execColdReset (s : State) : Host.Outcome State Fault Refusal := .next (coldRestart s)

/-- STATION_RESTART: the part leaves the station reset it is held in (R1). A part that is not held in one
does not restart. -/
def execStationRestart (msToCount : Nat) (s : State) : Host.Outcome State Fault Refusal :=
  match s.held with
  | some src => .next (restart src msToCount s)
  | none => .next s

end Sys2Proof.Machine
end

