-- ==== Sys2Proof/Machine/Ports.lean ====
section
/-! DEFINITION. The station ports: transactions (R183 to R189), the ordered station reset (R191), and the
commands that act on the asking port's own state (R180, R192). -/

namespace Sys2Proof.Machine

/-- Apply a function to one port. -/
def onPort (p : Port) (f : PortUnit → PortUnit) (s : State) : State :=
  s.withPorts (s.ports.set p (f (s.ports.get p)))

/-- Note what a transaction shifted out. -/
def shifted (p : Port) (bytes : List Byte) (s : State) : State :=
  onPort p (fun u => { u with shiftedOut := bytes }) s

/-! ### Request frames (R184, R186) -/

/-- The first check that a request frame fails (R184), absent when it passes all three. -/
def frameFault (bytes : List Byte) : Option HaltReason :=
  match bytes with
  | code :: n :: _ =>
    if 200 < n.toNat ∨ bytes.length ≠ n.toNat + 3 then some .length
    else if bytes.foldl (· + ·) 0 ≠ 0 then some .check
    else if knownCode code then none
    else some .unknown
  | [_] => some .length
  | [] => some .length

/-- The payload of a request frame that passes its checks (11.2). -/
def framePayload (bytes : List Byte) : List Byte := (bytes.drop 2).dropLast

/-- A frame that passes its checks is judged for role and for form (R190): the command that goes to its
block, with the answer already there when the judging gives one. -/
def judgeFrame (p : Port) (code : Byte) (payload : List Byte) : InBlock :=
  if codeAllows code p then
    match decodeRequest p code payload with
    | some c => { command := some c, answer := none }
    | none => { command := none, answer := some (plain .range) }
  else { command := none, answer := some (plain .denied) }

/-- A request frame ends (R184, R186). -/
def endFrame (p : Port) (bytes : List Byte) (u : PortUnit) : PortUnit :=
  match u.phase with
  | .idle =>
    match frameFault bytes with
    | some h => { u with phase := .halted h }
    | none => { u with phase := .busy (judgeFrame p (bytes.headD 0) (framePayload bytes)), overrun := false }
  | .busy _ => { u with overrun := true }
  | .ready _ => { u with overrun := true }
  | .halted _ => u

/-! ### FETCH, CLEAR and POLL (R187 to R189) -/

/-- The frame that a FETCH shifts out (R187). -/
def fetchReply (u : PortUnit) : List Byte :=
  match u.phase with
  | .ready r => responseFrame r.answer
  | .idle => responseFrame (plain .none)
  | .busy _ => responseFrame (plain .none)
  | .halted _ => responseFrame (plain .none)

/-- A port after a FETCH (R187). -/
def PortUnit.fetched (u : PortUnit) : PortUnit :=
  match u.phase with
  | .ready _ => { u with phase := .idle }
  | .idle => u
  | .busy _ => u
  | .halted _ => u

/-- Whether a FETCH now delivers the response of a STATION_RESET whose reset is still to come (R191). -/
def deliversReset (p : Port) (s : State) : Bool :=
  match (s.ports.get p).phase with
  | .ready r => decide (r.command = some (.stationReset p)) && s.resetOrder.isSome && decide (p = .logger)
  | .idle => false
  | .busy _ => false
  | .halted _ => false

/-- A FETCH transaction of `clocked` whole bytes, begun and ended on the port state as it stands (R183,
R187, log entry 15). -/
def fetchTransaction (p : Port) (clocked : Nat) (s : State) : State :=
  if clocked = 0 then s
  else
    let s1 := shifted p (shiftOut (fetchReply (s.ports.get p)) clocked) s
    let s2 := onPort p PortUnit.fetched s1
    if deliversReset p s then commandReset s2 else s2

/-- A port after a CLEAR (R188): the command it was BUSY with joins the abandoned commands. -/
def PortUnit.cleared (u : PortUnit) : PortUnit :=
  { u with
    phase := .idle, overrun := false
    abandoned := match u.phase with
      | .busy b => u.abandoned ++ [b]
      | .idle => u.abandoned
      | .ready _ => u.abandoned
      | .halted _ => u.abandoned }

/-- A CLEAR transaction of `clocked` whole bytes (R188); on the logger port it brings an ordered station
reset into effect (R191). -/
def clearTransaction (p : Port) (clocked : Nat) (s : State) : State :=
  let s1 := onPort p PortUnit.cleared (shifted p (List.replicate clocked 0) s)
  if p = .logger ∧ s.resetOrder.isSome then commandReset s1 else s1

/-- The code of a port state in a POLL reply (R189). -/
def phaseCode : PortPhase → Byte
  | .idle => 0
  | .busy _ => 1
  | .ready _ => 2
  | .halted _ => 3

/-- The code of the halt reason in a POLL reply (R189). -/
def haltCode : PortPhase → Byte
  | .halted .check => 1
  | .halted .length => 2
  | .halted .unknown => 3
  | .idle => 0
  | .busy _ => 0
  | .ready _ => 0

/-- The six bytes of the POLL reply (R189). -/
def pollReply (u : PortUnit) : List Byte :=
  let body := [phaseCode u.phase, haltCode u.phase] ++ yes u.overrun ++ eventByte u.events
    ++ eventByte u.mask
  body ++ [checkByte body]

/-- A POLL transaction of `clocked` whole bytes (R189). That bytes clocked beyond the reply are answered 0x00,
as R183 states it of a FETCH, is the model's choice (log entry 47). -/
def pollTransaction (p : Port) (clocked : Nat) (s : State) : State :=
  if clocked = 0 then s else shifted p (shiftOut (pollReply (s.ports.get p)) clocked) s

/-! ### Answers placed (R185) -/

/-- A port after its BUSY command's answer is placed in the response buffer (R185). -/
def PortUnit.placeAnswer (u : PortUnit) : PortUnit :=
  match u.phase with
  | .busy b =>
    match b.answer with
    | some a => { u with phase := .ready { command := b.command, answer := a } }
    | none => u
  | .idle => u
  | .ready _ => u
  | .halted _ => u

/-- A port after the answer of its abandoned command number `i` is dropped (R185, R188). -/
def PortUnit.dropAnswer (u : PortUnit) (i : Nat) : PortUnit :=
  match u.abandoned[i]? with
  | some b => if b.answer.isSome then { u with abandoned := u.abandoned.eraseIdx i } else u
  | none => u

/-! ### The commands -/

/-- REQUEST_FRAME (R183, R184, R186): a transaction that carries a request frame. Bytes that begin
another type of transaction make that transaction, and none make none. -/
def execRequestFrame (p : Port) (bytes : List Byte) (s : State) : Host.Outcome State Fault Refusal :=
  if s.held.isSome then .next s
  else
    match bytes with
    | [] => .next s
    | first :: _ =>
      if first = 0x00 then .next (pollTransaction p bytes.length s)
      else if first = 0x01 then .next (clearTransaction p bytes.length s)
      else if first = 0xFF then .next (fetchTransaction p bytes.length s)
      else .next (onPort p (endFrame p bytes) (shifted p (List.replicate bytes.length 0) s))

/-- COMMAND_ANSWER (R185): an answer that the block has ready is placed or dropped. -/
def execCommandAnswer (p : Port) (source : Option Nat) (s : State) :
    Host.Outcome State Fault Refusal :=
  if s.held.isSome then .next s
  else
    .next (onPort p (fun u =>
      match source with
      | none => u.placeAnswer
      | some i => u.dropAnswer i) s)

/-- FETCH (R187, R191). -/
def execFetch (p : Port) (clocked : Nat) (s : State) : Host.Outcome State Fault Refusal :=
  if s.held.isSome then .next s else .next (fetchTransaction p clocked s)

/-- CLEAR (R188, R191). -/
def execClear (p : Port) (s : State) : Host.Outcome State Fault Refusal :=
  if s.held.isSome then .next s else .next (clearTransaction p 1 s)

/-- POLL (R189). -/
def execPoll (p : Port) (clocked : Nat) (s : State) : Host.Outcome State Fault Refusal :=
  if s.held.isSome then .next s else .next (pollTransaction p clocked s)

/-- STATION_RESET (R191): answered OK; its reset is ordered for 1,000 ms from the answer at the latest. The
answer is the block's, given in this step, and not its placing in the buffer (log entry 42). A CLEAR taken
before this step has brought nothing: the reset then waits for a later CLEAR or for the 1,000 ms (log entry
43). -/
def execStationReset (p : Port) (s : State) : Host.Outcome State Fault Refusal :=
  command p (.stationReset p)
    (fun s => (s.withResetOrder (some (s.resetOrder.getD (after s.time.elapsed 1000))), plain .ok)) s

/-- STATION_RESET_TIMEOUT (R191): the ordered station reset takes effect. -/
def execStationResetTimeout (s : State) : Host.Outcome State Fault Refusal :=
  match s.held, s.resetOrder with
  | none, some t => .next (commandReset (reach t s))
  | none, none => .next s
  | some _, _ => .next s

/-- The permit copy as GET_EVENTS sends it: only when PERMIT was pending (11.4). -/
def permitCopyBytes (u : PortUnit) : List Byte :=
  match u.events.permit, u.permitCopy with
  | true, some r => permitBytes r
  | true, none => []
  | false, _ => []

/-- GET_EVENTS (R192). -/
def execGetEvents (p : Port) (s : State) : Host.Outcome State Fault Refusal :=
  command p (.getEvents p)
    (fun s =>
      let u := s.ports.get p
      (syncRecord (onPort p (fun u => { u with events := .none, permitCopy := none }) s),
        okWith (eventByte u.events ++ permitCopyBytes u))) s

/-- SET_EVENT_MASK (R192). -/
def execSetEventMask (p : Port) (mask : Byte) (s : State) : Host.Outcome State Fault Refusal :=
  command p (.setEventMask p mask)
    (fun s =>
      if mask.getLsbD 7 then (s, plain .range)
      else (onPort p (fun u => { u with mask := eventSetOf mask }) s, okWith [mask])) s

/-- SET_REPORTING (R180). -/
def execSetReporting (p : Port) (threshold : Byte) (s : State) : Host.Outcome State Fault Refusal :=
  command p (.setReporting p threshold)
    (fun s =>
      match thresholdOf threshold with
      | none => (s, plain .range)
      | some t =>
        (s.withFaults { s.faults with thresholds := s.faults.thresholds.set p t }, okWith [threshold])) s

end Sys2Proof.Machine
end

