-- ==== Sys2Proof/Machine/RatingCommands.lean ====
section
/-! DEFINITION. The rating unit's commands (R54 to R56, R62, R63, R66). -/

namespace Sys2Proof.Machine

/-- Points as LOAD_RATING carries them (11.4). -/
def tableBytes : List TablePoint → List Byte
  | [] => []
  | q :: qs => s16 q.stage ++ u32 q.discharge ++ tableBytes qs

/-- The station discharge and its quality as answers carry them (11.4). -/
def dischargeBytes (x : StageRecord) : List Byte :=
  u32 x.discharge ++ u8 (dischargeQualityCode x.dischargeQuality)

/-- GET_RATING's answer (R54, 11.4). -/
def ratingAnswer (s : State) : List Byte :=
  let r := s.rating
  (match r.table with
    | some t => u8 t.length ++ tableBytes t
    | none => u8 0)
    ++ [r.generation] ++ s32 r.shift ++ u16 r.shiftLimit ++ yes r.lastEffective.isSome
    ++ s16 (absentZero r.lastEffective) ++ dischargeBytes s.stage.record

/-- GET_RATING (R54). -/
def execGetRating (p : Port) (s : State) : Host.Outcome State Fault Refusal :=
  command p (.getRating p) (fun s => (s, okWith (ratingAnswer s))) s

/-- The points of a payload as a table. -/
def tableOf (points : List RatingPoint) : List TablePoint :=
  points.map fun q => { stage := q.stage.toInt, discharge := q.discharge.toNat }

/-- Whether each point's stage is strictly greater than the one before it (R55). -/
def stagesRise : List TablePoint → Bool
  | a :: b :: rest => decide (a.stage < b.stage) && stagesRise (b :: rest)
  | [_] => true
  | [] => true

/-- Whether no point's discharge is less than the one before it (R55). -/
def dischargesRise : List TablePoint → Bool
  | a :: b :: rest => decide (a.discharge ≤ b.discharge) && dischargesRise (b :: rest)
  | [_] => true
  | [] => true

/-- The first failing check of a load, by its reason code: COUNT, STAGE_RANGE, STAGE_ORDER,
DISCHARGE_ORDER (R55, 11.4). -/
def loadFault (count : Nat) (t : List TablePoint) : Option Nat :=
  if count < 2 ∨ 24 < count ∨ count ≠ t.length then some 0
  else if !t.all (fun q => inRange (-32000) 32000 q.stage) then some 1
  else if !stagesRise t then some 2
  else if !dischargesRise t then some 3
  else none

/-- An accepted load: the table, the generation, the shift, and the discharge recomputed (R56). -/
def loadRating (t : List TablePoint) (s : State) : State :=
  recompute (s.withRating
    { s.rating with table := some t, generation := s.rating.generation + 1, shift := 0 })

/-- LOAD_RATING (R55, R56). -/
def execLoadRating (p : Port) (count : Byte) (points : List RatingPoint) (s : State) :
    Host.Outcome State Fault Refusal :=
  command p (.loadRating p count points)
    (fun s =>
      match loadFault count.toNat (tableOf points) with
      | some reason => (s, { status := .invalid, payload := u8 reason })
      | none =>
        doneThen (loadRating (tableOf points))
          (fun t => okWith ([t.rating.generation] ++ dischargeBytes t.stage.record)) s) s

/-- The answer to SET_SHIFT and APPLY_SHIFT: the shift taken and its clamped mark (R62, R66). -/
def shiftAnswer (given taken : Int) : Answer := okWith (s32 taken ++ yes (decide (taken ≠ given)))

/-- SET_SHIFT (R62). -/
def execSetShift (p : Port) (shift : U32) (s : State) : Host.Outcome State Fault Refusal :=
  command p (.setShift p shift)
    (fun s =>
      (settle (recompute (installShift shift.toInt s)),
        shiftAnswer shift.toInt (clampShift s.rating.shiftLimit shift.toInt))) s

/-- The limit is replaced and the shift in force clamped to it; a clamp that changes the shift recomputes
the discharge (R63). -/
def setShiftLimit (limit : Nat) (s : State) : State :=
  let shift := clampShift limit s.rating.shift
  let s1 := s.withRating { s.rating with shiftLimit := limit, shift := shift }
  if shift = s.rating.shift then s1 else recompute s1

/-- SET_SHIFT_LIMIT (R63). -/
def execSetShiftLimit (p : Port) (limit : U16) (s : State) : Host.Outcome State Fault Refusal :=
  command p (.setShiftLimit p limit)
    (fun s =>
      if limit.toNat ≤ 2000 then
        (settle (setShiftLimit limit.toNat s),
          okWith (u16 limit.toNat ++ s32 (clampShift limit.toNat s.rating.shift)))
      else (s, plain .range)) s

/-- What APPLY_SHIFT finds in the run record: the derived shift of a CLOSED, COMPLETE, AVAILABLE run with
its generation (R66). -/
def appliedShift (r : RunRecord) : Option (Int × Byte) :=
  match r.body with
  | some b =>
    match b.closing with
    | some c =>
      if c.outcome = .complete ∧ c.status = .available then some (c.shift, c.generation) else none
    | none => none
  | none => none

/-- APPLY_SHIFT (R66). -/
def execApplyShift (p : Port) (s : State) : Host.Outcome State Fault Refusal :=
  command p (.applyShift p)
    (fun s =>
      match appliedShift s.run with
      | none => (s, plain .state)
      | some (shift, generation) =>
        if generation ≠ s.rating.generation then (s, plain .stale)
        else
          (settle (recompute (installShift shift s)),
            shiftAnswer shift (clampShift s.rating.shiftLimit shift))) s

end Sys2Proof.Machine
end

