-- ==== Sys2Proof/Machine/RecordCommands.lean ====
section
/-! DEFINITION. The stage record's commands and its readers (R79 to R88). -/

namespace Sys2Proof.Machine

/-- The cursor of a reader's port (R69); the cableway port has none and its commands reach none. -/
def Record.cursor (r : Record) : Port → Nat
  | .logger => r.loggerCursor
  | .warning => r.warningCursor
  | .cableway => r.next

/-- Move the cursor of a reader's port. -/
def Record.setCursor (r : Record) (p : Port) (n : Nat) : Record :=
  match p with
  | .logger => { r with loggerCursor := n }
  | .warning => { r with warningCursor := n }
  | .cableway => r

/-- The item that a slot's content gives a reader: an entry as stored, DAMAGED for a placeholder (R81). -/
def itemOf (q : Nat) : Slot → RecordItem
  | .entry _ e => .entry q e
  | .placeholder _ => .damaged q
  | .empty => .damaged q

/-- A read of slot `n` for the expected sequence `q` (R81 to R84): the record after its handling, the
batch of its reports, and the item. -/
def Record.readSlot (r : Record) (n q : Nat) : Record × List Report × RecordItem :=
  match r.judge n q with
  | .good => (r, [], itemOf q (r.slot n))
  | .correctable =>
    (r.writeSlot n (r.slot n), [{ fault := .recordCorrected, arg := .number n }], itemOf q (r.slot n))
  | .bad false =>
    (r.writeSlot n (.placeholder q), [{ fault := .recordDamaged, arg := .number q }], .damaged q)
  | .bad true =>
    if r.mapOut.length < 16 then
      (r.mapSlot n (some q), [{ fault := .recordMappedOut, arg := .number n }], .damaged q)
    else
      (r.writeSlot n (.placeholder q),
        [{ fault := .recordDamaged, arg := .number q }, { fault := .recordMapFull, arg := .number n }],
        .damaged q)

/-- The item of sequence `q` for a reader (R79, R85): a lost sequence is DAMAGED with no slot read. -/
def Record.readSequence (r : Record) (q : Nat) : Record × List Report × RecordItem :=
  if r.lost q then (r, [], .damaged q) else r.readSlot (r.slotOf q) q

/-- Read up to `n` sequences from the port's cursor on, each slot's handling and its batch complete
before the next (R79, R80). -/
def readOn (p : Port) : Nat → State → State × List RecordItem
  | 0, s => (s, [])
  | n + 1, s =>
    let q := s.record.cursor p
    if q < s.record.next then
      let x := s.record.readSequence q
      let s1 := takeBatch x.2.1 (s.withRecord (x.1.setCursor p (q + 1)))
      let rest := readOn p n s1
      (rest.1, x.2.2 :: rest.2)
    else (s, [])

/-- READ_RECORDS's items (R79): a GAP first when the cursor is below the oldest sequence. -/
def readItems (p : Port) (s : State) : State × List RecordItem :=
  let q := s.record.cursor p
  if q < s.record.oldest then
    let r := readOn p 7 (s.withRecord (s.record.setCursor p s.record.oldest))
    (r.1, .gap q (s.record.oldest - q) :: r.2)
  else readOn p 8 s

/-- A slot's physical condition has changed, from outside (log entry 4). -/
def upset (r : Record) (u : Nat × CellCondition) : Record :=
  if u.1 < 4096 then { r with cells := Sparse.write .clean r.cells u.1 u.2 } else r

/-- READ_RECORDS's answer (11.6). -/
def recordsAnswer (p : Port) (items : List RecordItem) (r : Record) : List Byte :=
  u8 items.length ++ u32 (r.cursor p) ++ u32 r.next ++ items.flatMap itemBytes

/-- READ_RECORDS (R79 to R85). The fault rounds that its batches owe follow the read (log entry 5). -/
def execReadRecords (p : Port) (upsets : List (Nat × CellCondition)) (s : State) :
    Host.Outcome State Fault Refusal :=
  command p (.readRecords p upsets)
    (fun s =>
      let r := readItems p (s.withRecord (upsets.foldl upset s.record))
      let s1 := syncRecord r.1
      (settle s1, okWith (recordsAnswer p r.2 s1.record))) s

/-- SEEK_RECORDS (R87): the number clamped into the range from the oldest to the next sequence. -/
def execSeekRecords (p : Port) (sequence : U32) (s : State) : Host.Outcome State Fault Refusal :=
  command p (.seekRecords p sequence)
    (fun s =>
      let q := (clampInt s.record.oldest s.record.next sequence.toNat).toNat
      (syncRecord (s.withRecord (s.record.setCursor p q)), okWith (u32 q))) s

/-- The map-out table as GET_RECORD_STATUS sends it (11.4). -/
def mapOutBytes : List MapEntry → List Byte
  | [] => []
  | e :: es => u16 e.slot ++ yes e.lost.isSome ++ u32 (e.lost.getD 0) ++ mapOutBytes es

/-- GET_RECORD_STATUS's answer (R88, 11.4). -/
def recordStatusAnswer (r : Record) : List Byte :=
  u32 r.oldest ++ u32 r.next ++ u32 r.loggerCursor ++ u32 r.warningCursor ++ u16 r.capacity
    ++ u16 r.held ++ u8 r.mapOut.length ++ mapOutBytes r.mapOut

/-- GET_RECORD_STATUS (R88). -/
def execGetRecordStatus (p : Port) (s : State) : Host.Outcome State Fault Refusal :=
  command p (.getRecordStatus p) (fun s => (s, okWith (recordStatusAnswer s.record))) s

end Sys2Proof.Machine
end

