-- ==== Sys2Proof/Machine/RunCommands.lean ====
section
/-! DEFINITION. The gauging run's commands (R142, R143, R148 to R153, R164). -/

namespace Sys2Proof.Machine

/-! ### OPEN_RUN (R142, R164, R165) -/

/-- Whether the meter rating and the unsteadiness limit lie in their ranges (8.1, R142). -/
def meterFits (m : OpenRunPayload) : Bool :=
  inRange 0 1000 m.a.toNat && inRange 1 2000000 m.b.toNat && inRange 1 20 m.ppr.toNat
    && inRange 0 1000 m.unsteady.toNat

/-- The first condition for the grant that fails, by its code: PERMIT, UNREFERENCED, LOAD_TRIP, NO_STAGE,
LEVEL, RATE, STAGE (R164, 11.4). -/
def grantFault (s : State) : Option Nat :=
  let x := s.stage.record
  if s.permit.record.state ≠ .closed then some 0
  else if !s.cableway.referenced then some 1
  else if s.cableway.loadTrip.passed then some 2
  else if x.quality ≠ .good ∧ x.quality ≠ .suspect then some 3
  else if s.permit.level ≠ 0 ∧ s.permit.level ≤ s.warning.level then some 4
  else if s.permit.rate ≠ 0 ∧ ¬(x.rateValid = true ∧ x.rate < s.permit.rate) then some 5
  else
    match s.permit.stage, x.value with
    | some limit, some v => if limit ≤ v then some 6 else none
    | some _, none => none
    | none, _ => none

/-- The run record filled afresh at a grant (R141, R142). -/
def openedRun (m : OpenRunPayload) (s : State) : RunRecord :=
  { number := s.run.number + 1
    body := some
      { openTime := s.time.station, a := m.a.toNat, b := m.b.toNat, ppr := m.ppr.toNat
        unsteady := m.unsteady.toNat, openStage := absentZero s.stage.record.value
        openStageTime := absentTime s.stage.record.sampleTime, stack := [], direction := .unset
        closing := none } }

/-- A run is granted: the run opens and the permit becomes OPEN (R142, R165). -/
def grantRun (m : OpenRunPayload) (s : State) : State :=
  permitChange .open_ .granted (clearWorking (s.withRun (openedRun m s)))

/-- OPEN_RUN's answer when granted (11.4). -/
def grantAnswer (s : State) : Answer :=
  okWith (beBytes 2 s.run.number.toNat ++ s16 (absentZero s.stage.record.value)
    ++ w32 (absentTime s.stage.record.sampleTime) ++ u8 (permitStateCode s.permit.record.state))

/-- OPEN_RUN (R142, R164). -/
def execOpenRun (p : Port) (meter : OpenRunPayload) (s : State) : Host.Outcome State Fault Refusal :=
  command p (.openRun p meter)
    (fun s =>
      if !meterFits meter then (s, plain .range)
      else if s.cableway.op.isSome then (s, plain .busy)
      else
        match grantFault s with
        | some code =>
          (s, { status := .state
                payload := u8 (permitStateCode s.permit.record.state) ++ u8 code })
        | none => (settle (grantRun meter s), grantAnswer (grantRun meter s))) s

/-! ### The run commands' common checks (R148) -/

/-- STATE when the run is not OPEN, BUSY while a cableway operation is in flight (R148); otherwise the
command's own work on the open run. -/
def onOpenRun (work : RunBody → State → State × Answer) (s : State) : State × Answer :=
  match s.run.openBody with
  | none => (s, plain .state)
  | some b => if s.cableway.op.isSome then (s, plain .busy) else work b s

/-- Replace the open run's body. -/
def withBody (b : RunBody) (s : State) : State := s.withRun { s.run with body := some b }

/-! ### ADD_EDGE (R150) -/

/-- The kind of edge a payload names (11.4). -/
def edgeOf (b : Byte) : Option ItemKind :=
  if b = 0 then some .start else if b = 1 then some .finish else none

/-- Whether no item can be added: the stack is closed or holds 40 items (R149). -/
def stackShut (b : RunBody) : Bool := stackClosed b.stack || decide (40 ≤ b.stack.length)

/-- The refusal of an edge at a distance (R150 steps 2 and 3). -/
def edgeRefusal (k : ItemKind) (b : RunBody) (d : Int) : Option Status :=
  if k.isStart then (if b.stack.isEmpty then none else some .order)
  else if b.stack.isEmpty then some .order
  else if stackShut b then some .state
  else if !liesBeyond b d then some .order
  else none

/-- An edge as a stack item (R150). -/
def edgeItem (k : ItemKind) (distance : Int) (depth : Nat) : StackItem :=
  { kind := k, distance := distance, depth := depth, velocity := 0, low := false, saturated := false
    stage := none }

/-- ADD_EDGE (R150). -/
def execAddEdge (p : Port) (kind : Byte) (depth : U16) (s : State) : Host.Outcome State Fault Refusal :=
  command p (.addEdge p kind depth)
    (onOpenRun fun b s =>
      match edgeOf kind with
      | none => (s, plain .range)
      | some k =>
        if 30000 < depth.toNat then (s, plain .range)
        else
          let d := s.cableway.x
          match edgeRefusal k b d with
          | some st => (s, plain st)
          | none =>
            (withBody (b.push (edgeItem k d depth.toNat)) s, okWith (u8 b.stack.length ++ s32 d))) s

/-! ### ACCEPT_VERTICAL (R151) -/

/-- The mean velocity and the marks of a method (R151): absent when an observation it needs is lacking. -/
def methodResult (m : Method) (w : Working) : Option (Nat × Bool × Bool) :=
  match m with
  | .onePoint => (w.newestAt 60).map fun o => (o.velocity, o.low, o.saturated)
  | .twoPoint =>
    match w.newestAt 20, w.newestAt 80 with
    | some a, some b =>
      some ((roundHalfUp ((a.velocity : Int) + b.velocity) 2).toNat, a.low || b.low,
        a.saturated || b.saturated)
    | some _, none => none
    | none, _ => none
  | .none => some (0, false, false)

/-- What ACCEPT_VERTICAL lacks: bit 0 the sounding, bits 1, 2, 3 an observation at 60, 20, 80 (11.4). -/
def wanting (m : Method) (w : Working) : List Byte :=
  let lacks (f : Nat) := (w.newestAt f).isNone
  bitByte [w.sounding.isNone, decide (m = .onePoint) && lacks 60, decide (m = .twoPoint) && lacks 20,
    decide (m = .twoPoint) && lacks 80]

/-- The stage that a vertical takes: value and sample time of a GOOD or SUSPECT stage (R151). -/
def verticalStage (x : StageRecord) : Option (Int × U32) :=
  if unread x.quality then none else x.value.map fun v => (v, absentTime x.sampleTime)

/-- A vertical as a stack item (R151). -/
def verticalItem (m : Method) (x : Sounding) (r : Nat × Bool × Bool) (st : StageRecord) : StackItem :=
  { kind := .vertical m, distance := x.x, depth := x.d, velocity := r.1, low := r.2.1
    saturated := r.2.2, stage := verticalStage st }

/-- An item's marks as one byte: LOW_LIMITED, SATURATED, stage present (11.4). -/
def itemMarks (i : StackItem) : List Byte := bitByte [i.low, i.saturated, i.stage.isSome]

/-- An item's stage and its sample time, 0 when absent (11.4). -/
def itemStage (i : StackItem) : List Byte :=
  match i.stage with
  | some (v, t) => s16 v ++ w32 t
  | none => s16 0 ++ w32 0

/-- ACCEPT_VERTICAL (R151). -/
def execAcceptVertical (p : Port) (method : Byte) (s : State) : Host.Outcome State Fault Refusal :=
  command p (.acceptVertical p method)
    (onOpenRun fun b s =>
      match methodOf method with
      | none => (s, plain .range)
      | some m =>
        if stackShut b then (s, plain .state)
        else
          match s.working.sounding, methodResult m s.working with
          | some x, some r =>
            if b.stack.isEmpty || !liesBeyond b x.x then (s, plain .order)
            else
              let i := verticalItem m x r s.stage.record
              (clearWorking (withBody (b.push i) s),
                okWith (u8 b.stack.length ++ s32 i.distance ++ beU 2 i.depth ++ u16 i.velocity
                  ++ itemMarks i ++ itemStage i))
          | some _, none => (s, { status := .missing, payload := wanting m s.working })
          | none, _ => (s, { status := .missing, payload := wanting m s.working })) s

/-! ### DISCARD_LAST (R152) -/

/-- DISCARD_LAST (R152). -/
def execDiscardLast (p : Port) (s : State) : Host.Outcome State Fault Refusal :=
  command p (.discardLast p)
    (onOpenRun fun b s =>
      match b.stack.getLast? with
      | none => (s, plain .state)
      | some i =>
        (withBody b.pop s, okWith (u8 (itemKindCode i.kind) ++ u8 (b.stack.length - 1)))) s

/-! ### CLOSE_RUN (R153, R172) -/

/-- Whether an item is a VERTICAL with a mean velocity above 0. -/
def StackItem.flows (i : StackItem) : Bool :=
  i.kind.isVertical && decide (0 < i.velocity)

/-- The first condition for COMPLETE that fails: NO_START, NO_END, NO_VELOCITY (R153, 11.4). -/
def completeFault (st : List StackItem) : Option Nat :=
  let starts := match st.head? with
    | some i => i.kind.isStart
    | none => false
  if !starts then some 0
  else if !stackClosed st then some 1
  else if !st.any StackItem.flows then some 2
  else none

/-- The results of a COMPLETE run in their 23 bytes (11.4). -/
def resultsBytes (r : RunResults) : List Byte :=
  beU 4 r.q ++ beU 8 r.area ++ beU 4 r.width ++ beU 2 r.velocity ++ s16 r.meanStage
    ++ beU 2 r.stageChange ++ bitByte [r.unsteady, r.low, r.saturated]

/-- CLOSE_RUN's answer (11.4). -/
def closeAnswer (c : Closing) : Answer :=
  okWith (u8 (runOutcomeCode c.outcome)
    ++ (match c.results with
      | some r => resultsBytes r
      | none => [])
    ++ u8 (shiftStatusCode c.status) ++ s32 c.shift ++ yes c.clamped)

/-- CLOSE_RUN's close with its report to the permit (R157, R172). -/
def closeByCommand (outcome : RunOutcome) (s : State) : State :=
  permitChange .closed .runClosed (closeRun outcome s)

/-- CLOSE_RUN (R153). -/
def execCloseRun (p : Port) (abandon : Byte) (s : State) : Host.Outcome State Fault Refusal :=
  command p (.closeRun p abandon)
    (onOpenRun fun b s =>
      let finish (outcome : RunOutcome) : State × Answer :=
        (settle (closeByCommand outcome s),
          closeAnswer (closingOf s.rating b outcome s.time.station))
      if yesByte abandon then finish .abandonedOperator
      else
        match completeFault b.stack with
        | some code => (s, { status := .state, payload := u8 code })
        | none => finish .complete) s

/-! ### GET_RUN (R143) -/

/-- One stack item in its 17 bytes (11.4). -/
def stackItemBytes (i : StackItem) : List Byte :=
  u8 (itemKindCode i.kind) ++ s32 i.distance ++ beU 2 i.depth ++ itemMethodByte i.kind
    ++ u16 i.velocity ++ itemMarks i ++ itemStage i

/-- One observation in its 12 bytes (11.4). -/
def observationBytes (o : Observation) : List Byte :=
  u8 o.fraction ++ beU 2 o.depth ++ u16 o.pulses ++ u32 o.period ++ u16 o.velocity
    ++ bitByte [o.low, o.saturated]

/-- The working vertical as GET_RUN sends it, with places for four observations (11.4). -/
def workingBytes (w : Working) : List Byte :=
  (match w.sounding with
    | some x => yes true ++ s32 x.x ++ beU 2 x.ls ++ beU 2 x.lb ++ beU 2 x.d
    | none => yes false ++ s32 0 ++ u16 0 ++ u16 0 ++ u16 0)
    ++ u8 w.observations.length ++ w.observations.flatMap observationBytes
    ++ List.replicate (12 * (4 - w.observations.length)) 0

/-- The header of GET_RUN's answer for a run that is OPEN or CLOSED (11.4). -/
def runHeader (number : U16) (b : RunBody) : List Byte :=
  beBytes 2 number.toNat
    ++ (match b.closing with
      | none => u8 1
      | some _ => u8 2)
    ++ w32 b.openTime
    ++ w32 (match b.closing with
      | some c => c.time
      | none => 0)
    ++ u16 b.a ++ u32 b.b ++ u8 b.ppr ++ u16 b.unsteady ++ s16 b.openStage ++ w32 b.openStageTime
    ++ u8 (stackDirectionCode b.direction)
    ++ (match b.closing with
      | some c =>
        u8 (runOutcomeCode c.outcome)
          ++ (match c.results with
            | some r => resultsBytes r
            | none => [])
          ++ u8 (shiftStatusCode c.status) ++ s32 c.shift ++ yes c.clamped ++ [c.generation]
      | none => [0xFF, 0xFF] ++ s32 0 ++ yes false ++ [0])
    ++ u8 b.stack.length ++ u8 b.stageList.length

/-- The part of GET_RUN's answer that its page adds: up to 6 items, or the working vertical (R143). -/
def runPage (page : Byte) (b : RunBody) (w : Working) : List Byte :=
  if page = 0xFF then workingBytes w
  else ((b.stack.drop page.toNat).take 6).flatMap stackItemBytes

/-- GET_RUN's answer (R143). -/
def runAnswer (page : Byte) (s : State) : List Byte :=
  match s.run.body with
  | none => beBytes 2 s.run.number.toNat ++ u8 0
  | some b => runHeader s.run.number b ++ runPage page b s.working

/-- GET_RUN (R143). -/
def execGetRun (p : Port) (page : Byte) (s : State) : Host.Outcome State Fault Refusal :=
  command p (.getRun p page)
    (fun s =>
      if page.toNat < 40 ∨ page = 0xFF then (s, okWith (runAnswer page s)) else (s, plain .range)) s

end Sys2Proof.Machine
end

