-- ==== Sys2Proof/Machine/Schedule.lean ====
section
/-! DEFINITION. Station time and the sampling schedule: their commands (chapter 1). -/

namespace Sys2Proof.Machine

/-- GET_TIME's answer (R3, 11.4). -/
def timeAnswer (s : State) : List Byte :=
  let x := s.schedule
  w32 s.time.station ++ w32 s.time.elapsed ++ u8 (modeCode x.mode) ++ u16 x.normal ++ u16 x.fast
    ++ u8 x.fastLevel ++ w32 x.nextDue
    ++ (match x.acq with
      | some a =>
        yes true ++ w32 a.sampleTime ++ u8 (causeCode a.cause)
          ++ bitByte [a.still.c0, a.still.c1, a.still.c2, a.still.c3]
      | none => yes false ++ w32 0 ++ u8 0 ++ u8 0)

/-- GET_TIME (R3). -/
def execGetTime (p : Port) (s : State) : Host.Outcome State Fault Refusal :=
  command p (.getTime p) (fun s => (s, okWith (timeAnswer s))) s

/-- Station time takes a new value and the sub-second phase restarts (R4 step 1); an acquisition in flight
takes the new time as its sample time (R5). -/
def stepTime (time : U32) (s : State) : State :=
  let s1 := s.withTime { s.time with station := time, nextCount := after s.time.elapsed 1000 }
  s1.withSchedule
    { s1.schedule with acq := s1.schedule.acq.map fun a => { a with sampleTime := time } }

/-- The station stage unit empties its history ring at a change of station time (R4 step 4, R49). -/
def emptyRing (s : State) : State :=
  s.withStage { s.stage with ring := [], record := { s.stage.record with rateValid := false } }

/-- A SET_TIME that changes station time, steps 1 to 5 (R4). -/
def changeTime (time : U32) (s : State) : State :=
  let old := s.time.station
  let s2 := append (.timeStep old time) (stepTime time s)
  let s3 := takeBatch [{ fault := .timeStep, arg := .time old }] s2
  placeDue (emptyRing s3)

/-- SET_TIME (R4, R5). -/
def execSetTime (p : Port) (time : U32) (s : State) : Host.Outcome State Fault Refusal :=
  command p (.setTime p time)
    (fun s =>
      let answer := okWith (w32 s.time.station ++ w32 time)
      if time = s.time.station then (s, answer) else (settle (changeTime time s), answer)) s

/-- The normal intervals (R6). -/
def normalIntervals : List Nat := [60, 120, 300, 600, 900, 1800, 3600]

/-- The fast intervals (R6). -/
def fastIntervals : List Nat := [15, 30, 60, 120, 300]

/-- Whether SET_SCHEDULE's items are permitted (R6). -/
def scheduleFits (normal fast level : Nat) : Bool :=
  decide (normal ∈ normalIntervals) && decide (fast ∈ fastIntervals) && decide (level ≤ 4)
    && decide (fast ≤ normal)

/-- The schedule with its three items replaced, its mode decided and the next due instant placed (R6). -/
def setSchedule (normal fast level : Nat) (s : State) : State :=
  let s1 := s.withSchedule { s.schedule with normal := normal, fast := fast, fastLevel := level }
  placeDue (s1.withSchedule { s1.schedule with mode := modeNow s1 })

/-- SET_SCHEDULE (R6). -/
def execSetSchedule (p : Port) (normal fast : U16) (level : Byte) (s : State) :
    Host.Outcome State Fault Refusal :=
  command p (.setSchedule p normal fast level)
    (fun s =>
      if scheduleFits normal.toNat fast.toNat level.toNat then
        (setSchedule normal.toNat fast.toNat level.toNat s, plain .ok)
      else (s, plain .range)) s

/-- FORCE_SAMPLE (R13). An acquisition with no participants completes at its start (R12). -/
def execForceSample (p : Port) (s : State) : Host.Outcome State Fault Refusal :=
  command p (.forceSample p)
    (fun s =>
      match s.schedule.acq with
      | some _ => (s, { status := .accepted, payload := u8 1 })
      | none =>
        (settle ((startAcquisition s.time.station .forced s).owe [.completion]),
          { status := .accepted, payload := u8 0 })) s

/-- Station time counts, and a count to a multiple of the interval in force is a due instant (R1, R8). -/
def countTime (s : State) : State :=
  let s1 := reach s.time.nextCount s
  let s2 := s1.withTime
    { s1.time with
      station := s1.time.station + 1
      nextCount := s1.time.nextCount + 1000#32 }
  if s2.time.station.toNat % s2.schedule.interval = 0 then dueInstant s2 else s2

/-- STATION_TIME_COUNT (R1, R8). While the part is held in reset the second is counted and no due instant
is taken for it. -/
def execStationTimeCount (s : State) : Host.Outcome State Fault Refusal :=
  if s.held.isSome then .next (s.withTime { s.time with station := s.time.station + 1 })
  else .next (settle (countTime s))

/-- A sleeping channel's pre-warm point is reached: it is sent to WARMING and joins the pre-warm set
(R10, R26). A point that has already passed sends nothing. -/
def reachPreWarm (c : Chan) (s : State) : State :=
  let point := preWarmReading c s
  if (chan c s).state = .sleeping ∧ (ahead point s.time.elapsed ∨ point = s.time.elapsed) then
    let s1 := reach point s
    setPreWarm c true (setChan c ((chan c s1).warm s1.time.elapsed) s1)
  else s

/-- PRE_WARM_POINT (R10). -/
def execPreWarmPoint (c : Chan) (s : State) : Host.Outcome State Fault Refusal :=
  event (reachPreWarm c) s

end Sys2Proof.Machine
end

