-- ==== Sys2Proof/Machine/WarningCommands.lean ====
section
/-! DEFINITION. The warning unit's commands and timers (R91, R92, R105, R107, R108, R110, R111, R113, R116,
R117) and the fault unit's commands (R177, R181). -/

namespace Sys2Proof.Machine

/-! ### The rule table (R91, R92) -/

/-- The rule a LOAD_RULE payload carries, INACTIVE; absent when the quantity, condition, level or
persistence lies outside its list (R91). -/
def ruleOf (x : RulePayload) : Option Rule :=
  match quantityOf x.quantity, conditionOf x.condition with
  | some quantity, some condition =>
    if inRange 1 4 x.level.toNat && inRange 1 15 x.persistence.toNat then
      some
        { enabled := yesByte x.enabled, quantity := quantity, mask := x.mask, set := x.set
          clear := x.clear, condition := condition, level := x.level.toNat
          persistence := x.persistence.toNat, state := .inactive, count := 0, last := none }
    else none
  | some _, none => none
  | none, _ => none

/-- Replace a rule record whole and make the level computation (R91). -/
def loadRule (n : Nat) (r : Rule) (s : State) : State :=
  computeLevel false (s.withWarning { s.warning with rules := s.warning.rules.set n r })

/-- LOAD_RULE (R91). -/
def execLoadRule (p : Port) (rule : Byte) (record : RulePayload) (s : State) :
    Host.Outcome State Fault Refusal :=
  command p (.loadRule p rule record)
    (fun s =>
      match ruleOf record with
      | some r => if rule.toNat < 16 then (settle (loadRule rule.toNat r s), plain .ok) else (s, plain .range)
      | none => (s, plain .range)) s

/-- A rule record in the layout of bytes 1..17 of LOAD_RULE (11.4). -/
def ruleBytes (r : Rule) : List Byte :=
  yes r.enabled ++ u8 (quantityCode r.quantity) ++ w32 r.mask ++ w32 r.set ++ w32 r.clear
    ++ u8 (conditionCode r.condition) ++ u8 r.level ++ u8 r.persistence

/-- GET_RULE's answer (R92, 11.4); an absent masked quantity is sent as 0. -/
def ruleAnswer (r : Rule) : List Byte :=
  ruleBytes r ++ u8 (ruleStateCode r.state) ++ u8 r.count
    ++ (match r.last with
      | some e =>
        u8 (evalOutcomeCode e.outcome) ++ yes (!e.testedSet) ++ w32 (e.masked.getD 0) ++ w32 e.time
      | none => [0, 0] ++ w32 0 ++ w32 0)

/-- GET_RULE (R92). -/
def execGetRule (p : Port) (rule : Byte) (s : State) : Host.Outcome State Fault Refusal :=
  command p (.getRule p rule)
    (fun s =>
      match s.warning.rules[rule.toNat]? with
      | some r => (s, okWith (ruleAnswer r))
      | none => (s, plain .range)) s

/-! ### Configuration and reading (R116, R117) -/

/-- The three configuration items are replaced; a siren level of 0 or above L turns a sounding siren OFF
(R116). -/
def setWarningConfig (level hold run : Nat) (s : State) : State :=
  let s1 := s.withWarning { s.warning with sirenLevel := level, holdMin := hold, sirenRun := run }
  if level = 0 ∨ s.warning.level < level then sirenOff s1 else s1

/-- SET_WARNING_CONFIG (R116). -/
def execSetWarningConfig (p : Port) (sirenLevel : Byte) (hold : U16) (sirenRun : Byte) (s : State) :
    Host.Outcome State Fault Refusal :=
  command p (.setWarningConfig p sirenLevel hold sirenRun)
    (fun s =>
      if sirenLevel.toNat ≤ 4 ∧ hold.toNat ≤ 720 ∧ 1 ≤ sirenRun.toNat ∧ sirenRun.toNat ≤ 60 then
        (setWarningConfig sirenLevel.toNat hold.toNat sirenRun.toNat s, plain .ok)
      else (s, plain .range)) s

/-- The milliseconds left of a timer that may be idle. -/
def timerBytes (t : Option U32) (now : U32) : List Byte :=
  match t with
  | some ends => yes true ++ u32 (msLeft ends now)
  | none => yes false ++ u32 0

/-- One rule's four bytes in GET_WARNING's answer (11.4). -/
def ruleLine (r : Rule) : List Byte :=
  yes r.enabled ++ u8 r.level ++ u8 (ruleStateCode r.state) ++ u8 r.count

/-- GET_WARNING's answer (R117, 11.4). -/
def warningAnswer (s : State) : List Byte :=
  let w := s.warning
  u8 w.level ++ u8 w.target ++ u8 w.floor ++ timerBytes w.hold s.time.elapsed
    ++ timerBytes w.siren s.time.elapsed ++ u8 w.sirenLevel ++ u16 w.holdMin ++ u8 w.sirenRun
    ++ (displayCodes w.display).flatMap u8 ++ w.rules.flatMap ruleLine

/-- GET_WARNING (R117). -/
def execGetWarning (p : Port) (s : State) : Host.Outcome State Fault Refusal :=
  command p (.getWarning p) (fun s => (s, okWith (warningAnswer s))) s

/-! ### The siren (R110, R111) -/

/-- ACK_SIREN when the siren is ON: it turns OFF, with a WARNING entry of cause ACK (R110). -/
def ackSiren (s : State) : State :=
  let l := s.warning.level
  raiseEvent .siren
    (append (.warning s.time.station l l .ack) (s.withWarning { s.warning with siren := none }))

/-- ACK_SIREN (R110). -/
def execAckSiren (p : Port) (s : State) : Host.Outcome State Fault Refusal :=
  command p (.ackSiren p)
    (fun s => if s.warning.siren.isSome then (settle (ackSiren s), okWith (u8 0)) else (s, okWith (u8 0))) s

/-- The siren's run timer expires: the siren turns OFF with fault SIREN_TIMEOUT (R111). -/
def expireSiren (s : State) : State :=
  match s.warning.siren with
  | some t =>
    let s1 := reach t s
    raiseEvent .siren
      (takeBatch [{ fault := .sirenTimeout, arg := .number s1.warning.level }]
        (s1.withWarning { s1.warning with siren := none }))
  | none => s

/-- SIREN_TIMEOUT (R111). -/
def execSirenTimeout (s : State) : Host.Outcome State Fault Refusal := event expireSiren s

/-! ### The manual floor (R107, R108) -/

/-- The floor, the target and L, as the answers to the floor commands give them. -/
def floorAnswer (w : Warning) : Answer := okWith (u8 w.floor ++ u8 w.target ++ u8 w.level)

/-- The manual floor takes a value and the level computation follows (R107, R108); the answer gives the
state as it stands after the computation. -/
def setFloor (level : Nat) (s : State) : State × Answer :=
  let s1 := computeLevel false (s.withWarning { s.warning with floor := level })
  (settle s1, floorAnswer s1.warning)

/-- RAISE_MANUAL (R107). -/
def execRaiseManual (p : Port) (level : Byte) (s : State) : Host.Outcome State Fault Refusal :=
  command p (.raiseManual p level)
    (fun s => if inRange 1 4 level.toNat then setFloor level.toNat s else (s, plain .range)) s

/-- CLEAR_MANUAL (R108). -/
def execClearManual (p : Port) (s : State) : Host.Outcome State Fault Refusal :=
  command p (.clearManual p) (setFloor 0) s

/-! ### The hold timer and the beacon (R105, R113) -/

/-- The hold timer expires: L becomes the target as it stands (R105). -/
def expireHold (s : State) : State :=
  match s.warning.hold with
  | some t => changeLevel s.warning.target .holdExpiry (reach t s)
  | none => s

/-- HOLD_EXPIRY (R105). -/
def execHoldExpiry (s : State) : Host.Outcome State Fault Refusal := event expireHold s

/-- A period of the beacon's pattern ends and the other begins (R113). -/
def turnBeacon (s : State) : State :=
  match s.warning.beacon with
  | some b =>
    let s1 := reach b.until_ s
    let pattern := beaconPattern s.warning.level
    s1.withWarning
      { s1.warning with
        beacon := some
          { on := !b.on, until_ := after b.until_ (if b.on then pattern.2 else pattern.1) } }
  | none => s

/-- BEACON_PHASE_END (R113). -/
def execBeaconPhaseEnd (s : State) : Host.Outcome State Fault Refusal := event turnBeacon s

/-! ### The fault unit (R177, R181) -/

/-- GET_FAULTS's answer (R181, 11.4). -/
def faultsAnswer (f : FaultUnit) : List Byte :=
  w32 f.word
    ++ (match f.detail with
      | some d =>
        u8 (faultBit d.fault) ++ u8 (severityCode (faultSeverity d.fault)) ++ w32 d.time
          ++ faultArgBytes d.arg
      | none => [0xFF] ++ u8 0 ++ w32 0 ++ u32 0)
    ++ u8 (thresholdCode f.thresholds.logger) ++ u8 (thresholdCode f.thresholds.cableway)
    ++ u8 (thresholdCode f.thresholds.warning)

/-- GET_FAULTS (R181). -/
def execGetFaults (p : Port) (s : State) : Host.Outcome State Fault Refusal :=
  command p (.getFaults p) (fun s => (s, okWith (faultsAnswer s.faults))) s

/-- The fault unit with the bits of a mask cleared; the detail empties when its bit is among those cleared
(R177). -/
def FaultUnit.clear (f : FaultUnit) (mask : U32) : FaultUnit :=
  { f with
    word := f.word &&& ~~~mask
    detail := match f.detail with
      | some d => if mask.getLsbD (faultBit d.fault) && bitSet f.word d.fault then none else some d
      | none => none }

/-- CLEAR_FAULTS: a clear that changes the word makes a fault round (R177). -/
def clearFaults (mask : U32) (s : State) : State :=
  let s1 := s.withFaults (s.faults.clear mask)
  if s1.faults.word = s.faults.word then s else s1.owe [.faultRound s1.faults.word]

/-- CLEAR_FAULTS (R177): the answer gives the word as it stands after the clear. -/
def execClearFaults (p : Port) (mask : U32) (s : State) : Host.Outcome State Fault Refusal :=
  command p (.clearFaults p mask)
    (fun s => (settle (clearFaults mask s), okWith (w32 (clearFaults mask s).faults.word))) s

end Sys2Proof.Machine
end

