-- ==== Sys2Proof/Machine/Dispatch.lean ====
section
/-! DEFINITION. The dispatch: one direct call of its meaning for each command. -/

namespace Sys2Proof.Machine

/-- The effect of a command on everything but the queue of waiting commands. -/
def exec (i : Instr) (s : State) : Host.Outcome State Fault Refusal :=
  match i with
  | .requestFrame p bytes => Sys2Proof.Machine.execRequestFrame p bytes s
  | .commandAnswer p source => Sys2Proof.Machine.execCommandAnswer p source s
  | .fetch p clocked => Sys2Proof.Machine.execFetch p clocked s
  | .clear p => Sys2Proof.Machine.execClear p s
  | .poll p clocked => Sys2Proof.Machine.execPoll p clocked s
  | .getTime p => Sys2Proof.Machine.execGetTime p s
  | .setTime p time => Sys2Proof.Machine.execSetTime p time s
  | .setSchedule p normal fast level => Sys2Proof.Machine.execSetSchedule p normal fast level s
  | .forceSample p => Sys2Proof.Machine.execForceSample p s
  | .stationReset p => Sys2Proof.Machine.execStationReset p s
  | .stationResetTimeout => Sys2Proof.Machine.execStationResetTimeout s
  | .getEvents p => Sys2Proof.Machine.execGetEvents p s
  | .setEventMask p mask => Sys2Proof.Machine.execSetEventMask p mask s
  | .setReporting p threshold => Sys2Proof.Machine.execSetReporting p threshold s
  | .configureChannel p ch config => Sys2Proof.Machine.execConfigureChannel p ch config s
  | .enableChannel p ch => Sys2Proof.Machine.execEnableChannel p ch s
  | .disableChannel p ch => Sys2Proof.Machine.execDisableChannel p ch s
  | .restoreChannel p ch => Sys2Proof.Machine.execRestoreChannel p ch s
  | .selectPrimary p ch => Sys2Proof.Machine.execSelectPrimary p ch s
  | .selectCheck p ch => Sys2Proof.Machine.execSelectCheck p ch s
  | .setCrosscheck p limit k w => Sys2Proof.Machine.execSetCrosscheck p limit k w s
  | .getChannel p ch => Sys2Proof.Machine.execGetChannel p ch s
  | .getStage p => Sys2Proof.Machine.execGetStage p s
  | .loadRating p count points => Sys2Proof.Machine.execLoadRating p count points s
  | .getRating p => Sys2Proof.Machine.execGetRating p s
  | .setShift p shift => Sys2Proof.Machine.execSetShift p shift s
  | .applyShift p => Sys2Proof.Machine.execApplyShift p s
  | .setShiftLimit p limit => Sys2Proof.Machine.execSetShiftLimit p limit s
  | .readRecords p upsets => Sys2Proof.Machine.execReadRecords p upsets s
  | .seekRecords p sequence => Sys2Proof.Machine.execSeekRecords p sequence s
  | .getRecordStatus p => Sys2Proof.Machine.execGetRecordStatus p s
  | .loadRule p rule record => Sys2Proof.Machine.execLoadRule p rule record s
  | .getRule p rule => Sys2Proof.Machine.execGetRule p rule s
  | .setWarningConfig p sirenLevel hold sirenRun => Sys2Proof.Machine.execSetWarningConfig p sirenLevel hold sirenRun s
  | .getWarning p => Sys2Proof.Machine.execGetWarning p s
  | .ackSiren p => Sys2Proof.Machine.execAckSiren p s
  | .raiseManual p level => Sys2Proof.Machine.execRaiseManual p level s
  | .clearManual p => Sys2Proof.Machine.execClearManual p s
  | .getFaults p => Sys2Proof.Machine.execGetFaults p s
  | .clearFaults p mask => Sys2Proof.Machine.execClearFaults p mask s
  | .holdExpiry => Sys2Proof.Machine.execHoldExpiry s
  | .sirenTimeout => Sys2Proof.Machine.execSirenTimeout s
  | .beaconPhaseEnd => Sys2Proof.Machine.execBeaconPhaseEnd s
  | .setCablewayConfig p config => Sys2Proof.Machine.execSetCablewayConfig p config s
  | .getCableway p => Sys2Proof.Machine.execGetCableway p s
  | .home p => Sys2Proof.Machine.execHome p s
  | .move p target => Sys2Proof.Machine.execMove p target s
  | .sound p => Sys2Proof.Machine.execSound p s
  | .position p fraction => Sys2Proof.Machine.execPosition p fraction s
  | .positionCarry p => Sys2Proof.Machine.execPositionCarry p s
  | .observe p period => Sys2Proof.Machine.execObserve p period s
  | .abort p => Sys2Proof.Machine.execAbort p s
  | .reelFree p => Sys2Proof.Machine.execReelFree p s
  | .openRun p meter => Sys2Proof.Machine.execOpenRun p meter s
  | .addEdge p kind depth => Sys2Proof.Machine.execAddEdge p kind depth s
  | .acceptVertical p method => Sys2Proof.Machine.execAcceptVertical p method s
  | .discardLast p => Sys2Proof.Machine.execDiscardLast p s
  | .closeRun p abandon => Sys2Proof.Machine.execCloseRun p abandon s
  | .getRun p page => Sys2Proof.Machine.execGetRun p page s
  | .setStanddown p config => Sys2Proof.Machine.execSetStanddown p config s
  | .stationTimeCount => Sys2Proof.Machine.execStationTimeCount s
  | .preWarmPoint ch => Sys2Proof.Machine.execPreWarmPoint ch s
  | .warmUpExpiry ch => Sys2Proof.Machine.execWarmUpExpiry ch s
  | .readingSlotEnd ch count => Sys2Proof.Machine.execReadingSlotEnd ch count s
  | .rangingReply reply => Sys2Proof.Machine.execRangingReply reply s
  | .quadratureStep up => Sys2Proof.Machine.execQuadratureStep up s
  | .inputChange input closed => Sys2Proof.Machine.execInputChange input closed s
  | .filterPass input => Sys2Proof.Machine.execFilterPass input s
  | .limitSwitchChange limit closed => Sys2Proof.Machine.execLimitSwitchChange limit closed s
  | .cablewayEncoderStep axis moved => Sys2Proof.Machine.execCablewayEncoderStep axis moved s
  | .stallWatchExpiry => Sys2Proof.Machine.execStallWatchExpiry s
  | .axisSettled axis => Sys2Proof.Machine.execAxisSettled axis s
  | .repeatWatchExpiry => Sys2Proof.Machine.execRepeatWatchExpiry s
  | .dwellEnd => Sys2Proof.Machine.execDwellEnd s
  | .observeCountEnd => Sys2Proof.Machine.execObserveCountEnd s
  | .resetPin => Sys2Proof.Machine.execResetPin s
  | .brownOut => Sys2Proof.Machine.execBrownOut s
  | .coldReset => Sys2Proof.Machine.execColdReset s
  | .stationRestart msToCount => Sys2Proof.Machine.execStationRestart msToCount s

end Sys2Proof.Machine
end

