-- ==== Sys2Proof/Machine/Step.lean ====
section
/-! DEFINITION. The step: the command at the front of the queue, or a millisecond that passes. -/

namespace Sys2Proof.Machine

/-- A millisecond passes in which nothing is commanded (R2, log entry 11): the elapsed-time counter is
advanced by one. While the part is held in reset it stands at 0. -/
def tick (s : State) : State :=
  match s.held with
  | some _ => s
  | none => s.withTime { s.time with elapsed := s.time.elapsed + 1 }

/-- One step: the command at the front of the queue is taken, with the queue's rest; on an empty queue a
millisecond passes. -/
def step (s : State) : Host.Outcome State Fault Refusal :=
  match s.pending with
  | c :: rest => exec c (s.withPending rest)
  | [] => .next (tick s)

/-- The state with the command that a table word spells at the front of its queue; no word spells one
(log entry 1). -/
def State.withFetchWord (s : State) (nbits w : Nat) : State :=
  match decodeTableWord nbits w with
  | some c => s.withPending (c :: s.pending)
  | none => s

end Sys2Proof.Machine
end

