-- ==== Sys2Proof/WellFormed.lean ====
section
/-! DEFINITION. Well-formed commands: a term of `Instr` that the wire or the outside world can bring. The
part's own refusals (DENIED, RANGE and the rest) are meanings, not matters of form. -/

namespace Sys2Proof

/-- Whether a transaction's first byte makes it a request frame (R183). -/
def startsRequest : List Byte → Bool
  | [] => false
  | b :: _ => b != 0x00 && b != 0x01 && b != 0xFF

/-- Whether a command is well formed. -/
def Instr.wellFormed : Instr → Bool
  | .requestFrame _ bytes => startsRequest bytes
  | .fetch _ clocked => decide (1 ≤ clocked)
  | .poll _ clocked => decide (1 ≤ clocked)
  | .loadRating _ _ points => decide (2 ≤ points.length) && decide (points.length ≤ 24)
  | .position _ fraction => fraction != 0xFF
  | .readRecords _ upsets => upsets.all (fun u => decide (u.1 < 4096))
  | .stationRestart ms => decide (1 ≤ ms) && decide (ms ≤ 1000)
  | .commandAnswer _ _ => true
  | .clear _ => true
  | .getTime _ => true
  | .setTime _ _ => true
  | .setSchedule _ _ _ _ => true
  | .forceSample _ => true
  | .stationReset _ => true
  | .stationResetTimeout => true
  | .getEvents _ => true
  | .setEventMask _ _ => true
  | .setReporting _ _ => true
  | .configureChannel _ _ _ => true
  | .enableChannel _ _ => true
  | .disableChannel _ _ => true
  | .restoreChannel _ _ => true
  | .selectPrimary _ _ => true
  | .selectCheck _ _ => true
  | .setCrosscheck _ _ _ _ => true
  | .getChannel _ _ => true
  | .getStage _ => true
  | .getRating _ => true
  | .setShift _ _ => true
  | .applyShift _ => true
  | .setShiftLimit _ _ => true
  | .seekRecords _ _ => true
  | .getRecordStatus _ => true
  | .loadRule _ _ _ => true
  | .getRule _ _ => true
  | .setWarningConfig _ _ _ _ => true
  | .getWarning _ => true
  | .ackSiren _ => true
  | .raiseManual _ _ => true
  | .clearManual _ => true
  | .getFaults _ => true
  | .clearFaults _ _ => true
  | .holdExpiry => true
  | .sirenTimeout => true
  | .beaconPhaseEnd => true
  | .setCablewayConfig _ _ => true
  | .getCableway _ => true
  | .home _ => true
  | .move _ _ => true
  | .sound _ => true
  | .positionCarry _ => true
  | .observe _ _ => true
  | .abort _ => true
  | .reelFree _ => true
  | .openRun _ _ => true
  | .addEdge _ _ _ => true
  | .acceptVertical _ _ => true
  | .discardLast _ => true
  | .closeRun _ _ => true
  | .getRun _ _ => true
  | .setStanddown _ _ => true
  | .stationTimeCount => true
  | .preWarmPoint _ => true
  | .warmUpExpiry _ => true
  | .readingSlotEnd _ _ => true
  | .rangingReply _ => true
  | .quadratureStep _ => true
  | .inputChange _ _ => true
  | .filterPass _ => true
  | .limitSwitchChange _ _ => true
  | .cablewayEncoderStep _ _ => true
  | .stallWatchExpiry => true
  | .axisSettled _ => true
  | .repeatWatchExpiry => true
  | .dwellEnd => true
  | .observeCountEnd => true
  | .resetPin => true
  | .brownOut => true
  | .coldReset => true

end Sys2Proof
end

