-- ==== Sys2Proof/Safety.lean ====
section
/-! DEFINITION. What a safe run keeps, and the words in which statements about the part are said. -/

namespace Sys2Proof.Machine

/-! ### Words for statements -/

/-- The command's block judges it: the part is not held in reset, the port's column permits the command
(R190), and nothing is owed from before. -/
def Judged (p : Port) (c : Instr) (s : State) : Prop :=
  s.held = none ∧ permitted p c = true ∧ s.due = []

/-- The part runs: it is not held in reset, and nothing is owed from before. -/
def Runs (s : State) : Prop := s.held = none ∧ s.due = []

/-- The answer most recently given to a command of port `p` is `a`. -/
def Answered (p : Port) (a : Answer) (t : State) : Prop := (t.ports.get p).lastAnswer = some a

/-- Nothing but the ports differs. -/
def OnlyPorts (s t : State) : Prop := ∃ x, t = s.withPorts x

/-- The command's step answers a next state that differs from `u` in the ports alone, where the asking
port has been given answer `a`. -/
def Gives (p : Port) (c : Instr) (s u : State) (a : Answer) : Prop :=
  ∃ t, exec c s = .next t ∧ t = giveAnswer p c a u ∧ OnlyPorts u t ∧ Answered p a t

/-- The payload byte that names a channel (11.4). -/
def chanByte (c : Chan) : Byte := BitVec.ofNat 8 (chanNumber c)

/-- A request-borne command that only reads: its answer is OK with the payload given. -/
def readPayload (c : Instr) (s : State) : Option (List Byte) :=
  match c with
  | .getTime _ => some (timeAnswer s)
  | .getChannel _ ch => (chanOfByte ch).map fun c => channelAnswer c s
  | .getStage _ => some (stageAnswer s)
  | .getRating _ => some (ratingAnswer s)
  | .getRecordStatus _ => some (recordStatusAnswer s.record)
  | .getRule _ rule => s.warning.rules[rule.toNat]?.map ruleAnswer
  | .getWarning _ => some (warningAnswer s)
  | .getFaults _ => some (faultsAnswer s.faults)
  | .getCableway _ => some (cablewayAnswer s)
  | .getRun _ page => if page.toNat < 40 ∨ page = 0xFF then some (runAnswer page s) else none
  | _ => none

/-- The drive of direction `dir` has begun for the operation `k` at the moment `s`: the operation is in
flight with its drive energised, the axis is driven, and the stall watch runs from now (R121, R135). -/
def Drives (s u : State) (k : OpKind) (dir : Direction) (fast : Bool) : Prop :=
  (∃ x, u = s.withCableway x)
  ∧ u.cableway.op = some { kind := k, phase := .driving }
  ∧ u.cableway.drive = some { dir := dir, fast := fast, since := s.time.elapsed }
  ∧ u.cableway.axis dir.axis = .driven
  ∧ u.cableway.placement = none
  ∧ u.cableway.traverseCount = s.cableway.traverseCount
  ∧ u.cableway.reelCount = s.cableway.reelCount

/-- The operation in flight has ended with an outcome (R126): its record is written, nothing drives, and the
cableway port has its OP_DONE event. -/
def OpEnded (s t : State) (k : OpKind) (o : OpOutcome) (r : OpResults) : Prop :=
  t.cableway.op = none ∧ t.cableway.drive = none
  ∧ t.cableway.lastOp
    = some { name := k.name, outcome := o, time := s.time.station, results := r }
  ∧ t.ports.cableway.events.opDone = true

/-- The part of the state that no hand-on touches but a stage update: time, the sensors, the station stage,
the rating, the display's latch, the acquisition in flight, every configuration, the levels at the pins and
through the filters, the run number, the port states and the queue. Everything else stands at its reset value, so that
`t.kept = s.kept` says that this part of `t` is that of `s`. -/
def State.kept (s : State) : State :=
  { State.reset with
    time := s.time, encoder := s.encoder, ranging := s.ranging, stage := s.stage, rating := s.rating
    latch := s.latch
    resetOrder := s.resetOrder, held := s.held, orders := s.orders, pending := s.pending
    schedule :=
      { State.reset.schedule with
        acq := s.schedule.acq, normal := s.schedule.normal, fast := s.schedule.fast
        fastLevel := s.schedule.fastLevel }
    chans := s.chans.map fun _ x => { Channel.cold 0 with config := x.config }
    run := { number := s.run.number, body := none }
    cableway :=
      { Cableway.reset s.cableway.config s.cableway.pins with
        surface := s.cableway.surface, bottom := s.cableway.bottom, meter := s.cableway.meter
        loadTrip := s.cableway.loadTrip }
    permit := { s.permit with record := State.reset.permit.record }
    warning :=
      { State.reset.warning with
        floor := s.warning.floor, sirenLevel := s.warning.sirenLevel, holdMin := s.warning.holdMin
        sirenRun := s.warning.sirenRun }
    faults := { FaultUnit.atReset with thresholds := s.faults.thresholds }
    ports := s.ports.map fun _ u => { u with events := .none, permitCopy := none } }

/-! ### Invariants of the warning, the fault word and the shift -/

/-- Bits 21 to 31 of the fault word read 0 at all times (R174). -/
def FaultWordReserved (s : State) : Prop := s.faults.word &&& 0xFFE00000#32 = 0

/-- The magnitude of the shift in effect never exceeds the shift limit (R62). -/
def ShiftWithinLimit (s : State) : Prop :=
  -(s.rating.shiftLimit : Int) ≤ s.rating.shift ∧ s.rating.shift ≤ s.rating.shiftLimit

/-- The 16 rules (6.2), and the warning level against what holds it up and what it holds up: the target is
that of the floor and the counting rules and never above L (R101), the hold timer runs exactly while the
target is below L (R103, R104), the siren sounds only while L is at or above a siren level other than 0
(R109), and the beacon is off exactly at level 0 (R113). -/
structure WarningSound (w : Warning) : Prop where
  rules  : w.rules.length = 16
  target : w.target = w.formTarget
  upheld : w.target ≤ w.level
  hold   : w.hold.isSome ↔ w.target < w.level
  siren  : w.siren.isSome → w.sirenLevel ≠ 0 ∧ w.sirenLevel ≤ w.level
  beacon : w.beacon = none ↔ w.level = 0

/-! ### Numbers and bytes -/

/-- `q` is `n ÷ d` rounded half up, for `d > 0` (00_scope.md "Arithmetic and rounding"). -/
def HalfUp (n d q : Int) : Prop := 2 * d * q ≤ 2 * n + d ∧ 2 * n + d < 2 * d * (q + 1)

/-- `q` is `n ÷ d` to the nearest integer, an exact half going away from zero, for `d > 0`. -/
def HalfAway (n d q : Int) : Prop :=
  2 * |n - q * d| ≤ d ∧ (2 * |n - q * d| = d → |n| < |q * d|)

/-- The number in `width` bytes from byte `offset` on, most significant byte first (R183). -/
def fieldAt (bytes : List Byte) (offset width : Nat) : Nat :=
  ((bytes.drop offset).take width).foldl (fun v b => 256 * v + b.toNat) 0

/-- A field of a payload layout (11.4): its first byte, its width, whether it is signed, its content. -/
structure Field where
  offset : Nat
  width  : Nat
  signed : Bool
  value  : Int

/-- An unsigned field. -/
def unsignedField (offset width : Nat) (value : Int) : Field :=
  { offset := offset, width := width, signed := false, value := value }

/-- A signed field. -/
def signedField (offset width : Nat) (value : Int) : Field :=
  { offset := offset, width := width, signed := true, value := value }

/-- Whether a field's content fits its width; what is sent of one that does not is log entry 7. -/
def Field.Fits (f : Field) : Prop :=
  if f.signed then -(256 : Int) ^ f.width ≤ 2 * f.value ∧ 2 * f.value < (256 : Int) ^ f.width
  else 0 ≤ f.value ∧ f.value < (256 : Int) ^ f.width

/-- A payload of `length` bytes carries each field that fits, a signed one in two's complement (R183). -/
def Laid (bytes : List Byte) (length : Nat) (fields : List Field) : Prop :=
  bytes.length = length
  ∧ ∀ f ∈ fields, f.Fits →
      (fieldAt bytes f.offset f.width : Int) = f.value % (256 : Int) ^ f.width

/-- A mark's part in a byte: its weight when set, else 0. -/
def weigh (mark : Bool) (weight : Int) : Int := if mark then weight else 0

/-- The five display codes of a content, sign position first (R114, R115): blanks are 15, a minus is 10, a
dash is 11, and the units digit is always shown. -/
def Shows (content : DisplayContent) (codes : List Nat) : Prop :=
  match content with
  | .dashes => codes = [15, 11, 11, 11, 11]
  | .cm v =>
    codes = [if v < 0 then 10 else 15,
      if v.natAbs < 1000 then 15 else v.natAbs / 1000 % 10,
      if v.natAbs < 100 then 15 else v.natAbs / 100 % 10,
      if v.natAbs < 10 then 15 else v.natAbs / 10 % 10,
      v.natAbs % 10]

/-- The content has been sent to the latch once more, in one transfer of 20 bits, the most significant bit of
each code first (R115). The count of transfers is the model's own (log entry 35). -/
def Sent (content : DisplayContent) (before after : DisplayLatch) : Prop :=
  after.transfers = before.transfers + 1
  ∧ ∃ codes, Shows content codes
    ∧ after.bits = codes.flatMap fun n =>
        [decide (8 ≤ n), decide (4 ≤ n % 8), decide (2 ≤ n % 4), decide (n % 2 = 1)]

/-! ### Resets -/

/-- The cableway unit right after a reset (R140), its filters taken from the levels at the pins. -/
def CablewayRestarted (config : CableConfig) (pins : Pins) (c : Cableway) : Prop :=
  c = { config := config, traverseCount := 0, reelCount := 0, referenced := false, pins := pins
        surface := { passed := pins.surface, candidate := none }
        bottom := { passed := pins.bottom, candidate := none }
        meter := { passed := pins.meter, candidate := none }
        loadTrip := { passed := pins.loadTrip, candidate := none }
        drive := none, traverseAxis := .settled 0, reelAxis := .settled 0, op := none
        retract := none, lastSurface := none, placement := none, lastOp := none }

/-- The station stage record right after a reset (R52). -/
def emptyStage (generation : Byte) : StageRecord :=
  { value := none, quality := .none, substituted := false, disagree := false, clamped := false
    source := none, sampleTime := none, rate := 0, rateValid := false, discharge := 0
    dischargeQuality := .none, generation := generation }

/-- A channel right after a station reset (R37): its configuration is retained, it is DISABLED or FAILED as it
was, and any other one goes into service by its power mode, with its full warm-up from the reading 0. -/
def ChannelRestarted (x y : Channel) : Prop :=
  let wait := [0, 100, 500, 2000, 5000, 10000].getD x.config.warmUp 0
  let inService := x.state ≠ .disabled ∧ x.state ≠ .failed
  y.config = x.config ∧ y.burst = none ∧ y.lastSample = none ∧ y.lastRaw = none
  ∧ y.missing = (if x.state = .failed then x.config.f else 0)
  ∧ (¬inService → y.state = x.state ∧ y.warmUntil = none)
  ∧ (inService → x.config.mode = .switched → y.state = .sleeping ∧ y.warmUntil = none)
  ∧ (inService → x.config.mode = .continuous →
      (wait = 0 → y.state = .on ∧ y.warmUntil = none)
      ∧ (wait ≠ 0 → y.state = .warming ∧ y.warmUntil = some (BitVec.ofNat 32 wait)))

/-- No enabled rule watches the fault word, and the level is sound: a change of the word then moves
nothing. -/
structure Unwatched (w : Warning) : Prop where
  sound : WarningSound w
  rules : ∀ r ∈ w.rules, r.quantity = .faults → r.enabled = false

/-- The record has room for `n` more appends without a discard step and without renumbering. -/
def Record.HasRoom (r : Record) (n : Nat) : Prop := r.held + n ≤ r.capacity ∧ r.next + n < 4294967296

/-- Slot `n` of the record has been written whole, with nothing else changed: a flipped bit is gone, a hard
cell stays hard (R74, R81, R84; the conditions are log entries 4 and 24). -/
def Record.Rewritten (r : Record) (n : Nat) (content : Slot) (x : Record) : Prop :=
  x = { r with slots := x.slots, cells := x.cells }
  ∧ x.slot n = content ∧ (∀ m, m ≠ n → x.slot m = r.slot m)
  ∧ x.cell n = (if r.cell n = .hard then .hard else .clean) ∧ (∀ m, m ≠ n → x.cell m = r.cell m)

/-- Whether slot `n` carries the sequence `q`, in an entry or a placeholder (R77). -/
def Record.Carries (r : Record) (n q : Nat) : Prop :=
  r.slot n = .placeholder q ∨ ∃ e, r.slot n = .entry q e

/-- What a restart after a station reset leaves (R14, R37, R52, R53, R67, R89, R118, R119, R140, R160, R173,
R182, R194), from the state `s` before it. The fields up to `pending` hold whatever the fault round made at
it does; `unraised` says the rest where no enabled rule watches the fault word. -/
structure Restarted (src : ResetSource) (s t : State) : Prop where
  station    : t.time.station = s.time.station
  elapsed    : t.time.elapsed = 0
  held       : t.held = none
  order      : t.resetOrder = none
  intervals  : t.schedule.normal = s.schedule.normal ∧ t.schedule.fast = s.schedule.fast
    ∧ t.schedule.fastLevel = s.schedule.fastLevel
  acq        : t.schedule.acq = none ∧ ∀ c, t.schedule.preWarm.get c = false
  nextDue    : t.schedule.nextDue = nextMultiple t.schedule.interval s.time.station
  channels   : ∀ c, ChannelRestarted (chan c s) (chan c t)
  encoder    : t.encoder = { s.encoder with stepRef := none }
  stage      : t.stage
    = { s.stage with
        record := emptyStage s.rating.generation, earlier := none, heldSince := none
        disagreeCount := 0, lastDiff := none, ring := [] }
  rating     : t.rating = { s.rating with lastEffective := none }
  warningConfig : t.warning.sirenLevel = s.warning.sirenLevel ∧ t.warning.holdMin = s.warning.holdMin
    ∧ t.warning.sirenRun = s.warning.sirenRun ∧ t.warning.floor = 0
  ruleRecords : t.warning.rules.map (fun r => { r with state := .inactive, count := 0, last := none })
    = s.warning.rules.map (fun r => { r with state := .inactive, count := 0, last := none })
  display    : t.warning.display = .dashes ∧ Sent .dashes s.latch t.latch
  cableway   : CablewayRestarted s.cableway.config s.cableway.pins t.cableway
  working    : t.working = { sounding := none, observations := [] }
  run        : t.run = match s.run.openBody with
    | none => s.run
    | some b =>
      { s.run with
        body := some
          { b with
            closing := some
              { time := s.time.station, outcome := .abandonedReset, results := none
                status := .notComputed, shift := 0, clamped := false
                generation := s.rating.generation } } }
  permit     : t.permit
    = { s.permit with
        record :=
          { state := if s.cableway.pins.loadTrip then .halted else .closed, cause := .restart
            time := s.time.station } }
  thresholds : t.faults.thresholds = { logger := .all, cableway := .severe, warning := .degraded }
  restartBit : bitSet t.faults.word .restart = true
  ports      : ∀ p, (t.ports.get p).phase = .idle ∧ (t.ports.get p).overrun = false
    ∧ (t.ports.get p).abandoned = [] ∧ (t.ports.get p).permitCopy = none
    ∧ (t.ports.get p).mask = EventSet.all
  pending    : t.pending = s.pending
  unraised   : (∀ r ∈ s.warning.rules, r.quantity = .faults → r.enabled = false) →
    s.record.HasRoom 2 →
    t.schedule.mode = .normal ∧ t.warning.level = 0 ∧ t.warning.target = 0 ∧ t.warning.hold = none
    ∧ t.warning.siren = none ∧ t.warning.beacon = none
    ∧ (∀ r ∈ t.warning.rules, r.state = .inactive ∧ r.count = 0 ∧ r.last = none)
    ∧ t.faults.word = 0x00100000#32
    ∧ t.faults.detail
      = some { fault := .restart, time := s.time.station, arg := .reset (.station src) }
    ∧ (let r1 := s.record.placeOrRenumber (.restart s.time.station (.station src)) s.time.station
       t.record = match s.run.openBody with
        | none => r1
        | some b =>
          r1.placeOrRenumber
            (.run
              { number := s.run.number, openTime := b.openTime, closeTime := s.time.station
                outcome := .abandonedReset, meanStage := none, discharge := none
                status := .notComputed, shift := 0 })
            s.time.station)
    ∧ t.ports.logger.events
      = { EventSet.none with
          fault := true, record := decide (t.record.loggerCursor < t.record.next) }
    ∧ t.ports.cableway.events = EventSet.none
    ∧ t.ports.warning.events
      = { EventSet.none with record := decide (t.record.warningCursor < t.record.next) }

/-! ### Acquisitions -/

/-- Whether a channel is in service: neither DISABLED nor FAILED (R11). -/
def InService (x : Channel) : Prop := x.state ≠ .disabled ∧ x.state ≠ .failed

/-- An acquisition of this sample time and cause has started in the state `s`, with the channels in service
as its participants (R11): they leave the pre-warm set, a sleeping one is sent to WARMING, one that is ON
begins its first pass, and the RANGING channel's slot sends a request (R19). -/
def AcquisitionStarted (sampleTime : U32) (cause : Cause) (s t : State) : Prop :=
  let now := s.time.elapsed
  let woken : Channel → Channel := fun x =>
    let wait := [0, 100, 500, 2000, 5000, 10000].getD x.config.warmUp 0
    if x.state = .sleeping then
      (if wait = 0 then { x with state := .on, warmUntil := none }
       else { x with state := .warming, warmUntil := some (now + BitVec.ofNat 32 wait) })
    else x
  let begun : Channel → Channel := fun x =>
    if x.state = .on then
      { x with burst := some { pass := .first, readings := [], slotEnds := now + 100#32 } }
    else x
  (∃ a, t.schedule.acq = some a ∧ a.sampleTime = sampleTime ∧ a.cause = cause
    ∧ ∀ c, (a.participants.get c = true ↔ InService (chan c s)) ∧ a.still.get c = a.participants.get c
      ∧ a.handed.get c = none)
  ∧ (∃ preWarm, t.schedule = { s.schedule with acq := t.schedule.acq, preWarm := preWarm }
    ∧ ∀ c, (InService (chan c s) → preWarm.get c = false)
      ∧ (¬InService (chan c s) → preWarm.get c = s.schedule.preWarm.get c))
  ∧ (∀ c, (InService (chan c s) → chan c t = begun (woken (chan c s)))
    ∧ (¬InService (chan c s) → chan c t = chan c s))
  ∧ (InService (chan .ch3 s) → (woken (chan .ch3 s)).state = .on →
      t.ranging = { requests := s.ranging.requests + 1, reply := none })
  ∧ (¬(InService (chan .ch3 s) ∧ (woken (chan .ch3 s)).state = .on) → t.ranging = s.ranging)
  ∧ ∃ x y z, t = ((s.withSchedule x).withChans y).withRanging z

/-- The acquisition that starts without a channel in service (R12). -/
def emptyAcquisition (sampleTime : U32) (cause : Cause) : Acquisition :=
  { sampleTime := sampleTime, cause := cause, participants := .all false, still := .all false
    handed := .all none }

/-! ### Stage updates -/

/-- A fault that a stage update reports (R36, R48, R61, R138): `u` is the stage unit as formed. -/
def Reported (u : StageUnit) (above : Bool) (s : State) (f : StationFault) : Prop :=
  (∃ c, f = .channelFailed c ∧ (chan c s).state = .failed)
  ∨ (f = .stageHeld ∧ u.record.quality = .held)
  ∨ (f = .disagree ∧ u.k ≤ u.disagreeCount)
  ∨ (f = .stageClamped ∧ u.record.clamped = true)
  ∨ (f = .aboveRating ∧ above = true)
  ∨ (f = .cableLoadTrip ∧ s.cableway.loadTrip.passed = true)

/-- One evaluation of an enabled rule with its quantity and its skipped cases written out (R94, R95), on the
stage unit `u` and the fault word `word`. -/
def evaluatedOnce (u : StageUnit) (word : U32) (now : U32) (r : Rule) : Rule :=
  let x := u.record
  let isRead := x.quality = .good ∨ x.quality = .suspect
  match r.quantity with
  | .stage => r.evaluate (x.value.map (BitVec.ofInt 32)) (decide (¬isRead ∨ x.value = none)) now
  | .rate => r.evaluate (some (BitVec.ofInt 32 x.rate)) (decide (¬isRead ∨ x.rateValid = false)) now
  | .discharge =>
    r.evaluate (some (BitVec.ofNat 32 x.discharge))
      (decide (¬isRead ∨ x.dischargeQuality = .noRating)) now
  | .diff => r.evaluate (u.lastDiff.map (BitVec.ofInt 32)) (decide (u.lastDiff = none)) now
  | .quality =>
    r.evaluate
      (some (match x.quality with
        | .none => 0
        | .good => 1
        | .suspect => 2
        | .held => 3)) false now
  | .faults => r.evaluate (some word) false now

/-- What the completion of acquisition `a` makes of the state `s`, in which no acquisition is in flight any
longer (R12, R40): the station stage with its rate, its discharge and the generation (R60), its batch of
reports (R48), the display (R114, R115), the SAMPLE events (R192), a permit that stays OPEN only where no
stand-down condition holds (R166), and, while the permit is not OPEN and the record has room, the rounds (R93
to R95), the WARNING entries of the rounds, and after them the SAMPLE entry (R71, R73). Where no round sees a
changed word, the level with its hold timer, its entry, the siren and the beacon follow from the rules (R101 to
R104, R109, R112, R113). That the SAMPLE entry comes after every round of the update is the model's choice (log
entry 44), and so is the threshold that a skipped evaluation shows (log entry 40). -/
def StageUpdated (a : Acquisition) (s t : State) : Prop :=
  let u := formStage a s.stage
  let d := computeDischarge s.rating u.record.value u.record.quality
  let x : StageRecord :=
    { u.record with
      discharge := d.discharge, dischargeQuality := d.quality, generation := s.rating.generation }
  let formed : StageUnit := { u with record := x }
  let w := s.warning
  let now := s.time.station
  let reported := Reported formed d.above s
  let unchanged := ∀ f, reported f → bitSet s.faults.word f = true
  let once := fun word r => if r.enabled then evaluatedOnce formed word now r else r
  let fault := fun r =>
    if r.enabled ∧ r.quantity = .faults then evaluatedOnce formed t.faults.word now r else r
  let rules := t.warning.rules
  let counts : Rule → Prop := fun r => r.state = .active ∨ r.state = .clearing
  let target := max w.floor (countingLevel rules)
  let falls := target < w.level ∧ w.hold = none ∧ w.holdMin = 0
  let warned : Record → Nat → Nat → WarningCause → Record := fun r old new cause =>
    r.placeOrRenumber (.warning now old new cause) now
  let beacon : Option BeaconPhase :=
    if target = 0 then none
    else some
      { on := true
        until_ := s.time.elapsed
          + (if target = 1 ∨ target = 2 ∨ target = 3 then 100#32 else 500#32) }
  let sample : Entry := .sample
    { time := a.sampleTime, stage := x.value, quality := x.quality, substituted := x.substituted
      disagree := x.disagree, clamped := x.clamped, source := x.source, rate := x.rate
      rateValid := x.rateValid, discharge := x.discharge, dischargeQuality := x.dischargeQuality
      level := t.warning.level, cause := a.cause, generation := x.generation }
  t.stage = formed
  ∧ t.rating
    = { s.rating with
        lastEffective := match d.effective with
          | some h => some h
          | none => s.rating.lastEffective }
  ∧ t.kept = (((s.withStage formed).withRating t.rating).withLatch t.latch).kept
  ∧ (∀ v, x.value = some v → x.quality = .good ∨ x.quality = .suspect →
      ∃ q, t.warning.display = .cm q ∧ HalfAway v 10 q)
  ∧ (x.quality = .none ∨ x.quality = .held → t.warning.display = .dashes)
  ∧ Sent t.warning.display s.latch t.latch
  ∧ (∀ p, (t.ports.get p).events.sample = true)
  ∧ (∀ f, reported f → bitSet t.faults.word f = true)
  ∧ (s.permit.record.state ≠ .open_ → t.permit = s.permit)
  ∧ (t.permit.record.state = .open_ →
      (s.permit.level ≠ 0 → t.warning.level < s.permit.level)
      ∧ (s.permit.rate ≠ 0 → x.rateValid = true → x.rate < s.permit.rate)
      ∧ (∀ l v, s.permit.stage = some l → x.value = some v → x.quality = .good ∨ x.quality = .suspect →
          v < l))
  ∧ (s.permit.record.state ≠ .open_ → s.record.HasRoom 3 →
      (∀ f, bitSet t.faults.word f = true ↔ bitSet s.faults.word f = true ∨ reported f)
      ∧ (unchanged → rules = w.rules.map (once s.faults.word))
      ∧ (¬unchanged → s.orders.faultRoundFirst = true →
          rules = w.rules.map fun r => once t.faults.word (fault r))
      ∧ (¬unchanged → s.orders.faultRoundFirst = false →
          rules = w.rules.map fun r => fault (once s.faults.word r))
      ∧ (∃ r : Record, t.record = r.placeOrRenumber sample now
          ∧ ((r = s.record ∧ t.warning.level = w.level)
            ∨ (∃ cause, r = warned s.record w.level t.warning.level cause)
            ∨ ∃ l cause cause', r = warned (warned s.record w.level l cause) l t.warning.level cause'))
      ∧ (unchanged ∨ Unwatched w → WarningSound w →
          t.warning.target = target
          ∧ (target ≤ w.level → ¬falls →
              t.warning.level = w.level ∧ t.record = s.record.placeOrRenumber sample now
              ∧ t.warning.hold
                = (if target < w.level then
                    some (w.hold.getD (s.time.elapsed + BitVec.ofNat 32 (w.holdMin * 60000)))
                  else none)
              ∧ t.warning.siren = w.siren ∧ t.warning.beacon = w.beacon)
          ∧ (falls →
              t.warning.level = target ∧ t.warning.hold = none ∧ t.warning.beacon = beacon
              ∧ (∀ p, (t.ports.get p).events.level = true)
              ∧ t.warning.siren = (if target < w.sirenLevel then none else w.siren)
              ∧ (w.siren ≠ none → target < w.sirenLevel → t.ports.warning.events.siren = true)
              ∧ t.record = (warned s.record w.level target .holdExpiry).placeOrRenumber sample now)
          ∧ (w.level < target →
              t.warning.level = target ∧ t.warning.hold = none ∧ t.warning.beacon = beacon
              ∧ (∀ p, (t.ports.get p).events.level = true)
              ∧ (w.sirenLevel ≠ 0 → w.sirenLevel ≤ target →
                  t.warning.siren = some (s.time.elapsed + BitVec.ofNat 32 (w.sirenRun * 60000))
                  ∧ (w.siren = none → t.ports.warning.events.siren = true))
              ∧ (w.sirenLevel = 0 ∨ target < w.sirenLevel → t.warning.siren = w.siren)
              ∧ ∃ n r, rules[n]? = some r ∧ counts r ∧ r.level = target
                ∧ (∀ m r', m < n → rules[m]? = some r' → counts r' → r'.level ≠ target)
                ∧ t.record
                  = (warned s.record w.level target (.rule n)).placeOrRenumber sample now)))

/-! ### Invariants -/

/-- While the filtered load-trip input is asserted, only the reel-up drive may be energised, and only at
SLOW (R138). -/
def LoadTripDrives (s : State) : Prop :=
  s.cableway.loadTrip.passed = true →
    ∀ d, s.cableway.drive = some d → d.dir = .reelUp ∧ d.fast = false

/-- The permit is OPEN exactly while the run record is OPEN (R165), but for the time the part is held in
reset, in which the run record waits for its close at the restart (R160). -/
def PermitMeetsRun (s : State) : Prop :=
  s.held = none → (s.permit.record.state = .open_ ↔ s.run.isOpen = true)

/-- The record memory is in its canonical form and the map-out table holds at most 16 slots (R69). -/
def RecordSound (s : State) : Prop := s.record.wf = true ∧ s.record.mapOut.length ≤ 16

/-- The RECORD event of a reader's port stands in its set exactly while its cursor is below the next
sequence (R78, R192), but for the time the part is held in reset. -/
def RecordEventsStand (s : State) : Prop :=
  s.held = none →
    ((s.ports.logger.events.record = true ↔ s.record.loggerCursor < s.record.next)
      ∧ (s.ports.warning.events.record = true ↔ s.record.warningCursor < s.record.next))

/-- A selected primary channel is never DISABLED and never in SWITCHED power mode (R33); the check is
never the primary and never DISABLED (R34). -/
def SelectionsSound (s : State) : Prop :=
  (∀ c, s.stage.primary = some c →
    (chan c s).state ≠ .disabled ∧ (chan c s).config.mode = .continuous)
  ∧ (∀ c, s.stage.check = some c → s.stage.primary ≠ some c ∧ (chan c s).state ≠ .disabled)

/-- The pre-warm set holds only channels that are WARMING or ON (R10). -/
def PreWarmSound (s : State) : Prop :=
  ∀ c, s.schedule.preWarm.get c = true → (chan c s).state = .warming ∨ (chan c s).state = .on

/-- A predicate that every step keeps: what a safe run rests on. -/
def KeptByStep (I : State → Prop) : Prop := ∀ s t, I s → step s = .next t → I t

end Sys2Proof.Machine
end

