-- ==== Sys2Proof/Certificates/Slice0/Obligations.lean ====
section
/-! DEFINITION. The statements about the part, for the provers: the ports, the time base, the channels, the
rating, the record, the warning, the faults, the cableway, the runs and the permit, and the invariants.
The answer of a command is read where the model keeps it (`Gives`, log entry 2). -/

open Sys2Proof Sys2Proof.Machine

/-! ### The queue -/

/-- A step takes the command at the front of the queue and runs it with the queue's rest. -/
def Obligations.StepTakesFront : Prop :=
  ∀ (c : Instr) (rest : List Instr) (s : State),
    s.pending = c :: rest → step s = exec c (s.withPending rest)

/-- On an empty queue a millisecond passes on the elapsed-time counter and nothing else happens; while the
part is held in reset the counter stands (the model's choice, log entry 11). -/
def Obligations.IdleStepCounts : Prop :=
  ∀ s : State, s.pending = [] →
    (s.held = none →
      step s = .next (s.withTime { s.time with elapsed := s.time.elapsed + 1 }))
    ∧ (s.held ≠ none → step s = .next s)

/-! ### Frames and transactions (chapter 11) -/

/-- The request frame of a well-formed command, read by the command table, is that command. READ_RECORDS
comes back without its operand that is not on the wire (log entry 2). -/
def Obligations.RequestRoundTrip : Prop :=
  ∀ (p : Port) (c : Instr) (code : Byte) (payload : List Byte),
    c.wellFormed = true → c.port? = some p → encodeRequest c = some (code, payload) →
      decodeRequest p code payload = some c.asked

/-- The request frame of a well-formed command that its port may give, ending in IDLE, is taken: the
overrun mark is cleared and the port is BUSY with that command (R184, R190). No other port changes. -/
def Obligations.FrameTaken : Prop :=
  ∀ (p : Port) (c : Instr) (code : Byte) (payload : List Byte) (s : State),
    c.wellFormed = true → c.port? = some p → encodeRequest c = some (code, payload) →
    codeAllows code p = true → s.held = none → (s.ports.get p).phase = .idle →
      ∃ t, exec (.requestFrame p (requestFrameBytes code payload)) s = .next t
        ∧ OnlyPorts s t
        ∧ t.ports.get p
          = { s.ports.get p with
              phase := .busy { command := some c.asked, answer := none }, overrun := false
              shiftedOut := List.replicate (requestFrameBytes code payload).length 0 }
        ∧ ∀ q, q ≠ p → t.ports.get q = s.ports.get q

/-- A request frame that ends in IDLE and fails a check halts the port with the first failing check's
reason, LENGTH, CHECK or UNKNOWN, and is discarded (R184). One that ends in BUSY or READY is discarded
without being checked and sets the overrun mark; one that ends in HALTED is discarded and leaves the mark
(R186). -/
def Obligations.FrameRefused : Prop :=
  (∀ (p : Port) (bytes : List Byte) (h : HaltReason) (s : State),
      s.held = none → (s.ports.get p).phase = .idle → startsRequest bytes = true →
      (let badLength := bytes.length < 3 ∨ 200 < (bytes.getD 1 0).toNat
          ∨ bytes.length ≠ (bytes.getD 1 0).toNat + 3
       let badSum := bytes.foldl (· + ·) 0 ≠ 0
       (h = .length ∧ badLength) ∨ (h = .check ∧ ¬badLength ∧ badSum)
         ∨ (h = .unknown ∧ ¬badLength ∧ ¬badSum ∧ codePorts (bytes.headD 0) = none)) →
        ∃ t, exec (.requestFrame p bytes) s = .next t
          ∧ OnlyPorts s t
          ∧ t.ports.get p
            = { s.ports.get p with
                phase := .halted h, shiftedOut := List.replicate bytes.length 0 }
          ∧ ∀ q, q ≠ p → t.ports.get q = s.ports.get q)
  ∧ (∀ (p : Port) (bytes : List Byte) (s : State),
        s.held = none → (s.ports.get p).phase ≠ .idle → startsRequest bytes = true →
          ∃ t, exec (.requestFrame p bytes) s = .next t
            ∧ OnlyPorts s t
            ∧ t.ports.get p
              = { s.ports.get p with
                  overrun := match (s.ports.get p).phase with
                    | .halted _ => (s.ports.get p).overrun
                    | _ => true
                  shiftedOut := List.replicate bytes.length 0 }
            ∧ ∀ q, q ≠ p → t.ports.get q = s.ports.get q)

/-- A command given on a port that its column does not name is answered DENIED and changes nothing; a
taken frame of a known code whose column does not name the port waits with the answer DENIED, and one whose
payload's length does not fit its command's form waits with the answer RANGE, and no block is reached
(R190). -/
def Obligations.JudgedAtThePort : Prop :=
  (∀ (p : Port) (c : Instr) (s : State),
      c.port? = some p → s.held = none → permitted p c = false → Gives p c s s (plain .denied))
  ∧ (∀ (p : Port) (code : Byte) (payload : List Byte) (s : State),
        s.held = none → (s.ports.get p).phase = .idle → payload.length ≤ 200 →
        (let waits : Status → Prop := fun st =>
          ∃ t, exec (.requestFrame p (requestFrameBytes code payload)) s = .next t
            ∧ OnlyPorts s t
            ∧ t.ports.get p
              = { s.ports.get p with
                  phase := .busy { command := none, answer := some (plain st) }, overrun := false
                  shiftedOut := List.replicate (requestFrameBytes code payload).length 0 }
            ∧ ∀ q, q ≠ p → t.ports.get q = s.ports.get q
         (codeAllows code p = true → decodeRequest p code payload = none → waits .range)
         ∧ (codePorts code ≠ none → codeAllows code p = false → waits .denied)))

/-- The answer of the command a port is BUSY with is placed in the response buffer and the port is READY;
the answer of an abandoned command is dropped with the command, and the port state stands (R185). One row is
one answer (log entry 2). -/
def Obligations.AnswerPlacedOrDropped : Prop :=
  ∀ (p : Port) (s : State), s.held = none →
    (∀ (c : Option Instr) (a : Answer),
      (s.ports.get p).phase = .busy { command := c, answer := some a } →
        exec (.commandAnswer p none) s
          = .next (onPort p (fun u => { u with phase := .ready { command := c, answer := a } }) s))
    ∧ (∀ (i : Nat) (b : InBlock),
      (s.ports.get p).abandoned[i]? = some b → b.answer.isSome = true →
        exec (.commandAnswer p (some i)) s
          = .next (onPort p (fun u => { u with abandoned := u.abandoned.eraseIdx i }) s))

/-- A FETCH begun in READY shifts out the response frame and empties the buffer into IDLE, however many
bytes the master clocked; one begun in another state shifts out status NONE and changes nothing (R187). The
FETCH that delivers the answer to STATION_RESET is `StationReset`. One row is one whole transaction (log
entry 15). -/
def Obligations.FetchDelivers : Prop :=
  ∀ (p : Port) (clocked : Nat) (s : State), s.held = none → 1 ≤ clocked → deliversReset p s = false →
    (∀ r : Response, (s.ports.get p).phase = .ready r →
      exec (.fetch p clocked) s
        = .next (onPort p (fun u =>
            { u with
              phase := .idle
              shiftedOut := ((0 :: responseFrame r.answer) ++ List.replicate clocked 0).take clocked })
            s))
    ∧ ((∀ r : Response, (s.ports.get p).phase ≠ .ready r) →
      exec (.fetch p clocked) s
        = .next (onPort p (fun u =>
            { u with shiftedOut := ([0, 0x0C, 0x00, 0xF4] ++ List.replicate clocked 0).take clocked })
            s))

/-- A CLEAR takes the port to IDLE, clears the overrun mark and, when the port was BUSY, abandons its
command (R188). The CLEAR that brings an ordered station reset is `StationReset`. One row is one whole
transaction (log entry 15). -/
def Obligations.ClearTaken : Prop :=
  ∀ (p : Port) (s : State), s.held = none → (p = .logger → s.resetOrder = none) →
    ∃ t, exec (.clear p) s = .next t ∧ OnlyPorts s t
      ∧ t.ports.get p
        = { s.ports.get p with
            phase := .idle, overrun := false, shiftedOut := [0]
            abandoned := match (s.ports.get p).phase with
              | .busy b => (s.ports.get p).abandoned ++ [b]
              | _ => (s.ports.get p).abandoned }
      ∧ ∀ q, q ≠ p → t.ports.get q = s.ports.get q

/-- A POLL changes nothing; its reply names the port state, the halt reason, the overrun mark, the set of
pending events and the event mask by their codes and bits, and its six bytes sum to 0 modulo 256 (R189). One
row is one whole transaction (log entry 15), and the 0x00 of the bytes clocked beyond the reply is the model's
choice (log entry 47). -/
def Obligations.PollTells : Prop :=
  ∀ (p : Port) (clocked : Nat) (s : State), s.held = none → 1 ≤ clocked →
    let u := s.ports.get p
    let state : Int := match u.phase with
      | .idle => 0
      | .busy _ => 1
      | .ready _ => 2
      | .halted _ => 3
    let reason : Int := match u.phase with
      | .halted .check => 1
      | .halted .length => 2
      | .halted .unknown => 3
      | _ => 0
    let bits : EventSet → Int := fun e =>
      weigh e.sample 1 + weigh e.level 2 + weigh e.fault 4 + weigh e.record 8 + weigh e.opDone 16
        + weigh e.permit 32 + weigh e.siren 64
    Laid (pollReply u) 6
      [unsignedField 0 1 state, unsignedField 1 1 reason, unsignedField 2 1 (weigh u.overrun 1),
        unsignedField 3 1 (bits u.events), unsignedField 4 1 (bits u.mask)]
    ∧ (pollReply u).foldl (· + ·) 0 = 0
    ∧ exec (.poll p clocked) s
      = .next (onPort p (fun u =>
          { u with
            shiftedOut := ((0 :: pollReply u) ++ List.replicate clocked 0).take clocked }) s)

/-- R193: a port's ATTN line is asserted while the port is READY and while its pending-event set holds an
event enabled in its mask, and is otherwise released. -/
def Obligations.AttentionLine : Prop :=
  ∀ (p : Port) (s : State),
    attn s p = true ↔
      (∃ r, (s.ports.get p).phase = .ready r)
      ∨ (let e := (s.ports.get p).events
         let m := (s.ports.get p).mask
         (e.sample = true ∧ m.sample = true) ∨ (e.level = true ∧ m.level = true)
         ∨ (e.fault = true ∧ m.fault = true) ∨ (e.record = true ∧ m.record = true)
         ∨ (e.opDone = true ∧ m.opDone = true) ∨ (e.permit = true ∧ m.permit = true)
         ∨ (e.siren = true ∧ m.siren = true))

/-! ### Reading commands -/

/-- Each command that only reads is answered OK with its payload and changes nothing but its port: GET_TIME,
GET_CHANNEL, GET_STAGE, GET_RATING, GET_RECORD_STATUS, GET_RULE, GET_WARNING, GET_FAULTS, GET_CABLEWAY and
GET_RUN (R3, R21, R39, R54, R88, R92, R117, R124, R143, R181). A channel, rule or page number outside its list
is refused RANGE. The payloads are laid out byte by byte as 11.4 gives them, each code by its table. What a
field carries that does not fit its width is log entry 7. The model's own readings of the layouts are an
operation's argument and step (log entry 17), the raw value and the masked quantity sent as 0 where they are
absent (log entry 20), MOVE's results of 0 (log entry 27), and in GET_RUN the fields that follow at once where no
results are sent (log entry 38). -/
def Obligations.ReadsAnswerAndChangeNothing : Prop :=
  (∀ (p : Port) (c : Instr) (s : State),
    c.port? = some p → Judged p c s →
      (∀ bytes, readPayload c s = some bytes → Gives p c s s (okWith bytes))
      ∧ (∀ n : Byte, (c = .getChannel p n ∧ 3 < n.toNat) ∨ (c = .getRule p n ∧ s.warning.rules.length ≤ n.toNat)
          ∨ (c = .getRun p n ∧ 40 ≤ n.toNat ∧ n ≠ 0xFF) →
        Gives p c s s (plain .range)))
  ∧ (([Mode.normal, .fast].map modeCode = [0, 1])
    ∧ [Cause.normal, .fast, .forced].map causeCode = [0, 1, 2]
    ∧ [PowerMode.continuous, .switched].map powerModeCode = [0, 1]
    ∧ [ChanState.disabled, .warming, .on, .sleeping, .failed].map chanStateCode = [0, 1, 2, 3, 4]
    ∧ allChans.map chanKindCode = [0, 0, 1, 2] ∧ allChans.map chanNumber = [0, 1, 2, 3]
    ∧ [Pass.first, .retry].map passCode = [1, 2]
    ∧ [ReadOutcome.valid, .readFailure, .outOfWindow].map readOutcomeCode = [1, 2, 3]
    ∧ [Quality.none, .good, .suspect, .held].map qualityCode = [0, 1, 2, 3]
    ∧ [DischargeQuality.none, .noRating, .zeroFlow, .rated, .aboveRating, .held].map dischargeQualityCode
      = [0, 1, 2, 3, 4, 5]
    ∧ [Quantity.stage, .rate, .discharge, .diff, .quality, .faults].map quantityCode = [0, 1, 2, 3, 4, 5]
    ∧ [Condition.eq, .ne, .gt, .ge, .lt, .le, .ugt, .uge, .ult, .ule].map conditionCode
      = [0, 1, 2, 3, 4, 5, 6, 7, 8, 9]
    ∧ [RuleState.inactive, .arming, .active, .clearing].map ruleStateCode = [0, 1, 2, 3]
    ∧ [EvalOutcome.skipped, .isTrue, .isFalse].map evalOutcomeCode = [1, 2, 3]
    ∧ [Threshold.quiet, .severe, .degraded, .all].map thresholdCode = [0, 1, 2, 3]
    ∧ [Severity.notice, .degraded, .severe].map severityCode = [0, 1, 2]
    ∧ [OpName.home, .move, .sound, .position, .observe, .reelFree].map opNameCode = [1, 2, 3, 4, 5, 6]
    ∧ [OpOutcome.done, .aborted, .stoodDown, .stall, .limit, .loadTrip, .noSurface, .noBottom].map
        opOutcomeCode = [0, 1, 2, 3, 4, 5, 6, 7]
    ∧ [RunOutcome.complete, .abandonedOperator, .abandonedFlood, .abandonedFault, .abandonedReset].map
        runOutcomeCode = [0, 1, 2, 3, 4]
    ∧ [ShiftStatus.available, .outOfRating, .noRating, .notComputed].map shiftStatusCode = [0, 1, 2, 3]
    ∧ [StackDirection.unset, .ascending, .descending].map stackDirectionCode = [0, 1, 2]
    ∧ [ItemKind.start, .vertical .none, .finish].map itemKindCode = [0, 1, 2]
    ∧ [AxisState.driven, .coasting 0, .settled 0].map axisStateCode = [0, 1, 2])
  ∧ (∀ s : State,
    let u := unsignedField
    let i := signedField
    let now := s.time.elapsed
    let left : Option U32 → Int := fun timer => timer.elim 0 fun ends =>
      if ahead ends now then (ends - now).toNat else 0
    -- GET_TIME
    (let x := s.schedule
     Laid (timeAnswer s) 25
      [u 0 4 s.time.station.toNat, u 4 4 now.toNat, u 8 1 (modeCode x.mode), u 9 2 x.normal, u 11 2 x.fast,
        u 13 1 x.fastLevel, u 14 4 x.nextDue.toNat, u 18 1 (weigh x.acq.isSome 1),
        u 19 4 (x.acq.elim 0 fun a => a.sampleTime.toNat), u 23 1 (x.acq.elim 0 fun a => causeCode a.cause),
        u 24 1 (x.acq.elim 0 fun a =>
          weigh a.still.c0 1 + weigh a.still.c1 2 + weigh a.still.c2 4 + weigh a.still.c3 8)])
    -- GET_CHANNEL
    ∧ (∀ c : Chan,
      let x := chan c s
      let g := x.config
      Laid (channelAnswer c s) 48
        [u 0 1 (chanKindCode c), u 1 1 (powerModeCode g.mode), u 2 1 g.warmUp, u 3 1 g.n, i 4 4 g.gain,
          i 8 2 g.offset, i 10 4 g.low, i 14 4 g.high, u 18 1 g.f, u 19 2 g.maxStep,
          u 21 1 (chanStateCode x.state),
          u 22 1 (if s.stage.primary = some c then 1 else if s.stage.check = some c then 2 else 0),
          u 23 2 (left x.warmUntil), u 25 1 (x.burst.elim 0 fun b => passCode b.pass),
          u 26 1 (x.burst.elim 0 fun b => b.readings.length), u 27 1 x.missing,
          u 28 1 (x.lastSample.elim 0 fun l => if l.value = none then 2 else 1),
          u 29 4 (x.lastSample.elim 0 fun l => l.time.toNat),
          i 33 4 (x.lastSample.elim 0 fun l => l.value.getD 0), u 37 1 (x.lastSample.elim 0 fun l => l.v),
          u 38 1 (x.lastSample.elim 0 fun l => weigh l.retried 1),
          u 39 1 (x.lastRaw.elim 0 fun r => readOutcomeCode r.outcome),
          i 40 4 (x.lastRaw.elim 0 fun r => r.raw.getD 0),
          i 44 4 (if c = .ch2 then s.encoder.count.toInt else 0)])
    -- GET_STAGE
    ∧ (let x := s.stage.record
       Laid (stageAnswer s) 34
        [i 0 2 (x.value.getD 0), u 2 1 (qualityCode x.quality),
          u 3 1 (weigh x.substituted 1 + weigh x.disagree 2 + weigh x.clamped 4),
          u 4 1 (x.source.elim 255 fun c => chanNumber c), u 5 1 (weigh x.sampleTime.isSome 1),
          u 6 4 (x.sampleTime.elim 0 fun t => t.toNat), u 10 4 (s.stage.heldSince.elim 0 fun t => t.toNat),
          i 14 2 x.rate, u 16 1 (weigh x.rateValid 1), u 17 4 x.discharge,
          u 21 1 (dischargeQualityCode x.dischargeQuality), u 22 1 s.warning.level,
          u 23 1 x.generation.toNat, u 24 2 s.stage.limit, u 26 1 s.stage.k, u 27 1 s.stage.w,
          u 28 1 s.stage.disagreeCount, u 29 1 (weigh s.stage.lastDiff.isSome 1),
          i 30 4 (s.stage.lastDiff.getD 0)])
    -- GET_RATING
    ∧ (let x := s.rating
       let k := x.table.elim 0 List.length
       let e := 1 + 6 * k
       Laid (ratingAnswer s) (e + 15)
        ([u 0 1 k, u e 1 x.generation.toNat, i (e + 1) 4 x.shift, u (e + 5) 2 x.shiftLimit,
          u (e + 7) 1 (weigh x.lastEffective.isSome 1), i (e + 8) 2 (x.lastEffective.getD 0),
          u (e + 10) 4 s.stage.record.discharge,
          u (e + 14) 1 (dischargeQualityCode s.stage.record.dischargeQuality)]
          ++ ((x.table.getD []).zipIdx.flatMap fun q =>
            [i (1 + 6 * q.2) 2 q.1.stage, u (3 + 6 * q.2) 4 q.1.discharge])))
    -- GET_RECORD_STATUS
    ∧ (let r := s.record
       Laid (recordStatusAnswer r) (21 + 7 * r.mapOut.length)
        ([u 0 4 r.oldest, u 4 4 r.next, u 8 4 r.loggerCursor, u 12 4 r.warningCursor,
          u 16 2 (4096 - r.mapOut.length : Nat), u 18 2 r.held, u 20 1 r.mapOut.length]
          ++ (r.mapOut.zipIdx.flatMap fun e =>
            [u (21 + 7 * e.2) 2 e.1.slot, u (23 + 7 * e.2) 1 (weigh e.1.lost.isSome 1),
              u (24 + 7 * e.2) 4 (e.1.lost.getD 0)])))
    -- GET_RULE
    ∧ (∀ r : Rule,
      Laid (ruleAnswer r) 29
        [u 0 1 (weigh r.enabled 1), u 1 1 (quantityCode r.quantity), u 2 4 r.mask.toNat, u 6 4 r.set.toNat,
          u 10 4 r.clear.toNat, u 14 1 (conditionCode r.condition), u 15 1 r.level, u 16 1 r.persistence,
          u 17 1 (ruleStateCode r.state), u 18 1 r.count,
          u 19 1 (r.last.elim 0 fun e => evalOutcomeCode e.outcome),
          u 20 1 (r.last.elim 0 fun e => weigh (!e.testedSet) 1),
          u 21 4 (r.last.elim 0 fun e => (e.masked.getD 0).toNat),
          u 25 4 (r.last.elim 0 fun e => e.time.toNat)])
    -- GET_WARNING
    ∧ (let w := s.warning
       ∃ codes, Shows w.display codes
        ∧ Laid (warningAnswer s) (22 + 4 * w.rules.length)
          ([u 0 1 w.level, u 1 1 w.target, u 2 1 w.floor, u 3 1 (weigh w.hold.isSome 1), u 4 4 (left w.hold),
            u 8 1 (weigh w.siren.isSome 1), u 9 4 (left w.siren), u 13 1 w.sirenLevel, u 14 2 w.holdMin,
            u 16 1 w.sirenRun]
            ++ (codes.zipIdx.map fun n => u (17 + n.2) 1 n.1)
            ++ (w.rules.zipIdx.flatMap fun r =>
              [u (22 + 4 * r.2) 1 (weigh r.1.enabled 1), u (23 + 4 * r.2) 1 r.1.level,
                u (24 + 4 * r.2) 1 (ruleStateCode r.1.state), u (25 + 4 * r.2) 1 r.1.count])))
    -- GET_FAULTS
    ∧ (let f := s.faults
       Laid (faultsAnswer f) 17
        [u 0 4 f.word.toNat, u 4 1 (f.detail.elim 255 fun d => faultBit d.fault),
          u 5 1 (f.detail.elim 0 fun d => severityCode (faultSeverity d.fault)),
          u 6 4 (f.detail.elim 0 fun d => d.time.toNat),
          (match f.detail.elim .none (·.arg) with
            | .none => u 10 4 0
            | .chan c => u 10 4 (chanNumber c)
            | .number n => u 10 4 n
            | .mm v => i 10 4 v
            | .time t => u 10 4 t.toNat
            | .axis .traverse => u 10 4 0
            | .axis .reel => u 10 4 1
            | .limit .home => u 10 4 0
            | .limit .far => u 10 4 1
            | .limit .top => u 10 4 2
            | .reset .cold => u 10 4 0
            | .reset (.station .pin) => u 10 4 256
            | .reset (.station .brownOut) => u 10 4 257
            | .reset (.station .command) => u 10 4 258
            | .reset .renumber => u 10 4 512),
          u 14 1 (thresholdCode f.thresholds.logger), u 15 1 (thresholdCode f.thresholds.cableway),
          u 16 1 (thresholdCode f.thresholds.warning)])
    -- GET_CABLEWAY
    ∧ (let c := s.cableway
       let g := c.config
       let p := c.pins
       let drives := fun dir => weigh (c.drive.elim false fun d => decide (d.dir = dir))
       Laid (cablewayAnswer s) 74
        ([u 0 1 (weigh c.referenced 1), i 1 4 (if c.referenced then c.x else 0),
          i 5 4 (if c.referenced then c.reel else 0), i 9 4 c.traverseCount.toInt, i 13 4 c.reelCount.toInt,
          u 17 1 (weigh c.surface.passed 1 + weigh c.bottom.passed 2 + weigh c.meter.passed 4
            + weigh c.loadTrip.passed 8 + weigh p.home 16 + weigh p.far 32 + weigh p.top 64),
          u 18 1 (drives .traverseOut 1 + drives .traverseIn 2 + drives .reelDown 4 + drives .reelUp 8
            + weigh (c.drive.elim false (·.fast)) 16),
          u 19 1 (axisStateCode c.traverseAxis), u 20 1 (axisStateCode c.reelAxis),
          u 21 1 (c.op.elim 0 fun o => opNameCode o.kind.name)]
          ++ (match c.op.map (·.kind) with
            | none => [i 22 4 0, u 26 1 0, u 27 1 0, u 28 2 0, u 30 2 0]
            | some (.home .reel _) => [i 22 4 0, u 26 1 1, u 27 1 0, u 28 2 0, u 30 2 0]
            | some (.home .traverse _) => [i 22 4 0, u 26 1 2, u 27 1 0, u 28 2 0, u 30 2 0]
            | some (.move target) => [i 22 4 target, u 26 1 1, u 27 1 0, u 28 2 0, u 30 2 0]
            | some (.sound _ _) => [i 22 4 0, u 26 1 1, u 27 1 0, u 28 2 0, u 30 2 0]
            | some (.position x) => [i 22 4 x.fraction, u 26 1 1, u 27 1 0, u 28 2 0, u 30 2 0]
            | some .carry => [i 22 4 255, u 26 1 1, u 27 1 0, u 28 2 0, u 30 2 0]
            | some (.observe o) =>
              [i 22 4 o.period, u 26 1 1,
                u 27 1 (match o.phase with
                  | .dwell _ => 0
                  | .count _ => 1), u 28 2 o.pulses, u 30 2 0]
            | some (.reelFree ends) => [i 22 4 0, u 26 1 1, u 27 1 0, u 28 2 0, u 30 2 (left (some ends))])
          ++ [u 32 1 (match c.retract.map Retract.step with
              | none => 0
              | some .reel => 1
              | some .traverse => 2),
            u 33 1 (weigh c.lastSurface.isSome 1), u 34 2 (c.lastSurface.getD 0),
            u 36 1 (weigh c.placement.isSome 1), u 37 1 (c.placement.elim 0 fun x => x.fraction),
            u 38 2 (c.placement.elim 0 fun x => x.depth), u 40 1 (c.placement.elim 0 fun x => weigh x.low 1),
            u 41 1 (c.lastOp.elim 0 fun l => opNameCode l.name),
            u 42 1 (c.lastOp.elim 0 fun l => opOutcomeCode l.outcome),
            u 43 4 (c.lastOp.elim 0 fun l => l.time.toNat)]
          ++ (match c.lastOp.elim .none (·.results) with
            | .none => [u 47 8 0, u 55 2 0]
            | .move _ => [u 47 8 0, u 55 2 0]
            | .sound x ls lb d => [i 47 4 x, u 51 2 ls, u 53 2 lb, u 55 2 d]
            | .position n depth low =>
              [u 47 1 (n.elim 255 fun n => n), u 48 2 depth, u 50 1 (weigh low 1), u 51 6 0]
            | .observe n t sat => [u 47 2 n, u 49 4 t, u 53 1 (weigh sat 1), u 54 3 0])
          ++ [u 57 4 g.span, u 61 2 g.traverseScale, u 63 2 g.reelScale, u 65 2 g.maxReel, u 67 2 g.carry,
            u 69 2 g.hanger, u 71 2 g.dwell, u 73 1 g.filterWidth]))
    -- GET_RUN
    ∧ (s.run.body = none → ∀ page, Laid (runAnswer page s) 3 [u 0 2 s.run.number.toNat, u 2 1 0])
    ∧ (∀ b page, s.run.body = some b → s.working.observations.length ≤ 4 →
      (let results := b.closing.bind (·.results)
       let e := if results = none then 28 else 51
       let items := if page = 0xFF then [] else (b.stack.drop page.toNat).take 6
       let w := s.working
       Laid (runAnswer page s) (e + 9 + if page = 0xFF then 60 else 17 * items.length)
        ([u 0 2 s.run.number.toNat, u 2 1 (if b.closing = none then 1 else 2), u 3 4 b.openTime.toNat,
          u 7 4 (b.closing.elim 0 fun x => x.time.toNat), u 11 2 b.a, u 13 4 b.b, u 17 1 b.ppr,
          u 18 2 b.unsteady, i 20 2 b.openStage, u 22 4 b.openStageTime.toNat,
          u 26 1 (stackDirectionCode b.direction),
          u 27 1 (b.closing.elim 255 fun x => runOutcomeCode x.outcome)]
          ++ (match results with
            | none => []
            | some r =>
              [u 28 4 r.q, u 32 8 r.area, u 40 4 r.width, u 44 2 r.velocity, i 46 2 r.meanStage,
                u 48 2 r.stageChange, u 50 1 (weigh r.unsteady 1 + weigh r.low 2 + weigh r.saturated 4)])
          ++ [u e 1 (b.closing.elim 255 fun x => shiftStatusCode x.status),
            i (e + 1) 4 (b.closing.elim 0 fun x => x.shift),
            u (e + 5) 1 (b.closing.elim 0 fun x => weigh x.clamped 1),
            u (e + 6) 1 (b.closing.elim 0 fun x => x.generation.toNat), u (e + 7) 1 b.stack.length,
            u (e + 8) 1 b.stageList.length]
          ++ (items.zipIdx.flatMap fun x =>
            let o := e + 9 + 17 * x.2
            [u o 1 (itemKindCode x.1.kind), i (o + 1) 4 x.1.distance, u (o + 5) 2 x.1.depth,
              u (o + 7) 1 (match x.1.kind with
                | .vertical .onePoint => 0
                | .vertical .twoPoint => 1
                | .vertical .none => 2
                | _ => 255),
              u (o + 8) 2 x.1.velocity,
              u (o + 10) 1 (weigh x.1.low 1 + weigh x.1.saturated 2 + weigh x.1.stage.isSome 4),
              i (o + 11) 2 (x.1.stage.elim 0 fun h => h.1), u (o + 13) 4 (x.1.stage.elim 0 fun h => h.2.toNat)])
          ++ (if page = 0xFF then
              [u (e + 9) 1 (weigh w.sounding.isSome 1), i (e + 10) 4 (w.sounding.elim 0 fun x => x.x),
                u (e + 14) 2 (w.sounding.elim 0 fun x => x.ls), u (e + 16) 2 (w.sounding.elim 0 fun x => x.lb),
                u (e + 18) 2 (w.sounding.elim 0 fun x => x.d), u (e + 20) 1 w.observations.length]
              ++ (w.observations.zipIdx.flatMap fun x =>
                let o := e + 21 + 12 * x.2
                [u o 1 x.1.fraction, u (o + 1) 2 x.1.depth, u (o + 3) 2 x.1.pulses, u (o + 5) 4 x.1.period,
                  u (o + 9) 2 x.1.velocity, u (o + 11) 1 (weigh x.1.low 1 + weigh x.1.saturated 2)])
            else [])))))

/-- GET_EVENTS answers the pending-event set in the layout of POLL's byte 3 and, when PERMIT was pending, the
permit copy; the set is emptied and the copy absent, and RECORD enters again while the port's cursor is below
the next sequence (R192, 11.4). -/
def Obligations.GetEventsEmpties : Prop :=
  ∀ (p : Port) (s : State), Judged p (.getEvents p) s →
    let e := (s.ports.get p).events
    let cause : PermitCause → Int × Int := fun
      | .restart => (0, 0)
      | .granted => (1, 0)
      | .runClosed => (2, 0)
      | .standDown .level => (3, 0)
      | .standDown .rate => (3, 1)
      | .standDown .stage => (3, 2)
      | .retractDone => (4, 0)
      | .retractAborted => (5, 0)
      | .halt .loadTrip => (6, 0)
      | .halt .stall => (6, 1)
      | .halt .limit => (6, 2)
      | .halt .encoder => (6, 3)
      | .homed => (7, 0)
    ∃ t bytes, exec (.getEvents p) s = .next t ∧ OnlyPorts s t ∧ Answered p (okWith bytes) t
      ∧ fieldAt bytes 0 1
        = weigh e.sample 1 + weigh e.level 2 + weigh e.fault 4 + weigh e.record 8 + weigh e.opDone 16
          + weigh e.permit 32 + weigh e.siren 64
      ∧ (e.permit = false ∨ (s.ports.get p).permitCopy = none → bytes.length = 1)
      ∧ (∀ r, e.permit = true → (s.ports.get p).permitCopy = some r →
          Laid bytes 8
            [unsignedField 1 1 (match r.state with
                | .closed => 0
                | .open_ => 1
                | .standingDown => 2
                | .halted => 3),
              unsignedField 2 1 (cause r.cause).1, unsignedField 3 1 (cause r.cause).2,
              unsignedField 4 4 r.time.toNat])
      ∧ (t.ports.get p).permitCopy = none
      ∧ (t.ports.get p).events
        = { EventSet.none with
            record := match p with
              | .logger => decide (s.record.loggerCursor < s.record.next)
              | .warning => decide (s.record.warningCursor < s.record.next)
              | .cableway => false }

/-- SET_EVENT_MASK replaces the asking port's mask and answers the mask taken; a set bit 7 is refused RANGE
(R192). SET_REPORTING with 0 to 3 makes that threshold the asking port's own and answers it, the other
ports' thresholds being untouched; any other value is refused RANGE and changes nothing (R180). -/
def Obligations.PortSettings : Prop :=
  (∀ (p : Port) (m : Byte) (s : State), Judged p (.setEventMask p m) s →
      (m.getLsbD 7 = false →
        Gives p (.setEventMask p m) s (onPort p (fun u => { u with mask := eventSetOf m }) s)
          (okWith [m])
        ∧ eventByte (eventSetOf m) = [m])
      ∧ (m.getLsbD 7 = true → Gives p (.setEventMask p m) s s (plain .range)))
  ∧ (∀ (p : Port) (b : Byte) (s : State), Judged p (.setReporting p b) s →
        (b.toNat ≤ 3 → ∃ u, Gives p (.setReporting p b) s u (okWith [b])
          ∧ (∃ f, u = s.withFaults f)
          ∧ u.faults.word = s.faults.word ∧ u.faults.detail = s.faults.detail
          ∧ thresholdCode (u.faults.thresholds.get p) = b.toNat
          ∧ ∀ q, q ≠ p → u.faults.thresholds.get q = s.faults.thresholds.get q)
        ∧ (3 < b.toNat → Gives p (.setReporting p b) s s (plain .range)))

/-! ### Resets -/

/-- STATION_RESET is answered OK and its reset ordered for 1,000 ms from the answer; the ordered reset takes
effect at its timeout, at a CLEAR on the logger port, and at the FETCH that delivers its answer, and each
restarts the part with source COMMAND (R191). The row of the timeout brings the counter to its reading (log
entry 3), and the 1,000 ms count from the block's answer (log entry 42). -/
def Obligations.StationReset : Prop :=
  (∀ s : State, Judged .logger (.stationReset .logger) s → s.resetOrder = none →
      Gives .logger (.stationReset .logger) s
        (s.withResetOrder (some (s.time.elapsed + 1000#32))) (plain .ok))
  ∧ (∀ s : State, s.held = none → s.resetOrder ≠ none →
        (∃ t, exec .stationResetTimeout s = .next t ∧ Restarted .command s t)
        ∧ (∃ t, exec (.clear .logger) s = .next t ∧ Restarted .command s t)
        ∧ (∀ clocked, 1 ≤ clocked → deliversReset .logger s = true →
          ∃ t, exec (.fetch .logger clocked) s = .next t ∧ Restarted .command s t))

/-- RESET_PIN and BROWN_OUT hold the part in a station reset of their source, or of the source it is held in
already. Every retained block is as it was: station time, the schedule's configuration, each channel's
configuration and its DISABLED or FAILED state, the position count, the selections and the cross-check
configuration, the rating with its shift, the record, the rule records and the warning configuration, the
run, the cableway and stand-down configurations, and the waiting commands. The display keeps what it latched.
The drives are cut, the siren and the beacon off, and the ports IDLE (the hold is log entry 12).
STATION_RESTART then restarts the part from the retained domain, and a part that is not held does not
restart. The time left until the next count is an operand (log entry 3). -/
def Obligations.HeldThenRestarted : Prop :=
  ∀ s : State,
    let record : Rule → Rule := fun r => { r with state := .inactive, count := 0, last := none }
    (∀ c src, (c = .resetPin ∧ src = .pin) ∨ (c = .brownOut ∧ src = .brownOut) →
      ∃ t, exec c s = .next t ∧ t.held = some (s.held.getD src)
        ∧ t.time.station = s.time.station ∧ t.time.elapsed = 0
        ∧ t.schedule.normal = s.schedule.normal ∧ t.schedule.fast = s.schedule.fast
        ∧ t.schedule.fastLevel = s.schedule.fastLevel ∧ t.schedule.acq = none
        ∧ (∀ k, (chan k t).config = (chan k s).config ∧ (chan k t).burst = none
          ∧ ((chan k s).state = .disabled ∨ (chan k s).state = .failed →
            (chan k t).state = (chan k s).state)
          ∧ ((chan k s).state ≠ .disabled → (chan k s).state ≠ .failed →
            (chan k t).state ≠ .disabled ∧ (chan k t).state ≠ .failed))
        ∧ t.encoder.count = s.encoder.count
        ∧ t.stage.primary = s.stage.primary ∧ t.stage.check = s.stage.check
        ∧ t.stage.limit = s.stage.limit ∧ t.stage.k = s.stage.k ∧ t.stage.w = s.stage.w
        ∧ t.rating = { s.rating with lastEffective := none } ∧ t.record = s.record
        ∧ t.warning.rules.map record = s.warning.rules.map record
        ∧ t.warning.sirenLevel = s.warning.sirenLevel ∧ t.warning.holdMin = s.warning.holdMin
        ∧ t.warning.sirenRun = s.warning.sirenRun ∧ t.warning.level = 0 ∧ t.warning.siren = none
        ∧ t.warning.beacon = none ∧ t.latch = s.latch
        ∧ CablewayRestarted s.cableway.config s.cableway.pins t.cableway
        ∧ t.run = s.run ∧ t.permit.level = s.permit.level ∧ t.permit.rate = s.permit.rate
        ∧ t.permit.stage = s.permit.stage
        ∧ (∀ p, (t.ports.get p).phase = .idle) ∧ t.resetOrder = none ∧ t.pending = s.pending)
    ∧ (∀ ms src, s.held = some src →
      ∃ t, exec (.stationRestart ms) s = .next t ∧ Restarted src s t
        ∧ t.time.nextCount = BitVec.ofNat 32 ms)
    ∧ (∀ ms, s.held = none → exec (.stationRestart ms) s = .next s)

/-- A cold reset gives every block the values that its chapter states, and leaves the record with its RESTART
entry alone: the schedule (R14), every channel with the step reference absent (R38), the station stage unit
and its cross-check (R38, R52, R53), the rating (R68), the record (R90), the warning unit (R118, R119), four
dashes on the display (R114), the cableway unit (R140), the run and the working vertical (R161), the permit
with its stand-down configuration (R173), the fault unit (R182) and the ports (R194). The levels at the pins
are inputs (log entry 13), the reading of the first count is log entry 37, and the count of the latch's
transfers log entry 35. -/
def Obligations.ColdResetEmpties : Prop :=
  ∀ s : State, ∃ t, exec .coldReset s = .next t
    ∧ t.time = { station := 0, elapsed := 0, nextCount := 1000 }
    ∧ t.schedule
      = { normal := 900, fast := 60, fastLevel := 0, mode := .normal, nextDue := 900
          preWarm := { c0 := false, c1 := false, c2 := false, c3 := false }, acq := none }
    ∧ (∀ c, chan c t
      = { config :=
            { mode := .continuous, warmUp := 0, n := 5, gain := 0, offset := 0, low := -32000
              high := 32000, f := 3, maxStep := if c = .ch2 then 1 else 0 }
          state := .disabled, warmUntil := none, burst := none, missing := 0, lastSample := none
          lastRaw := none })
    ∧ t.encoder = { count := 0, stepRef := none }
    ∧ t.stage
      = { record := emptyStage 0, earlier := none, heldSince := none, disagreeCount := 0
          lastDiff := none, limit := 100, k := 3, w := 4, ring := [], primary := none, check := none }
    ∧ t.rating
      = { table := none, generation := 0, shift := 0, shiftLimit := 500, lastEffective := none }
    ∧ t.record.slots = [(0, .entry 1 (.restart 0 .cold))] ∧ t.record.oldest = 1
    ∧ t.record.next = 2 ∧ t.record.writePos = 0 ∧ t.record.loggerCursor = 1
    ∧ t.record.warningCursor = 1 ∧ t.record.mapOut = [] ∧ t.record.capacity = 4096
    ∧ t.warning
      = { rules := List.replicate 16
            { enabled := false, quantity := .stage, mask := 4294967295#32, set := 0, clear := 0
              condition := .eq, level := 1, persistence := 1, state := .inactive, count := 0
              last := none }
          level := 0, target := 0, floor := 0, hold := none, siren := none, sirenLevel := 3
          holdMin := 60, sirenRun := 10, display := .dashes, beacon := none }
    ∧ Sent .dashes s.latch t.latch
    ∧ CablewayRestarted
        { span := 0, traverseScale := 100, reelScale := 100, maxReel := 10000, carry := 500
          hanger := 150, dwell := 10000, filterWidth := 2 } s.cableway.pins t.cableway
    ∧ t.run = { number := 0, body := none }
    ∧ t.working = { sounding := none, observations := [] }
    ∧ t.permit
      = { record :=
            { state := if s.cableway.pins.loadTrip then .halted else .closed, cause := .restart
              time := 0 }
          level := 3, rate := 0, stage := none }
    ∧ t.faults
      = { word := 0x00100000#32
          detail := some { fault := .restart, time := 0, arg := .reset .cold }
          thresholds := { logger := .all, cableway := .severe, warning := .degraded } }
    ∧ (∀ p, (t.ports.get p).phase = .idle ∧ (t.ports.get p).overrun = false
      ∧ (t.ports.get p).abandoned = [] ∧ (t.ports.get p).permitCopy = none
      ∧ (t.ports.get p).mask = EventSet.all)
    ∧ t.ports.logger.events = { EventSet.none with fault := true, record := true }
    ∧ t.ports.cableway.events = EventSet.none
    ∧ t.ports.warning.events = { EventSet.none with record := true }
    ∧ t.resetOrder = none ∧ t.held = none ∧ t.pending = s.pending

/-! ### Time and the schedule (chapter 1) -/

/-- SET_TIME to another time restarts the second, empties the history ring under an INVALID rate, gives an
acquisition in flight the new time, appends a TIME_STEP entry, sets TIME_STEP and places the next due instant
from the new time; to the present time it changes nothing. It answers the old and the new time (R4, R5, R9).
The record is said for one that is not full, where no enabled rule watches the fault word. -/
def Obligations.SetTimeSteps : Prop :=
  ∀ (time : U32) (s : State), Judged .logger (.setTime .logger time) s →
    (time = s.time.station →
      Gives .logger (.setTime .logger time) s s (okWith (w32 s.time.station ++ w32 time)))
    ∧ (time ≠ s.time.station →
      ∃ u, Gives .logger (.setTime .logger time) s u (okWith (w32 s.time.station ++ w32 time))
        ∧ u.time = { station := time, elapsed := s.time.elapsed, nextCount := s.time.elapsed + 1000#32 }
        ∧ u.stage = { s.stage with ring := [], record := { s.stage.record with rateValid := false } }
        ∧ u.schedule.acq = s.schedule.acq.map (fun a => { a with sampleTime := time })
        ∧ u.schedule.nextDue = nextMultiple u.schedule.interval time
        ∧ u.rating = s.rating ∧ u.encoder = s.encoder ∧ u.run.number = s.run.number
        ∧ bitSet u.faults.word .timeStep = true
        ∧ (s.record.full = false → Unwatched s.warning →
          u.record = s.record.placeOrRenumber (.timeStep s.time.station time) time
          ∧ u.warning = s.warning))

/-- SET_SCHEDULE within its lists replaces the three items, decides the mode and places the next due
instant; outside them it is refused RANGE and changes nothing (R6). The next due instant is the smallest
multiple of the interval greater than the present station time, and 0 where no greater multiple is below
2^32 (R9). -/
def Obligations.SetScheduleReplaces : Prop :=
  (∀ (interval : Nat) (now : U32), 0 < interval →
    (let m := (nextMultiple interval now).toNat
     (now.toNat < m ∧ m % interval = 0 ∧ ∀ k, now.toNat < k → k < m → k % interval ≠ 0)
     ∨ (m = 0 ∧ ∀ k, now.toNat < k → k < 4294967296 → k % interval ≠ 0)))
  ∧ (∀ (n f : U16) (l : Byte) (s : State), Judged .logger (.setSchedule .logger n f l) s →
    (let fits := (n.toNat ∈ [60, 120, 300, 600, 900, 1800, 3600]) ∧ (f.toNat ∈ [15, 30, 60, 120, 300])
        ∧ l.toNat ≤ 4 ∧ f.toNat ≤ n.toNat
     (fits → ∃ u, Gives .logger (.setSchedule .logger n f l) s u (plain .ok)
        ∧ (∃ x y, u = (s.withSchedule x).withChans y)
        ∧ u.schedule.normal = n.toNat ∧ u.schedule.fast = f.toNat
        ∧ u.schedule.fastLevel = l.toNat ∧ u.schedule.acq = s.schedule.acq
        ∧ (u.schedule.mode = .fast ↔
            (l.toNat ≠ 0 ∧ l.toNat ≤ s.warning.level) ∨ s.permit.record.state = .open_
              ∨ s.permit.record.state = .standingDown)
        ∧ u.schedule.nextDue = nextMultiple u.schedule.interval s.time.station)
     ∧ (¬fits → Gives .logger (.setSchedule .logger n f l) s s (plain .range))))

/-- FORCE_SAMPLE with no acquisition in flight starts one of cause FORCED at the present station time, with
the channels in service as its participants (R11, R13); without one it completes at its start, with its stage
update (R12). With an acquisition in flight it joins that and changes nothing. The SAMPLE entry follows every round
of its update, and a skipped evaluation shows a threshold, by the model's choice (log entries 44 and 40). -/
def Obligations.ForceSampleStartsOrJoins : Prop :=
  ∀ s : State, Judged .logger (.forceSample .logger) s →
    (s.schedule.acq.isSome = true →
      Gives .logger (.forceSample .logger) s s { status := .accepted, payload := [1] })
    ∧ (s.schedule.acq = none → (∃ c, InService (chan c s)) →
      ∃ u, Gives .logger (.forceSample .logger) s u { status := .accepted, payload := [0] }
        ∧ AcquisitionStarted s.time.station .forced s u)
    ∧ (s.schedule.acq = none → (∀ c, ¬InService (chan c s)) →
      ∃ u, Gives .logger (.forceSample .logger) s u { status := .accepted, payload := [0] }
        ∧ StageUpdated (emptyAcquisition s.time.station .forced) s u)

/-- Station time counts one second on, the next count 1,000 ms later (R1). A count that is no multiple of the
interval in force changes nothing else. A count to a multiple is a due instant, at which the next due instant
is placed (R8, R9): with no acquisition in flight it starts one, of cause NORMAL or FAST by the mode, which
completes at once with its stage update when no channel is in service (R11, R12). With one in flight it is
not taken: each channel of the pre-warm set that is no participant goes back to SLEEPING, and so does a
participant in it whose new pre-warm point still lies ahead (R10, R11). While the part is held in reset the
second is counted. The held part, the reading of the next count, the pre-warm point that falls on the very
millisecond, the SAMPLE entry's place after every round of its update, and the threshold that a skipped
evaluation shows are the model's by log entries 12, 3, 19, 44 and 40. -/
def Obligations.StationTimeCounts : Prop :=
  ∀ s : State,
    let time : TimeBase :=
      { station := s.time.station + 1
        elapsed := if ahead s.time.nextCount s.time.elapsed then s.time.nextCount else s.time.elapsed
        nextCount := s.time.nextCount + 1000#32 }
    let due := (s.time.station + 1).toNat % s.schedule.interval = 0
    let placed := (s.withTime time).withSchedule
      { s.schedule with nextDue := nextMultiple s.schedule.interval (s.time.station + 1) }
    let cause : Cause := match s.schedule.mode with
      | .normal => .normal
      | .fast => .fast
    (Runs s → ¬due → exec .stationTimeCount s = .next (s.withTime time))
    ∧ (Runs s → due → s.schedule.acq = none → PreWarmSound s →
      ((∃ c, InService (chan c s)) →
        ∃ t, exec .stationTimeCount s = .next t
          ∧ AcquisitionStarted (s.time.station + 1) cause placed t)
      ∧ ((∀ c, ¬InService (chan c s)) →
        ∃ t, exec .stationTimeCount s = .next t
          ∧ StageUpdated (emptyAcquisition (s.time.station + 1) cause) placed t))
    ∧ (Runs s → due → ∀ a, s.schedule.acq = some a →
      ∃ t, exec .stationTimeCount s = .next t ∧ t.time = time
        ∧ (∃ preWarm,
          t.schedule
            = { s.schedule with
                preWarm := preWarm
                nextDue := nextMultiple s.schedule.interval (s.time.station + 1) })
        ∧ (∃ x y, t = ((s.withTime time).withSchedule x).withChans y)
        ∧ ∀ c,
          (let slept := chan c t = { chan c s with state := .sleeping, warmUntil := none, burst := none }
              ∧ t.schedule.preWarm.get c = false
           let stands := chan c t = chan c s
              ∧ t.schedule.preWarm.get c = s.schedule.preWarm.get c
           let back := a.participants.get c = false
              ∨ ahead (preWarmReading c t) t.time.elapsed = true
           (s.schedule.preWarm.get c = true → back → slept)
           ∧ (¬(s.schedule.preWarm.get c = true ∧ back) → stands)))
    ∧ (s.held ≠ none →
      exec .stationTimeCount s
        = .next (s.withTime { s.time with station := s.time.station + 1 }))

/-! ### The stage channels (chapter 2) -/

/-- CONFIGURE_CHANNEL with every field in its range replaces the whole configuration of a DISABLED channel,
which stays DISABLED; in any other state it is refused STATE, and with a field, the window or the burst's
length out of range it is refused RANGE, as it is for a channel number above 3 (R20). -/
def Obligations.ConfigureChannelReplaces : Prop :=
  ∀ (ch : Byte) (x : ChannelPayload) (s : State),
    Judged .logger (.configureChannel .logger ch x) s →
    (∀ c, ch = chanByte c →
      (let fits := x.mode.toNat ≤ 1 ∧ x.warmUp.toNat ≤ 5 ∧ 1 ≤ x.n.toNat ∧ x.n.toNat ≤ 15
          ∧ -32000 ≤ x.offset.toInt ∧ x.offset.toInt ≤ 32000
          ∧ -1000000 ≤ x.low.toInt ∧ x.low.toInt ≤ x.high.toInt ∧ x.high.toInt ≤ 1000000
          ∧ 1 ≤ x.f.toNat ∧ x.f.toNat ≤ 15 ∧ (c = .ch2 → 1 ≤ x.maxStep.toNat)
          ∧ [0, 100, 500, 2000, 5000, 10000].getD x.warmUp.toNat 0 + x.n.toNat * 200 ≤ 11500
       (fits → (chan c s).state = .disabled →
          Gives .logger (.configureChannel .logger ch x) s
            (setChan c
              { chan c s with
                config :=
                  { mode := if x.mode.toNat = 1 then .switched else .continuous
                    warmUp := x.warmUp.toNat, n := x.n.toNat, gain := x.gain.toInt
                    offset := x.offset.toInt, low := x.low.toInt, high := x.high.toInt
                    f := x.f.toNat, maxStep := if c = .ch2 then x.maxStep.toNat else 0 } } s)
            (plain .ok))
       ∧ (fits → (chan c s).state ≠ .disabled →
          Gives .logger (.configureChannel .logger ch x) s s (plain .state))
       ∧ (¬fits → Gives .logger (.configureChannel .logger ch x) s s (plain .range))))
    ∧ (3 < ch.toNat → Gives .logger (.configureChannel .logger ch x) s s (plain .range))

/-- ENABLE_CHANNEL takes a DISABLED channel, and RESTORE_CHANNEL a FAILED one, into service: a SWITCHED
channel goes to SLEEPING, a CONTINUOUS one to WARMING for its warm-up time, or to ON with none; the missing
count is 0 and the step reference absent. An enable also empties the last readings; a restore appends the
CHANNEL entry, whose hand-ons leave the rest as `State.kept` says. In another state each is refused STATE,
and a channel number above 3 RANGE (R22, R25). -/
def Obligations.ChannelServed : Prop :=
  (∀ (ch : Byte) (s : State), 3 < ch.toNat →
    (Judged .logger (.enableChannel .logger ch) s →
      Gives .logger (.enableChannel .logger ch) s s (plain .range))
    ∧ (Judged .logger (.restoreChannel .logger ch) s →
      Gives .logger (.restoreChannel .logger ch) s s (plain .range)))
  ∧ ∀ (c : Chan) (s : State),
    let wait := [0, 100, 500, 2000, 5000, 10000].getD (chan c s).config.warmUp 0
    let served : Channel :=
      { chan c s with
        missing := 0
        burst := match (chan c s).config.mode with
          | .continuous => (chan c s).burst
          | .switched => none
        state := match (chan c s).config.mode with
          | .continuous => if wait = 0 then .on else .warming
          | .switched => .sleeping
        warmUntil := match (chan c s).config.mode with
          | .continuous => if wait = 0 then none else some (s.time.elapsed + BitVec.ofNat 32 wait)
          | .switched => none }
    let encoder : EncoderInput :=
      { s.encoder with stepRef := if c = .ch2 then none else s.encoder.stepRef }
    (Judged .logger (.enableChannel .logger (chanByte c)) s →
      ((chan c s).state = .disabled →
        Gives .logger (.enableChannel .logger (chanByte c)) s
          ((setChan c { served with lastSample := none, lastRaw := none } s).withEncoder encoder)
          (plain .ok))
      ∧ ((chan c s).state ≠ .disabled →
        Gives .logger (.enableChannel .logger (chanByte c)) s s (plain .state)))
    ∧ (Judged .logger (.restoreChannel .logger (chanByte c)) s →
      ((chan c s).state = .failed → s.schedule.preWarm.get c = false →
        ∃ u, Gives .logger (.restoreChannel .logger (chanByte c)) s u (plain .ok)
          ∧ chan c u = served ∧ u.kept = (s.withEncoder encoder).kept)
      ∧ ((chan c s).state = .failed → s.record.full = false →
        ∃ u, Gives .logger (.restoreChannel .logger (chanByte c)) s u (plain .ok)
          ∧ chan c u = served ∧ u.encoder = encoder
          ∧ u.record
            = s.record.placeOrRenumber (.channel s.time.station c .restored) s.time.station
          ∧ ∃ x y z w, u = (((s.withChans x).withEncoder y).withRecord z).withPorts w)
      ∧ ((chan c s).state ≠ .failed →
        Gives .logger (.restoreChannel .logger (chanByte c)) s s (plain .state)))

/-- DISABLE_CHANNEL refuses the primary IN_USE and a channel number above 3 RANGE, leaves a DISABLED channel
as it is, and takes any other to DISABLED: unpowered, with no burst, no warm-up and no missing count, out of
the pre-warm set and out of the check role (R24). The acquisition in flight no longer awaits it and has no
sample of it; that of the last participant awaited completes, with its stage update (R12, R36), whose SAMPLE
entry follows every round, and whose skipped evaluations show a threshold, by the model's choice (log entries 44
and 40). -/
def Obligations.DisableLeaves : Prop :=
  (∀ (ch : Byte) (s : State), 3 < ch.toNat → Judged .logger (.disableChannel .logger ch) s →
    Gives .logger (.disableChannel .logger ch) s s (plain .range))
  ∧ ∀ (c : Chan) (s : State), Judged .logger (.disableChannel .logger (chanByte c)) s →
    let answers : State → Prop := fun u =>
      Gives .logger (.disableChannel .logger (chanByte c)) s u (plain .ok)
    let disabled : Channel :=
      { chan c s with state := .disabled, warmUntil := none, burst := none, missing := 0 }
    let left : Option Acquisition → State := fun acq =>
      ((setChan c disabled s).withSchedule
        { s.schedule with acq := acq, preWarm := s.schedule.preWarm.set c false }).withStage
        (if s.stage.check = some c then
          { s.stage with check := none, disagreeCount := 0, lastDiff := none }
         else s.stage)
    (s.stage.primary = some c →
      Gives .logger (.disableChannel .logger (chanByte c)) s s (plain .inUse))
    ∧ (s.stage.primary ≠ some c → (chan c s).state = .disabled → answers s)
    ∧ (s.stage.primary ≠ some c → (chan c s).state ≠ .disabled →
      (∃ u, answers u ∧ chan c u = disabled
        ∧ u.schedule.preWarm.get c = false ∧ awaited c u = false ∧ u.stage.check ≠ some c
        ∧ u.stage.primary = s.stage.primary ∧ u.encoder = s.encoder ∧ u.time = s.time
        ∧ u.rating.table = s.rating.table ∧ u.run.number = s.run.number)
      ∧ (s.schedule.acq = none → answers (left none))
      ∧ (∀ a, s.schedule.acq = some a →
        (let without : Acquisition :=
          { a with still := a.still.set c false, handed := a.handed.set c none }
         (a.still.get c = false ∨ (∃ k, k ≠ c ∧ a.still.get k = true) →
          answers (left (some without)))
         ∧ (a.still.get c = true → (∀ k, k ≠ c → a.still.get k = false) →
          ∃ u, answers u ∧ StageUpdated without (left none) u))))

/-- SELECT_PRIMARY takes a CONTINUOUS channel that is ON and refuses any other NOT_READY; SELECT_CHECK
refuses the primary IN_USE and a DISABLED channel STATE, and takes any other channel or NONE. A change of a
role starts the cross-check again, and naming the channel already in the role changes nothing. Any other
channel number is refused RANGE. SET_CROSSCHECK replaces its three items within their ranges (R33, R34, R46,
R47). -/
def Obligations.SelectionsChange : Prop :=
  (∀ (c : Chan) (s : State), Judged .logger (.selectPrimary .logger (chanByte c)) s →
    ((chan c s).config.mode = .continuous ∧ (chan c s).state = .on →
      Gives .logger (.selectPrimary .logger (chanByte c)) s
        (if s.stage.primary = some c then s
         else s.withStage
          { s.stage with
            primary := some c, check := if s.stage.check = some c then none else s.stage.check
            disagreeCount := 0, lastDiff := none })
        (plain .ok))
    ∧ (¬((chan c s).config.mode = .continuous ∧ (chan c s).state = .on) →
      Gives .logger (.selectPrimary .logger (chanByte c)) s s (plain .notReady)))
  ∧ (∀ (c : Chan) (s : State), Judged .logger (.selectCheck .logger (chanByte c)) s →
    (s.stage.primary = some c →
      Gives .logger (.selectCheck .logger (chanByte c)) s s (plain .inUse))
    ∧ (s.stage.primary ≠ some c → (chan c s).state = .disabled →
      Gives .logger (.selectCheck .logger (chanByte c)) s s (plain .state))
    ∧ (s.stage.primary ≠ some c → (chan c s).state ≠ .disabled →
      Gives .logger (.selectCheck .logger (chanByte c)) s
        (if s.stage.check = some c then s
         else s.withStage { s.stage with check := some c, disagreeCount := 0, lastDiff := none })
        (plain .ok)))
  ∧ (∀ (ch : Byte) (s : State), 3 < ch.toNat →
    (Judged .logger (.selectPrimary .logger ch) s →
      Gives .logger (.selectPrimary .logger ch) s s (plain .range))
    ∧ (ch ≠ 0xFF → Judged .logger (.selectCheck .logger ch) s →
      Gives .logger (.selectCheck .logger ch) s s (plain .range)))
  ∧ (∀ s : State, Judged .logger (.selectCheck .logger 0xFF) s →
      Gives .logger (.selectCheck .logger 0xFF) s
        (if s.stage.check = none then s
         else s.withStage { s.stage with check := none, disagreeCount := 0, lastDiff := none })
        (plain .ok))
  ∧ (∀ (limit : U16) (k w : Byte) (s : State),
    Judged .logger (.setCrosscheck .logger limit k w) s →
    (let fits := (1 ≤ limit.toNat ∧ limit.toNat ≤ 1000) ∧ (1 ≤ k.toNat ∧ k.toNat ≤ 15)
        ∧ (2 ≤ w.toNat ∧ w.toNat ≤ 16)
     (fits → Gives .logger (.setCrosscheck .logger limit k w) s
        (s.withStage
          { s.stage with
            limit := limit.toNat, k := k.toNat, w := w.toNat, disagreeCount := 0, lastDiff := none })
        (plain .ok))
     ∧ (¬fits → Gives .logger (.setCrosscheck .logger limit k w) s s (plain .range))))

/-- The pre-warm point of a SLEEPING channel sends it to WARMING, or to ON with no warm-up, at the point's
reading, and adds it to the pre-warm set (R10, R23). A warm-up's expiry takes the channel to ON, and its
burst begins if the acquisition in flight awaits it (R23, R27). A reply of the ranging sensor within its
slot is kept and a late one discarded (R19). A quadrature step moves the position count by one, wrapping,
while CH2 is powered (R17). The row of an expiry brings the counter to its reading (log entry 3); a pre-warm
point that has passed is log entry 19, and of two replies the first is kept by log entry 16. -/
def Obligations.ChannelHappenings : Prop :=
  ∀ s : State, Runs s →
    (∀ c, (chan c s).state = .sleeping →
      ahead (preWarmReading c s) s.time.elapsed = true ∨ preWarmReading c s = s.time.elapsed →
      ∃ t, exec (.preWarmPoint c) s = .next t
        ∧ t.time = { s.time with elapsed := preWarmReading c s }
        ∧ t.schedule = { s.schedule with preWarm := s.schedule.preWarm.set c true }
        ∧ (let wait := [0, 100, 500, 2000, 5000, 10000].getD (chan c s).config.warmUp 0
           chan c t
            = { chan c s with
                state := if wait = 0 then .on else .warming
                warmUntil := if wait = 0 then none
                  else some (preWarmReading c s + BitVec.ofNat 32 wait) })
        ∧ (∀ k, k ≠ c → chan k t = chan k s)
        ∧ ∃ x y z, t = ((s.withTime x).withSchedule y).withChans z)
    ∧ (∀ c u, (chan c s).state = .warming → (chan c s).warmUntil = some u →
      ∃ t, exec (.warmUpExpiry c) s = .next t
        ∧ t.time = { s.time with elapsed := if ahead u s.time.elapsed then u else s.time.elapsed }
        ∧ chan c t
          = { chan c s with
              state := .on, warmUntil := none
              burst := if awaited c s then
                  some { pass := .first, readings := [], slotEnds := t.time.elapsed + 100#32 }
                else (chan c s).burst }
        ∧ (∀ k, k ≠ c → chan k t = chan k s)
        ∧ ∃ x y z, t = ((s.withTime x).withChans y).withRanging z)
    ∧ (∀ r : RangingFrame, (chan .ch3 s).burst.isSome = true → s.ranging.reply = none →
      exec (.rangingReply r) s
        = .next (if r.late then s else s.withRanging { s.ranging with reply := some r }))
    ∧ (∀ up : Bool,
      exec (.quadratureStep up) s
        = .next (if (chan .ch2 s).state = .warming ∨ (chan .ch2 s).state = .on then
            s.withEncoder
              { s.encoder with count := if up then s.encoder.count + 1 else s.encoder.count - 1 }
          else s))

/-- At a slot's end the reading taken by the channel's kind becomes the last raw reading and joins the pass (R16
to R19, R27). In a pass not yet full the next slot ends 100 ms later. A full pass with enough VALID readings
ends the burst with the median; a short first pass is followed at once by the retry pass; a short retry pass
gives a MISSING sample, with which the channel goes on below F (R30 to R32). At F it fails, with a CHANNEL
entry and fault CHANNEL_FAILED, and a check that is CONTINUOUS and ON takes a failing primary's place, with
its own entry and fault (R32, R35). The sample of the last participant awaited completes the acquisition,
with its stage update (R12, R36), whose SAMPLE entry follows every round, and whose skipped evaluations show
a threshold, by the model's choice (log entries 44 and 40). The row brings the counter to the slot's end
(log entry 3), and with no acquisition in flight the station time stands in for the sample time (log entry
36). The entries of a failure are said where no enabled rule watches the fault word and the record has room. -/
def Obligations.ReadingJoins : Prop :=
  ∀ (c : Chan) (count : U24) (b : Burst) (s : State), Runs s → (chan c s).burst = some b →
    let x := chan c s
    let r := slotReading c count s
    let readings := b.readings ++ [r]
    let vs := validValues readings
    let enough := (x.config.n + 1) / 2 ≤ vs.length
    let now := if ahead b.slotEnds s.time.elapsed then b.slotEnds else s.time.elapsed
    let encoder : EncoderInput :=
      { s.encoder with stepRef := if c = .ch2 then some s.encoder.count else s.encoder.stepRef }
    let reached : Channel → State := fun y =>
      ((s.withTime { s.time with elapsed := now }).withEncoder encoder).withChans (s.chans.set c y)
    let nextSlot : Pass → List Reading → State := fun pass held =>
      (reached
        { x with
          lastRaw := some r
          burst := some { pass := pass, readings := held, slotEnds := b.slotEnds + 100#32 } }).withRanging
        (if c = .ch3 then { requests := s.ranging.requests + 1, reply := none } else s.ranging)
    let last : Option Int → LastSample := fun v =>
      { time := (match s.schedule.acq with
          | some a => a.sampleTime
          | none => s.time.station)
        value := v, v := vs.length, retried := decide (b.pass = .retry) }
    let handing : Handed → Acquisition → Acquisition := fun h a =>
      if a.still.get c then
        { a with still := a.still.set c false, handed := a.handed.set c (some h) }
      else a
    let ended : Option Acquisition → Option Int → Nat → State := fun acq v missing =>
      match x.config.mode with
      | .continuous =>
        (reached
          { x with
            lastRaw := some r, burst := none, lastSample := some (last v), missing := missing }).withSchedule
          { s.schedule with acq := acq }
      | .switched =>
        (reached
          { x with
            lastRaw := some r, burst := none, lastSample := some (last v), missing := missing
            state := .sleeping, warmUntil := none }).withSchedule
          { s.schedule with acq := acq, preWarm := s.schedule.preWarm.set c false }
    let failed : Channel :=
      { x with
        lastRaw := some r, burst := none, lastSample := some (last none), missing := x.config.f
        state := .failed, warmUntil := none }
    let promoted : Chan → Prop := fun k =>
      s.stage.primary = some c ∧ s.stage.check = some k ∧ k ≠ c
      ∧ (chan k s).config.mode = .continuous ∧ (chan k s).state = .on
    let withFailure : State → Prop := fun t =>
      chan c t = failed ∧ t.schedule.preWarm.get c = false ∧ t.encoder = encoder
      ∧ bitSet t.faults.word (.channelFailed c) = true
      ∧ (∀ k, promoted k → bitSet t.faults.word .primaryPromoted = true
        ∧ t.stage
          = { s.stage with primary := some k, check := none, disagreeCount := 0, lastDiff := none })
      ∧ ((∀ k, ¬promoted k) → t.stage = s.stage)
    let withEntries : State → Prop := fun t =>
      let r1 := s.record.placeOrRenumber (.channel s.time.station c .failed) s.time.station
      t.warning = s.warning
      ∧ (∀ k, promoted k →
        t.record = r1.placeOrRenumber (.channel s.time.station k .promoted) s.time.station)
      ∧ ((∀ k, ¬promoted k) → t.record = r1)
    let others := ∀ a, s.schedule.acq = some a → a.still.get c = true → ∃ k, k ≠ c ∧ a.still.get k = true
    let awaitedAlone : Acquisition → Prop := fun a =>
      s.schedule.acq = some a ∧ a.still.get c = true ∧ ∀ k, k ≠ c → a.still.get k = false
    (c = .ch0 ∨ c = .ch1 →
      r = if count.toInt = -8388608 ∨ count.toInt = 8388607 then failedReading (some count.toInt)
        else convert x.config count.toInt)
    ∧ (c = .ch2 → ∀ ref, s.encoder.stepRef = some ref →
      r = if (x.config.maxStep : Int) < |(s.encoder.count - ref).toInt| then
          failedReading (some s.encoder.count.toInt)
        else convert x.config s.encoder.count.toInt)
    ∧ (c = .ch2 → s.encoder.stepRef = none → r = convert x.config s.encoder.count.toInt)
    ∧ (c = .ch3 → r = match s.ranging.reply with
        | some f => if f.good && f.echo then convert x.config f.distance.toNat else failedReading none
        | none => failedReading none)
    ∧ (readings.length < x.config.n →
      exec (.readingSlotEnd c count) s = .next (nextSlot b.pass readings))
    ∧ (x.config.n ≤ readings.length → ¬enough → b.pass = .first →
      exec (.readingSlotEnd c count) s = .next (nextSlot .retry []))
    ∧ (x.config.n ≤ readings.length → enough →
      (others → exec (.readingSlotEnd c count) s
        = .next (ended (s.schedule.acq.map (handing (.valid (median vs)))) (some (median vs)) 0))
      ∧ (∀ a, awaitedAlone a →
        ∃ t, exec (.readingSlotEnd c count) s = .next t
          ∧ StageUpdated (handing (.valid (median vs)) a) (ended none (some (median vs)) 0) t))
    ∧ (x.config.n ≤ readings.length → ¬enough → b.pass = .retry → x.missing + 1 < x.config.f →
      (others → exec (.readingSlotEnd c count) s
        = .next (ended (s.schedule.acq.map (handing .missing)) none (x.missing + 1)))
      ∧ (∀ a, awaitedAlone a →
        ∃ t, exec (.readingSlotEnd c count) s = .next t
          ∧ StageUpdated (handing .missing a) (ended none none (x.missing + 1)) t))
    ∧ (x.config.n ≤ readings.length → ¬enough → b.pass = .retry → x.config.f ≤ x.missing + 1 →
      (others → ∃ t, exec (.readingSlotEnd c count) s = .next t
        ∧ withFailure t ∧ t.schedule.acq = s.schedule.acq.map (handing .missing)
        ∧ (Unwatched s.warning → s.record.HasRoom 2 → withEntries t))
      ∧ (∀ a, awaitedAlone a → Unwatched s.warning → s.record.HasRoom 2 →
        ∃ t u, exec (.readingSlotEnd c count) s = .next t
          ∧ withFailure u ∧ withEntries u ∧ StageUpdated (handing .missing a) u t
          ∧ (∃ y z f w,
            u = (((((reached failed).withSchedule
              { s.schedule with acq := none, preWarm := s.schedule.preWarm.set c false }).withStage
              y).withRecord z).withFaults f).withPorts w)))

/-- A raw value is multiplied by the gain, divided by 2^20 and rounded half away from zero, and the offset
is added; the value is VALID from the window's low end to its high end (R28, R29). Of the VALID values of a
pass, the reading is the one at place ceil(v/2) of their ascending order (R30). -/
def Obligations.PassValue : Prop :=
  (∀ (x : ChanConfig) (raw : Int),
    ∃ q : Int, convert x raw
        = { raw := some raw
            outcome := if x.low ≤ q + x.offset ∧ q + x.offset ≤ x.high then .valid else .outOfWindow
            value := some (q + x.offset) }
      ∧ |2 * (raw * x.gain - q * 1048576)| ≤ 1048576
      ∧ (|2 * (raw * x.gain - q * 1048576)| = 1048576 → |raw * x.gain| < |q * 1048576|))
  ∧ (∀ vs : List Int, vs ≠ [] →
      median vs ∈ vs
      ∧ vs.countP (fun v => decide (v < median vs)) < (vs.length + 1) / 2
      ∧ (vs.length + 1) / 2 ≤ vs.countP (fun v => decide (v ≤ median vs)))

/-! ### The station stage (chapter 3) -/

/-- R41, R42, R45: a stage update takes the primary's reading, or else the check's, clamped and marked
SUBSTITUTED, or else holds the earlier value, or else is NONE. A read stage becomes the earlier value; the
held-since time is that of the first HELD update of a run of them. With both readings the last difference
is theirs before clamping and the disagreement count rises, to at most 15, beyond the limit, and is 0
within it; with one missing the difference is absent and the count stands. DISAGREE follows the count. -/
def Obligations.StageFormed : Prop :=
  ∀ (a : Acquisition) (u : StageUnit),
    let t := formStage a u
    let x := t.record
    let reads : Option Chan → Chan → Int → Prop := fun sel c v =>
      sel = some c ∧ a.handed.get c = some (.valid v)
    let missing : Option Chan → Prop := fun sel => ∀ c v, ¬reads sel c v
    let inStageRange : Int → Int := fun v => max (-32000) (min 32000 v)
    let disagree := decide (u.k ≤ t.disagreeCount)
    let isRead : Chan → Int → Bool → Prop := fun c v sub =>
      x.value = some (inStageRange v) ∧ x.source = some c ∧ x.substituted = sub
      ∧ x.clamped = decide (inStageRange v ≠ v) ∧ x.disagree = disagree
      ∧ x.quality = (if sub = true ∨ inStageRange v ≠ v ∨ disagree = true then .suspect else .good)
      ∧ t.earlier = some (inStageRange v, c) ∧ t.heldSince = none
    x.sampleTime = some a.sampleTime
    ∧ (∀ c v, reads u.primary c v → isRead c v false)
    ∧ (∀ c v, missing u.primary → reads u.check c v → isRead c v true)
    ∧ (missing u.primary → missing u.check → t.earlier = u.earlier)
    ∧ (∀ c v, missing u.primary → missing u.check → u.earlier = some (v, c) →
      x.value = some v ∧ x.source = some c ∧ x.quality = .held ∧ x.substituted = false
      ∧ x.clamped = false ∧ x.disagree = disagree
      ∧ (u.record.quality = .held → t.heldSince = u.heldSince)
      ∧ (u.record.quality ≠ .held → t.heldSince = some a.sampleTime))
    ∧ (missing u.primary → missing u.check → u.earlier = none →
      x.value = none ∧ x.source = none ∧ x.quality = .none ∧ x.substituted = false
      ∧ x.clamped = false ∧ x.disagree = false ∧ t.heldSince = none)
    ∧ (∀ c v k w, reads u.primary c v → reads u.check k w →
      t.lastDiff = some (v - w)
      ∧ ((u.limit : Int) < |v - w| → t.disagreeCount = min 15 (u.disagreeCount + 1))
      ∧ (|v - w| ≤ u.limit → t.disagreeCount = 0))
    ∧ (missing u.primary ∨ missing u.check →
      t.lastDiff = none ∧ t.disagreeCount = u.disagreeCount)
    ∧ t.primary = u.primary ∧ t.check = u.check ∧ t.limit = u.limit ∧ t.k = u.k ∧ t.w = u.w

/-- R50: the new stage's entry joins the ring of at most 16. With a newest entry that was read, the rate is
the rise since the oldest read entry of the last W, in mm per hour, rounded toward zero, saturated to
±32,767 and VALID; where the two have one sample time, and where the newest was not read, the rate stands
and is INVALID. For a ring whose read entries have their values. -/
def Obligations.RateFormed : Prop :=
  ∀ (a : Acquisition) (u : StageUnit),
    let t := formStage a u
    let x := t.record
    let usable : RingEntry → Prop := fun e => e.quality = .good ∨ e.quality = .suspect
    let newest : RingEntry := { time := a.sampleTime, value := x.value, quality := x.quality }
    (u.ring.length < 16 → t.ring = u.ring ++ [newest])
    ∧ (u.ring.length = 16 → t.ring = u.ring.tail ++ [newest])
    ∧ (¬usable newest → x.rate = u.record.rate ∧ x.rateValid = false)
    ∧ (∀ before oldest later, (∀ e ∈ u.ring, usable e → e.value.isSome = true) →
      t.ring.drop (t.ring.length - u.w) = before ++ oldest :: later →
      (∀ e ∈ before, ¬usable e) → usable oldest → usable newest →
      (let seconds := (newest.time - oldest.time).toNat
       (seconds = 0 → x.rate = u.record.rate ∧ x.rateValid = false)
       ∧ (seconds ≠ 0 → ∀ v w, newest.value = some v → oldest.value = some w →
          x.rateValid = true
          ∧ x.rate = max (-32767) (min 32767 (((v - w) * 3600).tdiv seconds)))))

/-! ### The rating (chapter 4) -/

/-- LOAD_RATING names the first failing check, by its code, and then changes nothing (R55); a table that
passes every check is taken whole, the generation rises by one from 255 to 0, the shift is 0, and the
discharge is recomputed under the new table and answered (R56, R60). -/
def Obligations.LoadRatingJudged : Prop :=
  ∀ (count : Byte) (points : List RatingPoint) (s : State),
    Judged .logger (.loadRating .logger count points) s →
    (let badCount := count.toNat < 2 ∨ 24 < count.toNat ∨ count.toNat ≠ points.length
     let badRange := ∃ q ∈ points, q.stage.toInt < -32000 ∨ 32000 < q.stage.toInt
     let badStage := ¬points.Pairwise (fun a b => a.stage.toInt < b.stage.toInt)
     let badDischarge := ¬points.Pairwise (fun a b => a.discharge.toNat ≤ b.discharge.toNat)
     let refused : Byte → Prop := fun reason =>
      Gives .logger (.loadRating .logger count points) s s { status := .invalid, payload := [reason] }
     (badCount → refused 0)
     ∧ (¬badCount → badRange → refused 1)
     ∧ (¬badCount → ¬badRange → badStage → refused 2)
     ∧ (¬badCount → ¬badRange → ¬badStage → badDischarge → refused 3)
     ∧ (¬badCount → ¬badRange → ¬badStage → ¬badDischarge →
      (let r : Rating :=
        { s.rating with
          table := some (points.map fun q => { stage := q.stage.toInt, discharge := q.discharge.toNat })
          generation := s.rating.generation + 1, shift := 0 }
       let d := computeDischarge r s.stage.record.value s.stage.record.quality
       let x := s.stage.record.withDischarge d r.generation
       ∃ u, Gives .logger (.loadRating .logger count points) s u
          (okWith ([s.rating.generation + 1] ++ u32 d.discharge
            ++ u8 (dischargeQualityCode d.quality)))
        ∧ u.rating = r.noted d
        ∧ u.kept = ((s.withRating (r.noted d)).withStage { s.stage with record := x }).kept)))

/-- SET_SHIFT installs the shift given, clamped to the limit, and answers the shift taken with its clamped
mark (R62). SET_SHIFT_LIMIT takes 0 to 2,000, clamps the shift in force to it and refuses more with RANGE
(R63). APPLY_SHIFT installs the derived shift of a completed run whose generation is in force, and is refused
STATE or STALE otherwise (R66). Each recomputes the discharge; the hand-ons leave the rest as `State.kept`
says. The derived shift of a completed run is its rated stage less its mean stage, clamped to the limit: the
rated stage is the first point's for no flow from a first point without flow, and else that of the first
rising segment whose discharges contain the measured one; no such segment is OUT_OF_RATING, and no table
NO_RATING (R64, R65). -/
def Obligations.ShiftsInstalled : Prop :=
  let clamp : Nat → Int → Int := fun limit v => max (-(limit : Int)) (min (limit : Int) v)
  let recomputed : State → Rating → State := fun s r =>
    let d := computeDischarge r s.stage.record.value s.stage.record.quality
    (s.withRating (r.noted d)).withStage
      { s.stage with record := s.stage.record.withDischarge d r.generation }
  let installs : Instr → State → Int → Prop := fun c s given =>
    let taken := clamp s.rating.shiftLimit given
    ∃ u, Gives .logger c s u (okWith (s32 taken ++ [if taken = given then 0 else 1]))
      ∧ u.kept = (recomputed s { s.rating with shift := taken }).kept
  (∀ (v : U32) (s : State), Judged .logger (.setShift .logger v) s →
    installs (.setShift .logger v) s v.toInt)
  ∧ (∀ (l : U16) (s : State), Judged .logger (.setShiftLimit .logger l) s →
    (l.toNat ≤ 2000 →
      (let taken := clamp l.toNat s.rating.shift
       let r : Rating := { s.rating with shiftLimit := l.toNat, shift := taken }
       ∃ u, Gives .logger (.setShiftLimit .logger l) s u (okWith (u16 l.toNat ++ s32 taken))
        ∧ (taken = s.rating.shift → u = s.withRating r)
        ∧ (taken ≠ s.rating.shift → u.kept = (recomputed s r).kept)))
    ∧ (2000 < l.toNat → Gives .logger (.setShiftLimit .logger l) s s (plain .range)))
  ∧ (∀ s : State, Judged .logger (.applyShift .logger) s →
    (∀ b c, s.run.body = some b → b.closing = some c → c.outcome = .complete → c.status = .available →
      (c.generation = s.rating.generation → installs (.applyShift .logger) s c.shift)
      ∧ (c.generation ≠ s.rating.generation →
        Gives .logger (.applyShift .logger) s s (plain .stale)))
    ∧ ((∀ b c, s.run.body = some b → b.closing = some c →
        ¬(c.outcome = .complete ∧ c.status = .available)) →
      Gives .logger (.applyShift .logger) s s (plain .state)))
  ∧ (∀ (r : Rating) (q mean : Int),
    let d := deriveShift r q mean
    let found : Int → Prop := fun h =>
      d = { status := .available, shift := clamp r.shiftLimit (h - mean)
            clamped := decide (clamp r.shiftLimit (h - mean) ≠ h - mean) }
    (r.table = none → d = { status := .noRating, shift := 0, clamped := false })
    ∧ ∀ t, r.table = some t →
      (let noFlow : TablePoint → Prop := fun first =>
        t.head? = some first ∧ q = 0 ∧ first.discharge = 0
       let rising : Nat → TablePoint → TablePoint → Prop := fun i a b =>
        t[i]? = some a ∧ t[i + 1]? = some b ∧ (a.discharge : Int) ≤ q ∧ q ≤ b.discharge
        ∧ a.discharge < b.discharge
       (∀ first, noFlow first → found first.stage)
       ∧ (∀ i a b, (∀ first, ¬noFlow first) → rising i a b →
          (∀ j < i, ∀ a' b', ¬rising j a' b') →
          ∃ h, found h
            ∧ HalfUp ((b.stage - a.stage) * (q - a.discharge)) ((b.discharge : Int) - a.discharge)
              (h - a.stage))
       ∧ ((∀ first, ¬noFlow first) → (∀ i a b, ¬rising i a b) →
          d = { status := .outOfRating, shift := 0, clamped := false })))

/-- A computation of the discharge adds the shift to the stage and clamps the sum to the stage range, which
is the last effective stage from then on; a stage without a value gives 0 and NONE, no table 0 and NO_RATING,
and a HELD stage its discharge with quality HELD; a discharge of the last point's row, HELD or not, is reported
ABOVE_RATING (R57, R58, R61). Under a table of rising stages and discharges that do not fall, the discharge is
0 at or below the first point, that of the last point at or above it, interpolated and rounded half up between
two points, never more than the last point's, and it does not fall as the effective stage rises (R58, R59). -/
def Obligations.RatedDischargeBounds : Prop :=
  (∀ (r : Rating) (quality : Quality),
    computeDischarge r none quality = { discharge := 0, quality := .none, effective := none, above := false }
    ∧ r.noted (computeDischarge r none quality) = r
    ∧ ∀ v : Int,
      (let d := computeDischarge r (some v) quality
       let h := max (-32000) (min 32000 (v + r.shift))
       r.noted d = { r with lastEffective := some h }
       ∧ (r.table = none → d = { discharge := 0, quality := .noRating, effective := some h, above := false })
       ∧ (∀ t, r.table = some t → d.effective = some h ∧ d.discharge = (rateStage t h).1
          ∧ (quality = .held → d.quality = .held)
          ∧ (quality ≠ .held → d.quality = (rateStage t h).2)
          ∧ d.reports
            = if (rateStage t h).2 = .aboveRating then [{ fault := .aboveRating, arg := .mm h }] else [])))
  ∧ ∀ (t : List TablePoint) (first top : TablePoint),
    t.head? = some first → t.getLast? = some top → 2 ≤ t.length →
    t.Pairwise (fun a b => a.stage < b.stage) → t.Pairwise (fun a b => a.discharge ≤ b.discharge) →
      ∀ h : Int,
        (h ≤ first.stage → rateStage t h = (0, .zeroFlow))
        ∧ (top.stage ≤ h → rateStage t h = (top.discharge, .aboveRating))
        ∧ (first.stage < h → h < top.stage → (rateStage t h).2 = .rated)
        ∧ (∀ before a b after, t = before ++ a :: b :: after → first.stage < h → a.stage ≤ h →
          h < b.stage →
          ∃ q : Nat, (rateStage t h).1 = a.discharge + q
            ∧ HalfUp (((b.discharge : Int) - a.discharge) * (h - a.stage)) (b.stage - a.stage) q)
        ∧ (∀ q ∈ t, q.stage = h → first.stage < h → (rateStage t h).1 = q.discharge)
        ∧ (rateStage t h).1 ≤ top.discharge
        ∧ ∀ h' : Int, h ≤ h' → (rateStage t h).1 ≤ (rateStage t h').1

/-! ### The stage record (chapter 5) -/

/-- An append writes the new item, with the next sequence, into the next usable slot after the write position,
where the record then finds it, and every other slot reads as before (R70, R74, R77). A full record first
discards its oldest sequence, with READER_LOSS for each reader at or below it (R75): one named as lost in the
map-out table frees no slot, and so does one whose slot is found hard and mapped out, and the append goes on
with the next oldest; any other slot is freed, after a corrected, a damaged or, with the table full, a hard read
with its faults (R76). The append that gives out the last sequence, of a full record after its discards as of
one with room, empties every usable slot, sets the cursors to 1 and appends a RESTART entry of kind RENUMBER as
sequence 1 (R70). RECORD then stands at each reader's port whose cursor is behind (R74, R78, log entry 25). The
slots' conditions, and a hard one that stays hard through every write, are the model's (log entries 4 and
24). -/
def Obligations.AppendPlaces : Prop :=
  ∀ (e : Entry) (s : State), RecordSound s →
    let r := s.record
    let n := r.nextSlot
    let oldest := r.oldest
    let read := { r with oldest := oldest + 1 }
    let lost : Report := { fault := .readerLoss, arg := .number oldest }
    let losses := (if r.loggerCursor ≤ oldest then [lost] else [])
      ++ (if r.warningCursor ≤ oldest then [lost] else [])
    let handed : State → Prop := fun t =>
      (t.ports.logger.events.record = true ↔ t.record.loggerCursor < t.record.next)
      ∧ (t.ports.warning.events.record = true ↔ t.record.warningCursor < t.record.next)
    let placedIn : Record → State → Prop := fun before t =>
      Record.Rewritten { before with next := r.next + 1, writePos := n } n (.entry r.next e) t.record
      ∧ t.record.slotOf r.next = n ∧ handed t
    let renumbered : State → Prop := fun t =>
      handed t ∧ t.record.oldest = 1 ∧ t.record.next = 2
      ∧ t.record.loggerCursor = 1 ∧ t.record.warningCursor = 1
      ∧ t.record.mapOut = r.mapOut.map (fun y => { y with lost := none })
      ∧ (∀ k, r.cell k = .hard → t.record.cell k = .hard)
      ∧ ∃ m, (∀ k, k < m → r.mappedOut k = true) ∧ r.mappedOut m = false
        ∧ t.record.writePos = m ∧ t.record.slot m = .entry 1 (.restart s.time.station .renumber)
        ∧ ∀ k, k ≠ m → r.mappedOut k = false → t.record.slot k = .empty
    let frees : List Report → Prop := fun reports =>
      (r.next + 1 < 4294967296 → placedIn read (append e s))
      ∧ (r.next + 1 = 4294967296 → renumbered (append e s))
      ∧ (r.next + 1 ≤ 4294967296 → ∃ x w d, append e s
        = (((s.withRecord x).withFaults (takeReports s.time.station s.faults reports)).withPorts
            w).withDue d)
    let goesOn : Record → List Report → Prop := fun before reports =>
      append e s = append e (takeBatch reports (s.withRecord before))
    let right := r.Carries n oldest
    let damaged : Report := { fault := .recordDamaged, arg := .number oldest }
    n < 4096 ∧ r.mappedOut n = false
    ∧ (r.full = false → r.next + 1 < 4294967296 →
      placedIn r (append e s) ∧ ∃ x w, append e s = (s.withRecord x).withPorts w)
    ∧ (r.full = true → r.lost oldest = true →
      goesOn
        { read with
          mapOut := r.mapOut.map fun m => if m.lost = some oldest then { m with lost := none } else m }
        losses)
    ∧ (r.full = true → r.lost oldest = false →
      (r.cell n = .clean → right → frees losses)
      ∧ (r.cell n = .correctable → right →
        frees ({ fault := .recordCorrected, arg := .number n } :: losses))
      ∧ (r.cell n = .soft ∨ ((r.cell n = .clean ∨ r.cell n = .correctable) ∧ ¬right) →
        frees (damaged :: losses))
      ∧ (r.cell n = .hard → r.mapOut.length < 16 →
        goesOn { read with mapOut := r.mapOut ++ [{ slot := n, lost := none }] }
          ({ fault := .recordMappedOut, arg := .number n } :: losses))
      ∧ (r.cell n = .hard → r.mapOut.length = 16 →
        frees (damaged :: { fault := .recordMapFull, arg := .number n } :: losses)))
    ∧ (r.full = false → r.next + 1 = 4294967296 →
      renumbered (append e s) ∧ ∃ x w, append e s = (s.withRecord x).withPorts w)

/-- READ_RECORDS answers OK with up to 8 items, the cursor as it then stands and the next sequence, whatever
the memory's condition; the cursor passes the items read, after a GAP from the oldest sequence on (R79).
Where every read finds no error, the items are the entries as stored, after the GAP, and only the cursor and
the RECORD events change (R81). The read of one sequence gives its entry, corrected and scrubbed where that
takes it, or a DAMAGED marker: of a lost sequence, of a placeholder, and of an uncorrectable slot, which takes
a placeholder or, found hard, is mapped out while the table has room (R81 to R85); it is said where no enabled
rule watches the fault word. The items are laid out in 24 bytes as 11.6 gives them. The operand of slot
conditions, a hard one that stays, and the RECORD event as it stands are the model's (log entries 4, 24 and 25),
and what a field carries that does not fit its width is log entry 7. -/
def Obligations.RecordsRead : Prop :=
  (∀ (p : Port) (upsets : List (Nat × CellCondition)) (s : State),
    p ≠ .cableway → Judged p (.readRecords p upsets) s →
    let r := s.record
    let from_ := r.cursor p
    let gap := decide (from_ < r.oldest)
    let first := max from_ r.oldest
    let last := max first (min r.next (first + if gap then 7 else 8))
    (∃ (u : State) (items : List RecordItem), Gives p (.readRecords p upsets) s u
        (okWith (u8 items.length ++ u32 last ++ u32 r.next ++ items.flatMap itemBytes))
      ∧ items.length = (last - first) + (if gap then 1 else 0)
      ∧ u.kept = s.kept)
    ∧ (∀ stored : Nat → Entry, upsets = [] →
      (∀ q, first ≤ q → q < last →
        r.lost q = false ∧ r.judge (r.slotOf q) q = .good
          ∧ r.slot (r.slotOf q) = .entry q (stored q)) →
      (let items := (if gap then [RecordItem.gap from_ (r.oldest - from_)] else [])
          ++ (List.range (last - first)).map fun i => .entry (first + i) (stored (first + i))
       ∃ u, Gives p (.readRecords p upsets) s u
          (okWith (u8 items.length ++ u32 last ++ u32 r.next ++ items.flatMap itemBytes))
        ∧ (∃ w, u = (s.withRecord (r.setCursor p last)).withPorts w)
        ∧ (u.ports.get p).events.record = decide (last < r.next)))
    ∧ (upsets = [] → RecordSound s → Unwatched s.warning → r.oldest ≤ from_ → from_ + 1 = r.next →
      (let m := r.slotOf from_
       let gives : RecordItem → List Report → (Record → Prop) → Prop := fun item reports becomes =>
        ∃ u x, Gives p (.readRecords p upsets) s u
            (okWith (u8 1 ++ u32 r.next ++ u32 r.next ++ itemBytes item))
          ∧ becomes x ∧ u.record = x.setCursor p r.next
          ∧ u.faults = takeReports s.time.station s.faults reports
          ∧ u.warning = s.warning ∧ (u.ports.get p).events.record = false
       let right := r.Carries m from_
       let unchanged : Record → Prop := fun x => x = r
       let damaged : Report := { fault := .recordDamaged, arg := .number from_ }
       (r.lost from_ = true → gives (.damaged from_) [] unchanged)
       ∧ (r.lost from_ = false →
        (r.cell m = .clean → r.slot m = .placeholder from_ → gives (.damaged from_) [] unchanged)
        ∧ (∀ e, r.cell m = .clean → r.slot m = .entry from_ e → gives (.entry from_ e) [] unchanged)
        ∧ (r.cell m = .correctable → r.slot m = .placeholder from_ →
          gives (.damaged from_) [{ fault := .recordCorrected, arg := .number m }]
            (r.Rewritten m (r.slot m)))
        ∧ (∀ e, r.cell m = .correctable → r.slot m = .entry from_ e →
          gives (.entry from_ e) [{ fault := .recordCorrected, arg := .number m }]
            (r.Rewritten m (r.slot m)))
        ∧ (r.cell m = .soft ∨ ((r.cell m = .clean ∨ r.cell m = .correctable) ∧ ¬right) →
          gives (.damaged from_) [damaged] (r.Rewritten m (.placeholder from_)))
        ∧ (r.cell m = .hard → r.mapOut.length < 16 →
          gives (.damaged from_) [{ fault := .recordMappedOut, arg := .number m }]
            (fun x => x = { r with mapOut := r.mapOut ++ [{ slot := m, lost := some from_ }] }))
        ∧ (r.cell m = .hard → r.mapOut.length = 16 →
          gives (.damaged from_) [damaged, { fault := .recordMapFull, arg := .number m }]
            (r.Rewritten m (.placeholder from_)))))))
  ∧ (let u := unsignedField
     let i := signedField
     (∀ first count : Nat, Laid (itemBytes (.gap first count)) 24
        [u 0 1 0x80, u 1 4 first, u 5 4 count, u 9 8 0, u 17 7 0])
     ∧ (∀ q : Nat, Laid (itemBytes (.damaged q)) 24 [u 0 1 0x81, u 1 4 q, u 5 8 0, u 13 8 0, u 21 3 0])
     ∧ ∀ (q : Nat) (e : Entry),
        Laid (itemBytes (.entry q e)) 24
          (u 1 4 q :: match e with
            | .sample x =>
              [u 0 1 1, u 5 4 x.time.toNat, i 9 2 (x.stage.getD 0), u 11 1 (qualityCode x.quality),
                u 12 1 (weigh x.substituted 1 + weigh x.disagree 2 + weigh x.clamped 4),
                u 13 1 (x.source.elim 255 fun c => chanNumber c), i 14 2 x.rate,
                u 16 1 (weigh x.rateValid 1), u 17 4 x.discharge,
                u 21 1 (dischargeQualityCode x.dischargeQuality),
                u 22 1 (x.level + 16 * causeCode x.cause : Nat), u 23 1 x.generation.toNat]
            | .timeStep old new => [u 0 1 2, u 5 4 old.toNat, u 9 4 new.toNat, u 13 8 0, u 21 3 0]
            | .warning time old new cause =>
              [u 0 1 3, u 5 4 time.toNat, u 9 1 old, u 10 1 new,
                u 11 1 (match cause with
                  | .rule _ => 0
                  | .manual => 1
                  | .holdExpiry => 2
                  | .ack => 3),
                u 12 1 (match cause with
                  | .rule n => n
                  | _ => 0),
                u 13 8 0, u 21 3 0]
            | .run x =>
              [u 0 1 4, u 5 2 x.number.toNat, u 7 4 x.openTime.toNat, u 11 4 x.closeTime.toNat,
                u 15 1 (runOutcomeCode x.outcome + 16 * shiftStatusCode x.status : Nat),
                i 16 2 (x.meanStage.getD 0), u 18 4 (x.discharge.getD 0), i 22 2 x.shift]
            | .channel time c change =>
              [u 0 1 5, u 5 4 time.toNat, u 9 1 (chanNumber c),
                u 10 1 (match change with
                  | .failed => 0
                  | .restored => 1
                  | .promoted => 2),
                u 11 8 0, u 19 5 0]
            | .restart time kind =>
              [u 0 1 6, u 5 4 time.toNat,
                u 9 1 (match kind with
                  | .cold => 0
                  | .station _ => 1
                  | .renumber => 2),
                u 10 1 (match kind with
                  | .station .pin => 0
                  | .station .brownOut => 1
                  | .station .command => 2
                  | _ => 0),
                u 11 8 0, u 19 5 0]))

/-- R87: SEEK_RECORDS sets the asking port's cursor to the number clamped into the range from the oldest to
the next sequence and answers it; the port's RECORD event is then pending when the cursor is below the next
sequence. The other reader's cursor and every slot are as before. -/
def Obligations.SeekClamps : Prop :=
  ∀ (p : Port) (q : U32) (s : State), p ≠ .cableway → Judged p (.seekRecords p q) s →
    let r := s.record
    let cursor := if q.toNat < r.oldest then r.oldest else if r.next < q.toNat then r.next else q.toNat
    ∃ u, Gives p (.seekRecords p q) s u (okWith (u32 cursor))
      ∧ (∃ w, u = (s.withRecord (r.setCursor p cursor)).withPorts w)
      ∧ u.record.cursor p = cursor
      ∧ (u.ports.get p).events.record = decide (cursor < r.next)

/-! ### The warning unit (chapter 6) -/

/-- LOAD_RULE within its lists replaces the rule record whole, INACTIVE with a count of 0 and no last
evaluation, and forms the target again without the old rule; with a hold time above 0 L stays and the hold
timer runs while the target is below it (R91, R101, R103, R104). Outside its lists it is refused RANGE. -/
def Obligations.RuleLoaded : Prop :=
  ∀ (n : Byte) (x : RulePayload) (s : State), Judged .logger (.loadRule .logger n x) s →
    (let fits := n.toNat < 16 ∧ x.quantity.toNat ≤ 5 ∧ x.condition.toNat ≤ 9
        ∧ (1 ≤ x.level.toNat ∧ x.level.toNat ≤ 4) ∧ (1 ≤ x.persistence.toNat ∧ x.persistence.toNat ≤ 15)
     (fits → ∃ r : Rule,
        (x.enabled.toNat ≤ 1 → r.enabled = decide (x.enabled.toNat = 1))
        ∧ quantityCode r.quantity = x.quantity.toNat ∧ conditionCode r.condition = x.condition.toNat
        ∧ r.mask = x.mask ∧ r.set = x.set ∧ r.clear = x.clear ∧ r.level = x.level.toNat
        ∧ r.persistence = x.persistence.toNat
        ∧ r.state = .inactive ∧ r.count = 0 ∧ r.last = none
        ∧ (∃ u, Gives .logger (.loadRule .logger n x) s u (plain .ok) ∧ u.kept = s.kept)
        ∧ (WarningSound s.warning → s.warning.holdMin ≠ 0 →
          (let rules := s.warning.rules.set n.toNat r
           let target := max s.warning.floor (countingLevel rules)
           Gives .logger (.loadRule .logger n x) s
            (s.withWarning
              { s.warning with
                rules := rules, target := target
                hold := if target < s.warning.level then
                    some (s.warning.hold.getD
                      (s.time.elapsed + BitVec.ofNat 32 (s.warning.holdMin * 60000)))
                  else none })
            (plain .ok))))
     ∧ (¬fits → Gives .logger (.loadRule .logger n x) s s (plain .range)))

/-- R96, R97: the four flags of the masked quantity less the threshold, each condition by them, and with
them the signed and unsigned orders of the two patterns; the outcome, the masked quantity and the threshold
tested become the rule's last evaluation. -/
def Obligations.CompareOrders : Prop :=
  (∀ q t : U32,
    let f := compareFlags q t
    let d := q - t
    let holds : Condition → Prop := fun k => Machine.compare k q t = true
    (f.z = true ↔ d = 0) ∧ (f.s = true ↔ d.getLsbD 31 = true)
    ∧ (f.v = true ↔ q.getLsbD 31 ≠ t.getLsbD 31 ∧ d.getLsbD 31 ≠ q.getLsbD 31)
    ∧ (f.c = true ↔ q.toNat < t.toNat)
    ∧ (holds .eq ↔ f.z = true) ∧ (holds .ne ↔ f.z = false)
    ∧ (holds .gt ↔ f.z = false ∧ f.s = f.v) ∧ (holds .ge ↔ f.s = f.v)
    ∧ (holds .lt ↔ f.s ≠ f.v) ∧ (holds .le ↔ f.z = true ∨ f.s ≠ f.v)
    ∧ (holds .ugt ↔ f.c = false ∧ f.z = false) ∧ (holds .uge ↔ f.c = false)
    ∧ (holds .ult ↔ f.c = true) ∧ (holds .ule ↔ f.c = true ∨ f.z = true)
    ∧ (holds .eq ↔ q = t) ∧ (holds .ne ↔ q ≠ t)
    ∧ (holds .gt ↔ t.toInt < q.toInt) ∧ (holds .ge ↔ t.toInt ≤ q.toInt)
    ∧ (holds .lt ↔ q.toInt < t.toInt) ∧ (holds .le ↔ q.toInt ≤ t.toInt)
    ∧ (holds .ugt ↔ t.toNat < q.toNat) ∧ (holds .uge ↔ t.toNat ≤ q.toNat)
    ∧ (holds .ult ↔ q.toNat < t.toNat) ∧ (holds .ule ↔ q.toNat ≤ t.toNat))
  ∧ (∀ (r : Rule) (q : U32) (time : U32),
    (let sets := r.state = .inactive ∨ r.state = .arming
     let m := q &&& r.mask
     (sets → (r.evaluate (some q) false time).last
        = some
          { outcome := if Machine.compare r.condition m r.set then .isTrue else .isFalse
            testedSet := true, masked := some m, time := time })
     ∧ (¬sets → (r.evaluate (some q) false time).last
        = some
          { outcome := if Machine.compare r.condition m r.clear then .isTrue else .isFalse
            testedSet := false, masked := some m, time := time })))

/-- R98, R99: the move of a rule's state and count by the test of its set threshold in INACTIVE and ARMING,
and of its clear threshold in ACTIVE and CLEARING. Nothing else of the rule but its last evaluation
changes. -/
def Obligations.RuleMoves : Prop :=
  ∀ (r : Rule) (q : U32) (time : U32), r.count < r.persistence →
    let t := r.evaluate (some q) false time
    let m := q &&& r.mask
    let holds : U32 → Bool := fun threshold => Machine.compare r.condition m threshold
    t = { r with state := t.state, count := t.count, last := t.last }
    ∧ (r.state = .inactive ∨ r.state = .arming →
      (holds r.set = true → r.count + 1 < r.persistence →
        t.state = .arming ∧ t.count = r.count + 1)
      ∧ (holds r.set = true → r.count + 1 = r.persistence →
        t.state = .active ∧ t.count = 0)
      ∧ (holds r.set = false → t.state = .inactive ∧ t.count = 0))
    ∧ (r.state = .active ∨ r.state = .clearing →
      (holds r.clear = false → r.count + 1 < r.persistence →
        t.state = .clearing ∧ t.count = r.count + 1)
      ∧ (holds r.clear = false → r.count + 1 = r.persistence →
        t.state = .inactive ∧ t.count = 0)
      ∧ (holds r.clear = true → t.state = .active ∧ t.count = 0))

/-- RAISE_MANUAL with 1 to 4 and CLEAR_MANUAL set the manual floor and make the level computation: L rises
to a target above it at once; with the target below it L stays while the hold timer runs, or falls at once
with a hold time of 0 (R101 to R104, R107, R108). The floor, the target and L are answered, and without a
change of L nothing but the floor, the target and the hold timer changes. A change of L raises LEVEL on every
port; the beacon starts the pattern of the new level (R106, R113), and the siren is turned ON, or its run
timer started again, by a rise to its level or above, and OFF by a fall below it, with a SIREN event (R109,
R112). Where the hand-ons cannot move L again, the next state holds the new L; and with the permit not OPEN and
room in the record, its WARNING entry has cause MANUAL for a rise and HOLD_EXPIRY for a fall, and the schedule
decides its mode by it (R7, R102, R103). -/
def Obligations.FloorMoves : Prop :=
  ∀ s : State,
    (let moves : Instr → Nat → Prop := fun c floor =>
      let w := s.warning
      let target := max floor (countingLevel w.rules)
      let rises := w.level < target
      let level := if rises then target
        else if target < w.level ∧ w.hold = none ∧ w.holdMin = 0 then target else w.level
      let siren : Option U32 :=
        if rises then
          (if w.sirenLevel ≠ 0 ∧ w.sirenLevel ≤ level then
            some (s.time.elapsed + BitVec.ofNat 32 (w.sirenRun * 60000)) else w.siren)
        else if level < w.sirenLevel then none else w.siren
      let beacon : Option BeaconPhase :=
        if level = 0 then none
        else some
          { on := true
            until_ := s.time.elapsed + (if level = 1 ∨ level = 2 ∨ level = 3 then 100#32 else 500#32) }
      let apart := s.record.full = false ∧ s.permit.record.state ≠ .open_
      ∃ u, Gives .warning c s u (okWith (u8 floor ++ u8 target ++ u8 level))
        ∧ u.kept = (s.withWarning { w with floor := floor }).kept
        ∧ (level = w.level →
          u = s.withWarning
            { w with
              floor := floor, target := target
              hold := if target < w.level then
                  some (w.hold.getD (s.time.elapsed + BitVec.ofNat 32 (w.holdMin * 60000)))
                else none })
        ∧ (level ≠ w.level →
          (∀ p, (u.ports.get p).events.level = true)
          ∧ (w.siren.isSome ≠ siren.isSome → u.ports.warning.events.siren = true)
          ∧ (apart ∨ Unwatched w →
            u.warning
              = { w with
                  floor := floor, target := target, level := level, hold := none, siren := siren
                  beacon := beacon })
          ∧ (apart →
            u.record = s.record.placeOrRenumber
              (.warning s.time.station w.level level (if rises then .manual else .holdExpiry))
              s.time.station
            ∧ u.faults = s.faults ∧ u.permit = s.permit
            ∧ (u.schedule.mode = .fast ↔
              (s.schedule.fastLevel ≠ 0 ∧ s.schedule.fastLevel ≤ level)
              ∨ s.permit.record.state = .standingDown)))
     (∀ l : Byte, Judged .warning (.raiseManual .warning l) s →
        (1 ≤ l.toNat ∧ l.toNat ≤ 4 → moves (.raiseManual .warning l) l.toNat)
        ∧ (¬(1 ≤ l.toNat ∧ l.toNat ≤ 4) →
          Gives .warning (.raiseManual .warning l) s s (plain .range)))
     ∧ (Judged .warning (.clearManual .warning) s → moves (.clearManual .warning) 0))

/-- ACK_SIREN turns a sounding siren OFF with a SIREN event and a WARNING entry of cause ACK, and changes
nothing when the siren is OFF; either way it answers OFF (R110). The run timer's expiry turns the siren OFF
with a SIREN event and fault SIREN_TIMEOUT, and where the bit was set before or no enabled rule watches the
fault word, with nothing else of the warning and no entry (R111). The hand-ons leave the rest as `State.kept`
says. The row of the expiry brings the counter to its reading (log entry 3). -/
def Obligations.SirenTurnsOff : Prop :=
  ∀ s : State,
    (Judged .warning (.ackSiren .warning) s →
      (s.warning.siren = none → Gives .warning (.ackSiren .warning) s s (okWith [0]))
      ∧ (s.warning.siren ≠ none →
        ∃ u, Gives .warning (.ackSiren .warning) s u (okWith [0])
          ∧ u.ports.warning.events.siren = true ∧ u.kept = s.kept
          ∧ (s.record.full = false →
            u.warning = { s.warning with siren := none }
            ∧ u.record = s.record.placeOrRenumber
                (.warning s.time.station s.warning.level s.warning.level .ack) s.time.station
            ∧ ∃ x y z, u = ((s.withWarning x).withRecord y).withPorts z)))
    ∧ (Runs s → ∀ t, s.warning.siren = some t →
      ∃ u, exec .sirenTimeout s = .next u
        ∧ bitSet u.faults.word .sirenTimeout = true ∧ u.ports.warning.events.siren = true
        ∧ u.kept = (s.withTime
            { s.time with elapsed := if ahead t s.time.elapsed then t else s.time.elapsed }).kept
        ∧ (bitSet s.faults.word .sirenTimeout = true ∨ Unwatched s.warning →
          u.warning = { s.warning with siren := none } ∧ u.record = s.record))

/-- SET_WARNING_CONFIG within its ranges replaces its three items, and a siren level of 0 or above L turns a
sounding siren OFF with a SIREN event (R116). The hold timer's expiry takes L down to the target, idles the
timer and raises LEVEL on every port; a sounding siren is turned OFF by a fall below its level, with a SIREN
event, and the beacon starts the pattern of the new level (R105, R106, R112, R113). Where the hand-ons cannot
move L again, the next state holds the new L; and with the permit not OPEN and room in the record, its WARNING
entry has cause HOLD_EXPIRY, and the schedule decides its mode by the new L (R7). A period of the beacon's
pattern ends and the other begins (R113). The row of an expiry brings the counter to its reading (log entry
3). -/
def Obligations.WarningTimers : Prop :=
  (∀ (l : Byte) (h : U16) (r : Byte) (s : State),
    Judged .logger (.setWarningConfig .logger l h r) s →
    (let fits := l.toNat ≤ 4 ∧ h.toNat ≤ 720 ∧ 1 ≤ r.toNat ∧ r.toNat ≤ 60
     let off := l.toNat = 0 ∨ s.warning.level < l.toNat
     (fits → ∃ u, Gives .logger (.setWarningConfig .logger l h r) s u (plain .ok)
        ∧ u.warning
          = { s.warning with
              sirenLevel := l.toNat, holdMin := h.toNat, sirenRun := r.toNat
              siren := if off then none else s.warning.siren }
        ∧ (∃ x, u = (s.withWarning u.warning).withPorts x)
        ∧ (s.warning.siren ≠ none → off → u.ports.warning.events.siren = true)
        ∧ (s.warning.siren = none ∨ ¬off → u.ports = s.ports))
     ∧ (¬fits → Gives .logger (.setWarningConfig .logger l h r) s s (plain .range))))
  ∧ (∀ (t : U32) (s : State), Runs s → s.warning.hold = some t → s.warning.target < s.warning.level →
    (let w := s.warning
     let now := if ahead t s.time.elapsed then t else s.time.elapsed
     let silenced := w.target < w.sirenLevel
     let beacon : Option BeaconPhase :=
      if w.target = 0 then none
      else some
        { on := true
          until_ := now
            + (if w.target = 1 ∨ w.target = 2 ∨ w.target = 3 then 100#32 else 500#32) }
     let apart := s.record.full = false ∧ s.permit.record.state ≠ .open_
     ∃ u, exec .holdExpiry s = .next u
      ∧ (∀ p, (u.ports.get p).events.level = true)
      ∧ (w.siren ≠ none → silenced → u.ports.warning.events.siren = true)
      ∧ u.kept = (s.withTime { s.time with elapsed := now }).kept
      ∧ (apart ∨ Unwatched w →
        u.warning
          = { w with
              level := w.target, hold := none, siren := if silenced then none else w.siren
              beacon := beacon })
      ∧ (apart →
        u.record = s.record.placeOrRenumber
          (.warning s.time.station w.level w.target .holdExpiry) s.time.station
        ∧ u.faults = s.faults ∧ u.permit = s.permit
        ∧ (u.schedule.mode = .fast ↔
          (s.schedule.fastLevel ≠ 0 ∧ s.schedule.fastLevel ≤ w.target)
          ∨ s.permit.record.state = .standingDown))))
  ∧ (∀ (b : BeaconPhase) (s : State), Runs s → s.warning.beacon = some b →
    (let pattern : Nat × Nat := match s.warning.level with
      | 1 => (100, 3900)
      | 2 => (100, 1900)
      | 3 => (100, 900)
      | _ => (500, 500)
     exec .beaconPhaseEnd s
      = .next ((s.withTime
          { s.time with
            elapsed := if ahead b.until_ s.time.elapsed then b.until_ else s.time.elapsed }).withWarning
          { s.warning with
            beacon := some
              { on := !b.on
                until_ := b.until_ + BitVec.ofNat 32 (if b.on then pattern.2 else pattern.1) } })))

/-! ### The fault unit (chapter 10) -/

/-- A batch sets the bits of its reports and no other, judges the detail report by report, raises FAULT on
each port whose threshold admits a bit that went from 0 to 1, and owes one fault round exactly when it
changed the word (R175, R178, R179). What is owed is done by log entry 5. -/
def Obligations.BatchTaken : Prop :=
  ∀ (rs : List Report) (s : State),
    let t := takeBatch rs s
    let fresh : Report → Prop := fun r => r ∈ rs ∧ bitSet s.faults.word r.fault = false
    (∀ x, bitSet t.faults.word x = true ↔ bitSet s.faults.word x = true ∨ ∃ r ∈ rs, r.fault = x)
    ∧ t.faults.thresholds = s.faults.thresholds
    ∧ (rs = [] → t.faults.detail = s.faults.detail)
    ∧ (∀ before r, rs = before ++ [r] →
      (let held := (takeBatch before s).faults.detail
       let report : FaultDetail := { fault := r.fault, time := s.time.station, arg := r.arg }
       (held = none → t.faults.detail = some report)
       ∧ ∀ d, held = some d →
          t.faults.detail
            = if severityCode (faultSeverity d.fault) ≤ severityCode (faultSeverity r.fault) then
                some report
              else some d))
    ∧ (∀ p, (t.ports.get p).events.fault = true ↔
      (s.ports.get p).events.fault = true
      ∨ ∃ r, fresh r ∧
        (let sev := faultSeverity r.fault
         match s.faults.thresholds.get p with
         | .quiet => False
         | .severe => sev = .severe
         | .degraded => sev = .degraded ∨ sev = .severe
         | .all => True))
    ∧ ((∃ r, fresh r) → t.due = s.due ++ [.faultRound t.faults.word])
    ∧ (¬(∃ r, fresh r) → t.due = s.due ∧ t.ports = s.ports)
    ∧ ∃ x y z, t = ((s.withFaults x).withPorts y).withDue z

/-- CLEAR_FAULTS clears every bit of its mask and answers the word as it then stands; the detail empties
when its bit is among those cleared. A mask that clears no set bit changes nothing (R177). That
the answer comes before the rounds is log entry 5. The fault round's
hand-ons leave the rest as `State.kept` says. -/
def Obligations.ClearFaultsClears : Prop :=
  ∀ (mask : U32) (s : State), Judged .logger (.clearFaults .logger mask) s →
    let word := s.faults.word &&& ~~~mask
    (s.faults.word &&& mask = 0 →
      Gives .logger (.clearFaults .logger mask) s s (okWith (w32 s.faults.word)))
    ∧ (s.faults.word &&& mask ≠ 0 →
      ∃ u, Gives .logger (.clearFaults .logger mask) s u (okWith (w32 word))
        ∧ u.kept = s.kept
        ∧ (s.record.full = false → s.permit.record.state ≠ .open_ →
          u.faults.word = word
          ∧ (∀ d, s.faults.detail = some d →
            u.faults.detail
              = if bitSet s.faults.word d.fault = true ∧ bitSet word d.fault = false then none
                else some d)
          ∧ (s.faults.detail = none → u.faults.detail = none)))

/-! ### The cableway (chapter 7) -/

/-- SET_CABLEWAY_CONFIG is refused BUSY during an OBSERVE, STATE while the permit is OPEN or STANDING_DOWN or
another operation is in flight, and RANGE outside its lists or with a carry length above the maximum reel
length; otherwise the whole configuration is replaced (R123), and a candidate that has held for the new
width passes (R120). -/
def Obligations.CablewayConfigured : Prop :=
  ∀ (x : CablePayload) (s : State), Judged .cableway (.setCablewayConfig .cableway x) s →
    let c := s.cableway
    let observing := ∃ o ph, c.op = some { kind := .observe o, phase := ph }
    let engaged := s.permit.record.state = .open_ ∨ s.permit.record.state = .standingDown ∨ c.op ≠ none
    let fits := (1000 ≤ x.span.toNat ∧ x.span.toNat ≤ 500000)
      ∧ (1 ≤ x.traverseScale.toNat ∧ x.traverseScale.toNat ≤ 10000)
      ∧ (1 ≤ x.reelScale.toNat ∧ x.reelScale.toNat ≤ 10000)
      ∧ (1 ≤ x.maxReel.toNat ∧ x.maxReel.toNat ≤ 40000) ∧ x.carry.toNat ≤ 2000
      ∧ x.hanger.toNat ≤ 1000 ∧ x.dwell.toNat ≤ 60000
      ∧ x.filterWidth.toNat ∈ [0, 1, 2, 4, 8] ∧ x.carry.toNat ≤ x.maxReel.toNat
    let refused : Status → Prop := fun st =>
      Gives .cableway (.setCablewayConfig .cableway x) s s (plain st)
    let passed : Filter → Filter := fun f =>
      match f.candidate with
      | some t =>
        if ahead (t + BitVec.ofNat 32 x.filterWidth.toNat) s.time.elapsed then f
        else { passed := !f.passed, candidate := none }
      | none => f
    (observing → refused .busy) ∧ (¬observing → engaged → refused .state)
    ∧ (¬observing → ¬engaged → ¬fits → refused .range)
    ∧ (¬observing → ¬engaged → fits →
      Gives .cableway (.setCablewayConfig .cableway x) s
        (s.withCableway
          { c with
            config :=
              { span := x.span.toNat, traverseScale := x.traverseScale.toNat
                reelScale := x.reelScale.toNat, maxReel := x.maxReel.toNat, carry := x.carry.toNat
                hanger := x.hanger.toNat, dwell := x.dwell.toNat
                filterWidth := x.filterWidth.toNat }
            surface := passed c.surface, bottom := passed c.bottom, meter := passed c.meter })
        (plain .ok))

/-- Each operation command whose gate allows it is answered ACCEPTED and, with no axis coasting, energises
its first drive in its direction and at its speed, or ends DONE at once where it is already there; with an
axis coasting it waits. With an operation in flight it is refused BUSY, and against its gate STATE; a REEL_FREE
repeated in flight restarts its watch (R121, R125 to R131, R134). A limit already asserted toward which its
drive would move ends it by its own rule where the step aims for the limit, and else LIMIT, with fault
CABLE_LIMIT and an OPEN permit HALTED (R136, R170). A count zeroed at an asserted limit also settles at 0 (log
entry 21). -/
def Obligations.OperationsDrive : Prop :=
  ∀ s : State,
    let c := s.cableway
    let accepted : Instr → State → Prop := fun i u => Gives .cableway i s u (plain .accepted)
    let refused : Instr → Status → Prop := fun i st => Gives .cableway i s s (plain st)
    let waits : Instr → State → OpKind → Prop := fun i s0 k =>
      c.quiet = false →
        accepted i (s0.withCableway { s0.cableway with op := some { kind := k, phase := .waiting } })
    let drives : Instr → State → OpKind → Direction → Bool → Prop := fun i s0 k dir fast =>
      c.quiet = true → ∃ u, accepted i u ∧ Drives s0 u k dir fast
    let ends : Instr → OpKind → OpOutcome → OpResults → (State → Prop) → Prop := fun i k o r also =>
      c.quiet = true → c.drive = none → ∃ u, accepted i u ∧ OpEnded s u k o r ∧ also u
    let blocked : Instr → OpKind → Prop := fun i k =>
      ends i k .limit .none fun u =>
        bitSet u.faults.word .cableLimit = true
        ∧ u.permit.record = { state := .halted, cause := .halt .limit, time := s.time.station }
        ∧ u.run.openBody = none
    let overWater := s.permit.record.state = .open_ ∧ c.referenced = true
    (Judged .cableway (.home .cableway) s →
      (let gate := (s.permit.record.state = .closed ∨ s.permit.record.state = .halted)
          ∧ c.loadTrip.passed = false
       let k : OpKind := .home .reel (decide (s.permit.record.state = .halted))
       (c.op ≠ none → refused (.home .cableway) .busy)
       ∧ (c.op = none → ¬gate → refused (.home .cableway) .state)
       ∧ (c.op = none → gate → waits (.home .cableway) s k)
       ∧ (c.op = none → gate → c.pins.top = false → drives (.home .cableway) s k .reelUp true)
       ∧ (c.op = none → gate → c.pins.top = true → c.pins.home = false →
          (let h := decide (s.permit.record.state = .halted)
           let zeroed : AxisState := match c.reelAxis with
            | .settled _ => .settled 0
            | x => x
           drives (.home .cableway) (s.withCableway { c with reelCount := 0, reelAxis := zeroed })
            (.home .traverse h) .traverseIn (c.referenced && decide (1000 < c.x))))
       ∧ (c.op = none → gate → c.pins.top = true → c.pins.home = true →
          ends (.home .cableway) k .done .none fun u =>
            u.cableway.referenced = true ∧ u.cableway.reelCount = 0
            ∧ u.cableway.traverseCount = 0 ∧ u.cableway.lastSurface = none
            ∧ (s.permit.record.state = .halted →
              u.permit.record = { state := .closed, cause := .homed, time := s.time.station })
            ∧ (s.permit.record.state = .closed → u.permit = s.permit))))
    ∧ (∀ target : U32, Judged .cableway (.move .cableway target) s →
      (let fits := c.config.span ≠ 0 ∧ 0 ≤ target.toInt ∧ target.toInt ≤ c.config.span
       let gate := overWater ∧ c.reel ≤ c.config.carry
       let k : OpKind := .move target.toInt
       let s0 := (s.withWorking { sounding := none, observations := [] }).withCableway
          { c with placement := none }
       let fast := decide (1000 < |target.toInt - c.x|)
       (¬fits → refused (.move .cableway target) .range)
       ∧ (fits → c.op ≠ none → refused (.move .cableway target) .busy)
       ∧ (fits → c.op = none → ¬gate → refused (.move .cableway target) .state)
       ∧ (fits → c.op = none → gate → waits (.move .cableway target) s0 k)
       ∧ (fits → c.op = none → gate → c.loadTrip.passed = false →
          (c.x < target.toInt → c.pins.far = false →
            drives (.move .cableway target) s0 k .traverseOut fast)
          ∧ (target.toInt < c.x → c.pins.home = false →
            drives (.move .cableway target) s0 k .traverseIn fast)
          ∧ (c.x = target.toInt →
            ends (.move .cableway target) k .done (.move target.toInt) fun _ => True)
          ∧ (c.x < target.toInt → c.pins.far = true → blocked (.move .cableway target) k)
          ∧ (target.toInt < c.x → c.pins.home = true → target.toInt ≠ 0 →
            blocked (.move .cableway target) k)
          ∧ (target.toInt < c.x → c.pins.home = true → target.toInt = 0 →
            ends (.move .cableway target) k .done (.move c.x) fun _ => True))))
    ∧ (Judged .cableway (.sound .cableway) s →
      (let gate := overWater ∧ c.surface.passed = false
       let s0 := s.withCableway { c with placement := none }
       let fast := match c.lastSurface with
        | some mark => decide (c.reel < mark - 300)
        | none => false
       (c.op ≠ none → refused (.sound .cableway) .busy)
       ∧ (c.op = none → ¬gate → refused (.sound .cableway) .state)
       ∧ (c.op = none → gate → waits (.sound .cableway) s0 (.sound none none))
       ∧ (c.op = none → gate → c.loadTrip.passed = false → c.reel < c.config.maxReel →
          drives (.sound .cableway) s0 (.sound none none) .reelDown fast)
       ∧ (c.op = none → gate → (c.config.maxReel : Int) ≤ c.reel →
          ends (.sound .cableway) (.sound none none) .noSurface .none fun u => u.working = s.working)))
    ∧ (∀ f : Byte, Judged .cableway (.position .cableway f) s →
      (let fits := 5 ≤ f.toNat ∧ f.toNat ≤ 95
       (¬fits → refused (.position .cableway f) .range)
       ∧ (fits → c.op ≠ none → refused (.position .cableway f) .busy)
       ∧ (fits → c.op = none → ¬overWater → refused (.position .cableway f) .state)
       ∧ (fits → c.op = none → overWater → s.working.sounding = none →
          refused (.position .cableway f) .missing)
       ∧ (∀ x : Sounding, fits → c.op = none → overWater → s.working.sounding = some x →
          (x.d ≤ c.config.hanger → refused (.position .cableway f) .range)
          ∧ ((c.config.hanger : Int) < x.d →
            (let aim := x.ls + roundHalfUp (f.toNat * x.d) 100 + c.config.hanger
             let target := min aim x.lb
             let k : OpKind := .position
                { fraction := f.toNat, target := target, surface := x.ls, stop := none
                  low := decide (x.lb < aim) }
             let fast := decide (300 < |target - c.reel|)
             waits (.position .cableway f) s k
             ∧ (c.loadTrip.passed = false → c.reel < target → c.bottom.passed = false →
                c.reel < c.config.maxReel → drives (.position .cableway f) s k .reelDown fast)
             ∧ (c.loadTrip.passed = false → target < c.reel → c.pins.top = false →
                drives (.position .cableway f) s k .reelUp fast)
             ∧ (let here : Bool → Prop := fun low =>
                  let depth := max 0 (c.reel - c.config.hanger - x.ls)
                  ends (.position .cableway f) k .done (.position (some f.toNat) depth low) fun u =>
                    u.cableway.placement = some { fraction := f.toNat, depth := depth, low := low }
                (target = c.reel → here (decide (x.lb < aim)))
                ∧ (c.reel < target → c.bottom.passed = true → here true)
                ∧ (c.reel < target → c.bottom.passed = false → (c.config.maxReel : Int) ≤ c.reel →
                  here (decide (x.lb < aim))))
             ∧ (target < c.reel → c.pins.top = true → blocked (.position .cableway f) k))))))
    ∧ (Judged .cableway (.positionCarry .cableway) s →
      (c.op ≠ none → refused (.positionCarry .cableway) .busy)
      ∧ (c.op = none → ¬overWater → refused (.positionCarry .cableway) .state)
      ∧ (c.op = none → overWater →
        waits (.positionCarry .cableway) s .carry
        ∧ (c.loadTrip.passed = false → (c.config.carry : Int) < c.reel → c.pins.top = false →
          drives (.positionCarry .cableway) s .carry .reelUp
            (decide (300 < c.reel - c.config.carry)))
        ∧ (c.reel ≤ c.config.carry ∨ (c.pins.top = true ∧ c.config.carry = 0) →
          ends (.positionCarry .cableway) .carry .done (.position none 0 false) fun u =>
            u.cableway.placement = none)
        ∧ ((c.config.carry : Int) < c.reel → c.pins.top = true → c.config.carry ≠ 0 →
          blocked (.positionCarry .cableway) .carry)))
    ∧ (Judged .cableway (.reelFree .cableway) s →
      (let gate := s.permit.record.state = .halted ∧ c.loadTrip.passed = true
       let k : OpKind := .reelFree (s.time.elapsed + 500#32)
       (∀ ends ph, c.op = some { kind := .reelFree ends, phase := ph } →
          Gives .cableway (.reelFree .cableway) s
            (s.withCableway { c with op := some { kind := k, phase := ph } }) (plain .ok))
       ∧ (c.op = none → ¬gate → refused (.reelFree .cableway) .state)
       ∧ (c.op = none → gate → waits (.reelFree .cableway) s k)
       ∧ (∀ op, c.op = some op → op.kind.name ≠ .reelFree → refused (.reelFree .cableway) .busy)
       ∧ (c.op = none → gate → c.pins.top = false →
          drives (.reelFree .cableway) s k .reelUp false)
       ∧ (c.op = none → gate → c.pins.top = true → ends (.reelFree .cableway) k .done .none fun _ => True)))

/-- OBSERVE, with a meter placement, is answered ACCEPTED and waits the dwell, or counts at once with a
dwell of 0, for its period clamped into 10,000 to 240,000 ms. The dwell's end begins the count, and the
count's end hands the observation, with its point velocity under the open run's meter rating, to the working
vertical as its newest of at most four, and ends OBSERVE DONE (R132, R146). The row of an expiry brings the
counter to its reading (log entry 3). -/
def Obligations.ObserveRuns : Prop :=
  ∀ s : State,
    let c := s.cableway
    (∀ period : U32, Judged .cableway (.observe .cableway period) s →
      (let refused : Status → Prop := fun st =>
        Gives .cableway (.observe .cableway period) s s (plain st)
       let overWater := s.permit.record.state = .open_ ∧ c.referenced = true
       let t := max 10000 (min 240000 period.toNat)
       (c.op ≠ none → refused .busy)
       ∧ (c.op = none → ¬overWater → refused .state)
       ∧ (c.op = none → overWater → c.placement = none → refused .missing)
       ∧ (c.op = none → overWater → c.placement ≠ none →
          Gives .cableway (.observe .cableway period) s
            (s.withCableway
              { c with
                op := some
                  { kind := .observe
                      { period := t
                        phase := if c.config.dwell = 0 then
                            .count (s.time.elapsed + BitVec.ofNat 32 t)
                          else .dwell (s.time.elapsed + BitVec.ofNat 32 c.config.dwell)
                        pulses := 0, saturated := false }
                    phase := .waiting } })
            (plain .accepted))))
    ∧ (Runs s → ∀ t ends n sat ph,
      let now := if ahead ends s.time.elapsed then ends else s.time.elapsed
      (c.op = some
          { kind := .observe { period := t, phase := .dwell ends, pulses := n, saturated := sat }
            phase := ph } →
        exec .dwellEnd s
          = .next ((s.withTime { s.time with elapsed := now }).withCableway
              { c with
                op := some
                  { kind := .observe
                      { period := t, phase := .count (ends + BitVec.ofNat 32 t), pulses := 0
                        saturated := false }
                    phase := ph } }))
      ∧ (∀ x b, c.op = some
          { kind := .observe { period := t, phase := .count ends, pulses := n, saturated := sat }
            phase := ph } → c.drive = none → c.placement = some x → s.run.openBody = some b →
        (let observed : Observation :=
          { fraction := x.fraction, depth := x.depth, pulses := n, period := t
            velocity := pointVelocity b.a b.b b.ppr n t, low := x.low, saturated := sat }
         let old := s.working.observations
         ∃ u, exec .observeCountEnd s = .next u
          ∧ OpEnded s u (.observe { period := t, phase := .count ends, pulses := n, saturated := sat })
              .done (.observe n t sat)
          ∧ u.working
            = { s.working with
                observations := (if 4 ≤ old.length then old.drop (old.length - 3) else old)
                  ++ [observed] }
          ∧ u.cableway.placement = some x
          ∧ ∃ a1 a2 a3 a4,
            u = (((s.withTime a1).withCableway a2).withWorking a3).withPorts a4)))

/-- ABORT cuts the drives and ends the operation in flight ABORTED, or ends the retract and reports it to
the permit, or finds nothing in flight (R133). A limit met by a drive that aims for it cuts the drive, and
HOME and the retract set the axis's count to 0 (R127, R128, R131, R134, R136, R139). An axis that coasts settles
at its count, and what waited for it goes on (R121): a first step begins; HOME and the retract go on with the
traverse, or end at an asserted home limit; MOVE, SOUND, POSITION, CARRY and REEL_FREE end DONE with their
results, REEL_FREE whatever the traverse does; HOME's end makes the position REFERENCED and takes a HALTED permit
to CLOSED (R127 to R131, R134, R171), and the retract's takes a permit STANDING_DOWN to CLOSED (R169).
REEL_FREE's repeat watch cuts the drive and waits for the reel to settle (R134). The row of an expiry brings the
counter to its reading (log entry 3), and a count zeroed at an asserted limit also settles at 0 (log entry
21). Two clauses are the model's choice: the 500 ms of a coasting axis begin at the cut, whether a limit or the
repeat watch makes it (log entry 41), and a SOUND with both its marks waits for both axes (log entry 45). -/
def Obligations.OperationsEnd : Prop :=
  ∀ s : State,
    let c := s.cableway
    (Judged .cableway (.abort .cableway) s →
      (∀ op, c.op = some op →
        ∃ u, Gives .cableway (.abort .cableway) s u (okWith [0])
          ∧ OpEnded s u op.kind .aborted .none ∧ u.working = s.working ∧ u.permit = s.permit
          ∧ u.cableway.placement = c.placement
          ∧ ∃ x y, u = (s.withCableway x).withPorts y)
      ∧ (c.op = none → c.retract ≠ none →
        ∃ u, Gives .cableway (.abort .cableway) s u (okWith [0])
          ∧ u.cableway.retract = none ∧ u.cableway.drive = none
          ∧ (s.permit.record.state = .standingDown →
            u.permit.record
              = { state := .closed, cause := .retractAborted, time := s.time.station })
          ∧ (s.permit.record.state ≠ .standingDown → u.permit = s.permit))
      ∧ (c.op = none → c.retract = none → Gives .cableway (.abort .cableway) s s (okWith [1])))
    ∧ (Runs s → ∀ d l, c.drive = some d → d.dir.limit = some l → c.pins.limit l = false →
      (let coasts : Cableway → State := fun c1 =>
        s.withCableway
          { c1.setAxis d.dir.axis (.coasting s.time.elapsed) with
            pins := c.pins.setLimit l true, drive := none }
       let settling : OpKind → Cableway → Cableway := fun k c1 =>
        { c1 with op := some { kind := k, phase := .settling } }
       (∀ h ph, c.op = some { kind := .home .reel h, phase := ph } → l = .top →
          exec (.limitSwitchChange l true) s
            = .next (coasts (settling (.home .reel h) { c with reelCount := 0 })))
       ∧ (∀ h ph, c.op = some { kind := .home .traverse h, phase := ph } → l = .home →
          exec (.limitSwitchChange l true) s
            = .next (coasts (settling (.home .traverse h) { c with traverseCount := 0 })))
       ∧ (∀ k ph, c.op = some { kind := k, phase := ph } →
          (k = .move 0 ∧ l = .home) ∨ (k = .carry ∧ c.config.carry = 0 ∧ l = .top)
            ∨ (∃ w, k = .reelFree w ∧ l = .top) →
          exec (.limitSwitchChange l true) s = .next (coasts (settling k c)))
       ∧ (∀ ph, c.op = none → c.retract = some { step := .reel, phase := ph } → l = .top →
          exec (.limitSwitchChange l true) s
            = .next (coasts
              { c with reelCount := 0, retract := some { step := .reel, phase := .settling } }))
       ∧ (∀ ph, c.op = none → c.retract = some { step := .traverse, phase := ph } → l = .home →
          exec (.limitSwitchChange l true) s
            = .next (coasts
              { c with traverseCount := 0, retract := some { step := .traverse, phase := .settling } }))))
    ∧ (Runs s → ∀ (a other : Axis) (since : U32), a ≠ other → c.axis a = .coasting since →
      (let end_ := since + 500#32
       let now := if ahead end_ s.time.elapsed then end_ else s.time.elapsed
       let s0 := (s.withTime { s.time with elapsed := now }).withCableway
          (c.setAxis a (.settled (c.count a)))
       let c0 := s0.cableway
       let freed := ∃ ends, c.op = some { kind := .reelFree ends, phase := .settling }
       let ends : OpKind → OpResults → (State → Prop) → Prop := fun k r also =>
        ∃ u, exec (.axisSettled a) s = .next u ∧ OpEnded s u k .done r ∧ also u
       let drives : State → OpKind → Direction → Bool → Prop := fun s1 k dir fast =>
        c.loadTrip.passed = false → ∃ u, exec (.axisSettled a) s = .next u ∧ Drives s1 u k dir fast
       let homing := c.referenced && decide (1000 < c.x)
       let zeroed : AxisState := match c0.traverseAxis with
        | .settled _ => .settled 0
        | x => x
       let homed : Bool → State → Prop := fun h u =>
        u.cableway.referenced = true ∧ u.cableway.lastSurface = none
        ∧ (h = true → s.permit.record.state = .halted →
          u.permit.record = { state := .closed, cause := .homed, time := s.time.station })
        ∧ (h = false ∨ s.permit.record.state ≠ .halted → u.permit = s.permit)
       let retracted : State → Prop := fun u =>
        u.cableway.retract = none ∧ u.cableway.drive = none
        ∧ (s.permit.record.state = .standingDown →
          u.permit.record = { state := .closed, cause := .retractDone, time := s.time.station }
          ∧ u.ports.cableway.events.permit = true ∧ u.ports.warning.events.permit = true)
        ∧ (s.permit.record.state ≠ .standingDown → u.permit = s.permit)
       ((c.op = none ∧ c.retract = none)
          ∨ ((c.axis other).isCoasting = true ∧ ¬(freed ∧ a = .reel)) →
          exec (.axisSettled a) s = .next s0)
       ∧ (∀ w, c.op = some { kind := .reelFree w, phase := .settling } → c.drive = none →
          a = .reel ∨ (c.axis other).isCoasting = false → ends (.reelFree w) .none fun _ => True)
       ∧ ((c.axis other).isCoasting = false → c.drive = none →
          (∀ target, c.op = some { kind := .move target, phase := .settling } →
            ends (.move target) (.move c.x) fun u =>
              ∃ x y z, u = ((s.withTime x).withCableway y).withPorts z)
          ∧ (∀ ls lb, c.op = some { kind := .sound (some ls) (some lb), phase := .settling } →
            ends (.sound (some ls) (some lb)) (.sound c.x ls lb (lb - ls)) fun u =>
              u.working
                = { sounding := some { x := c.x, ls := ls, lb := lb, d := lb - ls }
                    observations := [] })
          ∧ (∀ p l, c.op = some { kind := .position p, phase := .settling } → p.stop = some l →
            (let depth := max 0 (l - c.config.hanger - p.surface)
             ends (.position p) (.position (some p.fraction) depth p.low) fun u =>
              u.cableway.placement
                = some { fraction := p.fraction, depth := depth, low := p.low }))
          ∧ (c.op = some { kind := .carry, phase := .settling } →
            ends .carry (.position none 0 false) fun u =>
              u.cableway.placement = none ∧ u.working = s.working)
          ∧ (∀ h, c.op = some { kind := .home .traverse h, phase := .settling } →
            (∀ n, c.axis other = .settled n → |(c.count other).toInt - n.toInt| ≤ 20) →
            ends (.home .traverse h) .none fun u =>
              homed h u ∧ u.cableway.traverseCount = c.traverseCount
              ∧ u.cableway.reelCount = c.reelCount)
          ∧ (∀ h, c.op = some { kind := .home .reel h, phase := .settling } →
            (c.pins.home = false → drives s0 (.home .traverse h) .traverseIn homing)
            ∧ (c.pins.home = true →
              (∀ n, c.axis other = .settled n → other = .reel →
                |(c.count other).toInt - n.toInt| ≤ 20) →
              ends (.home .reel h) .none fun u => homed h u ∧ u.cableway.traverseCount = 0))
          ∧ (c.op = none → c.retract = some { step := .traverse, phase := .settling } →
            ∃ u, exec (.axisSettled a) s = .next u ∧ retracted u)
          ∧ (c.op = none → c.retract = some { step := .reel, phase := .settling } →
            (c.pins.home = false → c.loadTrip.passed = false →
              exec (.axisSettled a) s
                = .next (s0.withCableway
                  { c0 with
                    retract := some { step := .traverse, phase := .driving }, traverseAxis := .driven
                    drive := some { dir := .traverseIn, fast := homing, since := now }
                    placement := none }))
            ∧ (c.pins.home = true →
              ∃ u, exec (.axisSettled a) s = .next u ∧ retracted u
                ∧ u.cableway.traverseCount = 0 ∧ u.cableway.traverseAxis = zeroed))
          ∧ (c.op = none → c.retract = some { step := .reel, phase := .waiting } →
            c.pins.top = false → c.loadTrip.passed = false →
            exec (.axisSettled a) s
              = .next (s0.withCableway
                { c0 with
                  retract := some { step := .reel, phase := .driving }, reelAxis := .driven
                  drive := some { dir := .reelUp, fast := true, since := now }, placement := none }))
          ∧ (∀ k, c.op = some { kind := k, phase := .waiting } →
            (∀ h, k = .home .reel h → c.pins.top = false → drives s0 k .reelUp true)
            ∧ (∀ target, k = .move target →
              (c.x < target → c.pins.far = false →
                drives s0 k .traverseOut (decide (1000 < |target - c.x|)))
              ∧ (target < c.x → c.pins.home = false →
                drives s0 k .traverseIn (decide (1000 < |target - c.x|))))
            ∧ (k = .sound none none → c.lastSurface = none → c.reel < c.config.maxReel →
              drives s0 k .reelDown false)
            ∧ (k = .carry → (c.config.carry : Int) < c.reel → c.pins.top = false →
              drives s0 k .reelUp (decide (300 < c.reel - c.config.carry)))))))
    ∧ (Runs s → ∀ w,
      (let now := if ahead w s.time.elapsed then w else s.time.elapsed
       let settling : Cableway → State := fun c1 =>
        (s.withTime { s.time with elapsed := now }).withCableway
          { c1 with op := some { kind := .reelFree w, phase := .settling }, drive := none }
       (∀ d, c.op = some { kind := .reelFree w, phase := .driving } → c.drive = some d → d.dir = .reelUp →
          exec .repeatWatchExpiry s = .next (settling { c with reelAxis := .coasting now }))
       ∧ (c.op = some { kind := .reelFree w, phase := .waiting } → c.drive = none →
          (c.reelAxis.isCoasting = true → exec .repeatWatchExpiry s = .next (settling c))
          ∧ (c.reelAxis.isCoasting = false →
            ∃ u, exec .repeatWatchExpiry s = .next u ∧ OpEnded s u (.reelFree w) .done .none))))

/-- A filtered input that changes to its passed level has its candidate discarded; one that differs from it
is timed from its first difference, and with width 0 passes at once (R120). A candidate that has held
becomes the passed level; a rising edge of the meter during COUNT is a pulse, the 65,536th of which
saturates the count (R132). A surface contact gives SOUND its surface mark and slows it, a bottom contact after
that its bed mark and cuts the drive, and one while POSITION reels DOWN cuts the drive and limits the point;
any other contact changes its level alone (R129, R130). So it is of INPUT_CHANGE with width 0 as of a
candidate's passing (R120). While the part is held in reset only the pin's level changes (log entry 12). The row
of an expiry brings the counter to its reading (log entry 3). The model's own readings are that contacts act
on an operation that still waits for an axis (log entry 23), that a SOUND with both marks then waits for both
axes (log entry 45), and that the 500 ms of a coasting axis begin at the cut (log entry 41). -/
def Obligations.InputsFiltered : Prop :=
  ∀ (i : Contact) (s : State),
    let c := s.cableway
    let f := c.filter i
    let width := match i with
      | .loadTrip => 2
      | _ => c.config.filterWidth
    let asserts : Host.Outcome State Fault Refusal → State → Prop := fun o b =>
      let c := b.cableway
      let next : Cableway → Prop := fun c1 => o = .next (b.withCableway c1)
      let settling : OpKind → Prop := fun k =>
        (∀ d, c.drive = some d → d.dir.axis = .reel →
          next
            { c with
              op := some { kind := k, phase := .settling }, drive := none
              reelAxis := .coasting b.time.elapsed })
        ∧ (c.drive = none → c.quiet = false → next { c with op := some { kind := k, phase := .settling } })
      let counts : OpKind → Prop := fun k => ∃ x ends, k = .observe x ∧ x.phase = .count ends
      let reelsDown := ∃ d, c.drive = some d ∧ d.dir = .reelDown
      (i ≠ .loadTrip → c.op = none → o = .next b)
      ∧ ∀ k ph, c.op = some { kind := k, phase := ph } →
        (i = .meter →
          (∀ x ends, k = .observe x → x.phase = .count ends →
            next
              { c with
                op := some
                  { kind := .observe
                      { x with
                        pulses := if x.pulses < 65535 then x.pulses + 1 else x.pulses
                        saturated := if x.pulses < 65535 then x.saturated else true }
                    phase := ph } })
          ∧ (¬counts k → o = .next b))
        ∧ (i = .surface →
          (∀ lb, k = .sound none lb →
            next
              { c with
                op := some { kind := .sound (some c.reel) lb, phase := ph }, lastSurface := some c.reel
                drive := c.drive.map fun d => { d with fast := false } })
          ∧ ((∀ lb, k ≠ .sound none lb) → o = .next b))
        ∧ (i = .bottom →
          (∀ ls, k = .sound (some ls) none → settling (.sound (some ls) (some c.reel)))
          ∧ (∀ p, k = .position p → reelsDown →
            settling (.position { p with stop := some c.reel, low := true }))
          ∧ ((∀ ls, k ≠ .sound (some ls) none) → (∀ p, k = .position p → ¬reelsDown) → o = .next b))
    (∀ closed : Bool,
      (let s0 : Filter → State := fun f' =>
        s.withCableway ({ c with pins := c.pins.setContact i closed }.setFilter i f')
       (Runs s → closed = f.passed →
          exec (.inputChange i closed) s = .next (s0 { f with candidate := none }))
       ∧ (Runs s → closed ≠ f.passed → width ≠ 0 →
          exec (.inputChange i closed) s
            = .next (s0 { f with candidate := some (f.candidate.getD s.time.elapsed) }))
       ∧ (Runs s → closed ≠ f.passed → width = 0 →
          (let b := s0 { passed := closed, candidate := none }
           (closed = false → exec (.inputChange i closed) s = .next b)
           ∧ (closed = true → asserts (exec (.inputChange i closed) s) b)))
       ∧ (s.held ≠ none →
          exec (.inputChange i closed) s
            = .next (s.withCableway { c with pins := c.pins.setContact i closed }))))
    ∧ (Runs s → ∀ t, f.candidate = some t →
      (let end_ := t + BitVec.ofNat 32 width
       let now := if ahead end_ s.time.elapsed then end_ else s.time.elapsed
       let passed : Filter := { passed := !f.passed, candidate := none }
       let b := (s.withTime { s.time with elapsed := now }).withCableway (c.setFilter i passed)
       (f.passed = true → exec (.filterPass i) s = .next b)
       ∧ (f.passed = false → asserts (exec (.filterPass i) s) b)))

/-- The watches: an unexpected limit, a stall, an impossible encoder step, a drift of more than 20 counts
while REFERENCED, and the load trip each cut the drives, end the operation in flight with their outcome, or
the retract, and set their fault. They take a permit OPEN, with its run closed, or STANDING_DOWN to HALTED; a
load trip does so from CLOSED too (R135 to R138, R170). A limit change with no drive on, and a step of an
encoder that is no fault, change the pin and the count alone. Each step of a driven axis starts the stall watch
again (R135), and with it the drive is cut at its target, SOUND ends at the maximum reel length, and the speed
follows the distance to go (R121, R127 to R131, R139). That an impossible step leaves the counts is log entry
30, and the row of an expiry brings the counter to its reading (log entry 3). Two clauses are the model's: the
500 ms of a coasting axis begin at the cut (log entry 41), and a SOUND that reaches the maximum reel length ends
at the cut, while the reel still coasts (log entry 22). -/
def Obligations.WatchesHalt : Prop :=
  ∀ s : State, Runs s →
    let c := s.cableway
    let halts : Instr → OpOutcome → StationFault → HaltFault → Prop := fun i o fault h =>
      ∃ t, exec i s = .next t
        ∧ t.cableway.drive = none ∧ t.cableway.op = none ∧ t.cableway.retract = none
        ∧ (∀ op, c.op = some op → OpEnded s t op.kind o .none)
        ∧ bitSet t.faults.word fault = true
        ∧ (s.permit.record.state = .open_ →
          t.permit.record = { state := .halted, cause := .halt h, time := s.time.station }
          ∧ t.run.openBody = none)
        ∧ (s.permit.record.state = .standingDown ∨ (s.permit.record.state = .closed ∧ h = .loadTrip) →
          t.permit.record = { state := .halted, cause := .halt h, time := s.time.station }
          ∧ t.run = s.run)
        ∧ (s.permit.record.state = .halted ∨ (s.permit.record.state = .closed ∧ h ≠ .loadTrip) →
          t.permit = s.permit ∧ t.run = s.run)
        ∧ (∀ d, c.drive = some d → t.cableway.axis d.dir.axis = .coasting t.time.elapsed)
        ∧ t.cableway.traverseCount = c.traverseCount ∧ t.cableway.reelCount = c.reelCount
        ∧ (fault ≠ .encoderFault → t.cableway.referenced = c.referenced)
        ∧ (fault = .encoderFault → t.cableway.referenced = false ∧ t.cableway.placement = none)
    (∀ l closed, c.drive = none →
      exec (.limitSwitchChange l closed) s
        = .next (s.withCableway { c with pins := c.pins.setLimit l closed }))
    ∧ (∀ d target, c.drive = some d → d.dir = .traverseOut →
        c.op = some { kind := .move target, phase := .driving } → c.pins.far = false →
        halts (.limitSwitchChange .far true) .limit .cableLimit .limit)
    ∧ (∀ d l k ph, c.drive = some d → d.dir.limit = some l → c.pins.limit l = false →
        c.op = some { kind := k, phase := ph } →
        (∃ target, k = .move target ∧ target ≠ 0) ∨ (∃ p, k = .position p)
          ∨ (k = .carry ∧ c.config.carry ≠ 0) →
        halts (.limitSwitchChange l true) .limit .cableLimit .limit)
    ∧ (∀ d, c.drive = some d → halts .stallWatchExpiry .stall .cableStall .stall)
    ∧ (∀ a, halts (.cablewayEncoderStep a .impossible) .stall .encoderFault .encoder)
    ∧ (c.loadTrip.passed = false → c.loadTrip.candidate ≠ none →
        halts (.filterPass .loadTrip) .loadTrip .cableLoadTrip .loadTrip)
    ∧ (∀ (a : Axis) (up : Bool) (n : U32), c.axis a = .settled n →
      (let count := c.count a
       let moved := if up then count + 1 else count - 1
       (if up then count ≠ 2147483647#32 else count ≠ 2147483648#32) →
        ((c.referenced = false ∨ |moved.toInt - n.toInt| ≤ 20) →
          exec (.cablewayEncoderStep a (if up then .up else .down)) s
            = .next (s.withCableway (c.setCount a moved)))
        ∧ (c.referenced = true → 20 < |moved.toInt - n.toInt| →
          ∃ t, exec (.cablewayEncoderStep a (if up then .up else .down)) s = .next t
            ∧ t.cableway.count a = moved ∧ t.cableway.referenced = false
            ∧ bitSet t.faults.word .encoderFault = true)))
    ∧ (∀ (a : Axis) (up : Bool) (since : U32), c.axis a = .coasting since →
      (let count := c.count a
       (if up then count ≠ 2147483647#32 else count ≠ 2147483648#32) →
        exec (.cablewayEncoderStep a (if up then .up else .down)) s
          = .next (s.withCableway
              ((c.setCount a (if up then count + 1 else count - 1)).setAxis a
                (.coasting s.time.elapsed)))))
    ∧ (∀ (a : Axis) (up : Bool) (d : Drive), c.axis a = .driven → c.drive = some d → d.dir.axis = a →
      c.loadTrip.passed = false →
      (if up then c.count a ≠ 2147483647#32 else c.count a ≠ 2147483648#32) →
      (let step : Instr := .cablewayEncoderStep a (if up then .up else .down)
       let c1 := c.setCount a (if up then c.count a + 1 else c.count a - 1)
       let speeds : Bool → Prop := fun fast =>
        exec step s
          = .next (s.withCableway
              { c1 with drive := some { dir := d.dir, fast := fast, since := s.time.elapsed } })
       let settling : OpKind → Prop := fun k =>
        exec step s
          = .next (s.withCableway
              { c1.setAxis a (.coasting s.time.elapsed) with
                drive := none, op := some { kind := k, phase := .settling } })
       let homing := c1.referenced && decide (1000 < c1.x)
       (c.op = none → ∀ ph,
          (c.retract = some { step := .reel, phase := ph } → speeds d.fast)
          ∧ (c.retract = some { step := .traverse, phase := ph } → speeds homing))
       ∧ (∀ k ph, c.op = some { kind := k, phase := ph } →
          (∀ h, k = .home .reel h → speeds d.fast)
          ∧ (∀ h, k = .home .traverse h → speeds homing)
          ∧ (∀ w, k = .reelFree w → speeds d.fast)
          ∧ (∀ target, k = .move target →
            (let reached := (d.dir = .traverseOut ∧ target ≤ c1.x) ∨ (d.dir = .traverseIn ∧ c1.x ≤ target)
             (reached → settling k)
             ∧ (¬reached → speeds (decide (1000 < |target - c1.x|)))))
          ∧ (∀ ls lb, k = .sound ls lb →
            ((c.config.maxReel : Int) ≤ c1.reel →
              ∃ t, exec step s = .next t
                ∧ OpEnded s t k (if ls = none then .noSurface else .noBottom) .none
                ∧ t.cableway.lastSurface = c.lastSurface ∧ t.working = s.working
                ∧ t.cableway.axis a = .coasting s.time.elapsed)
            ∧ (c1.reel < c.config.maxReel →
              (∀ mark, ls = none → c.lastSurface = some mark → speeds (decide (c1.reel < mark - 300)))
              ∧ (ls ≠ none ∨ c.lastSurface = none → speeds false)))
          ∧ (∀ p, k = .position p →
            (let reached := (d.dir = .reelDown ∧ (p.target ≤ c1.reel ∨ (c.config.maxReel : Int) ≤ c1.reel))
                ∨ (d.dir = .reelUp ∧ c1.reel ≤ p.target)
             (reached → settling (.position { p with stop := some c1.reel }))
             ∧ (¬reached → speeds (decide (300 < |p.target - c1.reel|)))))
          ∧ (k = .carry →
            (c1.reel ≤ c.config.carry → settling .carry)
            ∧ ((c.config.carry : Int) < c1.reel → speeds (decide (300 < c1.reel - c.config.carry)))))))

/-! ### Gauging runs and the permit (chapters 8 and 9) -/

/-- OPEN_RUN is refused RANGE outside the ranges of the meter rating and the unsteadiness limit, BUSY while an
operation is in flight, and STATE with the first failing condition of the grant; otherwise the run number
rises by one, the run is OPEN with the stage as it stands and an empty stack, the working vertical is
cleared, the permit is OPEN with cause GRANTED and the schedule FAST (R141, R142, R162, R164, R165). -/
def Obligations.RunOpens : Prop :=
  ∀ (m : OpenRunPayload) (s : State), Judged .cableway (.openRun .cableway m) s →
    let x := s.stage.record
    let fits := m.a.toNat ≤ 1000 ∧ (1 ≤ m.b.toNat ∧ m.b.toNat ≤ 2000000)
      ∧ (1 ≤ m.ppr.toNat ∧ m.ppr.toNat ≤ 20) ∧ m.unsteady.toNat ≤ 1000
    let conditions : List Prop :=
      [ s.permit.record.state = .closed, s.cableway.referenced = true,
        s.cableway.loadTrip.passed = false, x.quality = .good ∨ x.quality = .suspect,
        s.permit.level = 0 ∨ s.warning.level < s.permit.level,
        s.permit.rate = 0 ∨ (x.rateValid = true ∧ x.rate < s.permit.rate),
        ∀ limit v, s.permit.stage = some limit → x.value = some v → v < limit ]
    (¬fits → Gives .cableway (.openRun .cableway m) s s (plain .range))
    ∧ (fits → s.cableway.op ≠ none → Gives .cableway (.openRun .cableway m) s s (plain .busy))
    ∧ (fits → s.cableway.op = none → ∀ k, (h : k < conditions.length) →
      (∀ p ∈ conditions.take k, p) → ¬conditions[k] →
        Gives .cableway (.openRun .cableway m) s s
          { status := .state
            payload := [BitVec.ofNat 8 (permitStateCode s.permit.record.state), BitVec.ofNat 8 k] })
    ∧ (fits → s.cableway.op = none → (∀ p ∈ conditions, p) →
      ∃ u, Gives .cableway (.openRun .cableway m) s u
          (okWith (beBytes 2 (s.run.number + 1).toNat ++ s16 (x.value.getD 0)
            ++ w32 (x.sampleTime.getD 0) ++ [1]))
        ∧ u.run
          = { number := s.run.number + 1
              body := some
                { openTime := s.time.station, a := m.a.toNat, b := m.b.toNat, ppr := m.ppr.toNat
                  unsteady := m.unsteady.toNat, openStage := x.value.getD 0
                  openStageTime := x.sampleTime.getD 0, stack := [], direction := .unset
                  closing := none } }
        ∧ u.working = { sounding := none, observations := [] }
        ∧ u.cableway = { s.cableway with placement := none }
        ∧ u.permit
          = { s.permit with
              record := { state := .open_, cause := .granted, time := s.time.station } }
        ∧ u.schedule.mode = .fast
        ∧ (∀ p, p ≠ .logger →
          (u.ports.get p).events.permit = true
          ∧ (u.ports.get p).permitCopy = some u.permit.record)
        ∧ u.kept = ((s.withRun { number := s.run.number + 1, body := none })).kept)

/-- The run commands on an open run with no operation in flight: ADD_EDGE pushes a START edge on an empty
stack and an END edge beyond the newest item at the carriage's position (R150); ACCEPT_VERTICAL pushes the
sounding with its method's mean velocity and clears the working vertical (R151); DISCARD_LAST pops the newest
item (R152). The second item sets the direction and a stack of one item or none has none, and an item lies
beyond the newest in that direction, or anywhere else without one (R149). Without an open run they are refused
STATE, with an operation in flight BUSY (R148), and by their own checks RANGE, STATE, MISSING with what is
wanting, or ORDER (R150, R151). -/
def Obligations.StackItems : Prop :=
  (∀ (b : RunBody) (d : Int),
    (b.stack = [] → liesBeyond b d = false)
    ∧ ∀ newest, b.stack.getLast? = some newest →
      (liesBeyond b d = true ↔ match b.direction with
        | .ascending => newest.distance < d
        | .descending => d < newest.distance
        | .unset => d ≠ newest.distance))
  ∧ (∀ (w : Working) (fraction : Nat) (o : Observation),
    w.newestAt fraction = some o ↔
      ∃ before later, w.observations = before ++ o :: later ∧ o.fraction = fraction
        ∧ ∀ o' ∈ later, o'.fraction ≠ fraction)
  ∧ ∀ s : State,
    let c := s.cableway
    let commands : List Instr → Prop := fun is => ∀ i ∈ is, Judged .cableway i s →
      (s.run.openBody = none → Gives .cableway i s s (plain .state))
      ∧ (s.run.openBody ≠ none → c.op ≠ none → Gives .cableway i s s (plain .busy))
    (∀ kind depth method abandon,
      commands [.addEdge .cableway kind depth, .acceptVertical .cableway method,
        .discardLast .cableway, .closeRun .cableway abandon])
    ∧ (∀ b, s.run.openBody = some b → c.op = none →
      (let pushed : State → StackItem → State := fun s0 i =>
        s0.withRun
          { s.run with
            body := some
              { b with
                stack := b.stack ++ [i]
                direction := match b.stack with
                  | [first] => if first.distance < i.distance then .ascending else .descending
                  | _ => b.direction } }
       let edge : ItemKind → Nat → StackItem := fun k depth =>
        { kind := k, distance := c.x, depth := depth, velocity := 0, low := false
          saturated := false, stage := none }
       (∀ (kind : Byte) (depth : U16), Judged .cableway (.addEdge .cableway kind depth) s →
          1 < kind.toNat ∨ 30000 < depth.toNat →
            Gives .cableway (.addEdge .cableway kind depth) s s (plain .range))
       ∧ (∀ depth : U16, Judged .cableway (.addEdge .cableway 0 depth) s → depth.toNat ≤ 30000 →
          (b.stack = [] →
            Gives .cableway (.addEdge .cableway 0 depth) s (pushed s (edge .start depth.toNat))
              (okWith ([0] ++ s32 c.x)))
          ∧ (b.stack ≠ [] → Gives .cableway (.addEdge .cableway 0 depth) s s (plain .order)))
       ∧ (∀ depth : U16, Judged .cableway (.addEdge .cableway 1 depth) s → depth.toNat ≤ 30000 →
          (b.stack = [] → Gives .cableway (.addEdge .cableway 1 depth) s s (plain .order))
          ∧ (∀ newest, b.stack.getLast? = some newest →
            (newest.kind = .finish ∨ 40 ≤ b.stack.length →
              Gives .cableway (.addEdge .cableway 1 depth) s s (plain .state))
            ∧ (newest.kind ≠ .finish → b.stack.length < 40 →
              (liesBeyond b c.x = true →
                Gives .cableway (.addEdge .cableway 1 depth) s (pushed s (edge .finish depth.toNat))
                  (okWith (u8 b.stack.length ++ s32 c.x)))
              ∧ (liesBeyond b c.x = false →
                Gives .cableway (.addEdge .cableway 1 depth) s s (plain .order)))))
       ∧ (∀ method : Byte, Judged .cableway (.acceptVertical .cableway method) s →
          (let refused : Answer → Prop := fun a =>
            Gives .cableway (.acceptVertical .cableway method) s s a
           let shut := 40 ≤ b.stack.length ∨ ∃ i, b.stack.getLast? = some i ∧ i.kind = .finish
           let w := s.working
           let lacks : Byte → Nat → Bool := fun k fraction =>
            decide (method = k) && (w.newestAt fraction).isNone
           let wanting := weigh w.sounding.isNone 1 + weigh (lacks 0 60) 2 + weigh (lacks 1 20) 4
            + weigh (lacks 1 80) 8
           (2 < method.toNat → refused (plain .range))
           ∧ (method.toNat ≤ 2 → shut → refused (plain .state))
           ∧ (method.toNat ≤ 2 → ¬shut → wanting ≠ 0 →
              refused { status := .missing, payload := [BitVec.ofInt 8 wanting] })
           ∧ (∀ x, method.toNat ≤ 2 → ¬shut → wanting = 0 → w.sounding = some x →
              b.stack = [] ∨ liesBeyond b x.x = false → refused (plain .order))))
       ∧ (∀ (method : Byte) (m : Method) (x : Sounding) (newest : StackItem) (v : Nat) (low sat : Bool),
          Judged .cableway (.acceptVertical .cableway method) s →
          s.working.sounding = some x → b.stack.getLast? = some newest → newest.kind ≠ .finish →
          b.stack.length < 40 → liesBeyond b x.x = true →
          ((method = 2 ∧ m = .none ∧ v = 0 ∧ low = false ∧ sat = false)
            ∨ (∃ o, method = 0 ∧ m = .onePoint ∧ s.working.newestAt 60 = some o ∧ v = o.velocity
              ∧ low = o.low ∧ sat = o.saturated)
            ∨ (∃ o o', method = 1 ∧ m = .twoPoint ∧ s.working.newestAt 20 = some o
              ∧ s.working.newestAt 80 = some o' ∧ v = (o.velocity + o'.velocity + 1) / 2
              ∧ low = (o.low || o'.low) ∧ sat = (o.saturated || o'.saturated))) →
          (let stage := s.stage.record
           let item : StackItem :=
            { kind := .vertical m, distance := x.x, depth := x.d, velocity := v, low := low
              saturated := sat
              stage := if stage.quality = .good ∨ stage.quality = .suspect then
                  stage.value.map fun h => (h, stage.sampleTime.getD 0)
                else none }
           ∃ bytes, Laid bytes 16
              [unsignedField 0 1 b.stack.length, signedField 1 4 x.x, unsignedField 5 2 x.d,
                unsignedField 7 2 v,
                unsignedField 9 1 (weigh low 1 + weigh sat 2 + weigh item.stage.isSome 4),
                signedField 10 2 (item.stage.elim 0 fun h => h.1),
                unsignedField 12 4 (item.stage.elim 0 fun h => h.2.toNat)]
            ∧ Gives .cableway (.acceptVertical .cableway method) s
              (((pushed s item).withWorking { sounding := none, observations := [] }).withCableway
                { c with placement := none })
              (okWith bytes)))
       ∧ (Judged .cableway (.discardLast .cableway) s →
          (b.stack = [] → Gives .cableway (.discardLast .cableway) s s (plain .state))
          ∧ (∀ newest, b.stack.getLast? = some newest →
            Gives .cableway (.discardLast .cableway) s
              (s.withRun
                { s.run with
                  body := some
                    { b with
                      stack := b.stack.dropLast
                      direction := if b.stack.length ≤ 2 then .unset else b.direction } })
              (okWith (u8 (match newest.kind with
                | .start => 0
                | .vertical _ => 1
                | .finish => 2) ++ u8 (b.stack.length - 1)))))))

/-- CLOSE_RUN with its abandon mark set closes an open run ABANDONED_OPERATOR; with it clear it closes a
stack that has its START and END edges and a vertical with flow COMPLETE, with the results and the derived
shift, and otherwise names the first condition that fails (R153, R157). The permit is then CLOSED with cause
RUN_CLOSED (R172), the working vertical is cleared, and the stack stays in the closed record; a record that is
not full has the RUN entry (R159). The results follow the run's items (R154 to R156), for an area not below 0
(log entry 10), and the answer has the layout of 11.4, in which the fields after absent results follow at
once (log entry 38). -/
def Obligations.RunCloses : Prop :=
  (∀ b : RunBody,
    let x := runResults b
    let n := b.stack.length
    let at_ : (StackItem → Int) → Nat → Int := fun f i => b.stack[i]?.elim 0 f
    let distance := at_ (·.distance)
    let factor : Nat → Int := fun i => |distance (min (i + 1) (n - 1)) - distance (i - 1)|
    let sum : (Nat → Int) → Int := fun f => ((List.range n).map f).sum
    let stages := b.openStage :: b.stack.filterMap fun i => i.stage.map (·.1)
    let marked : (StackItem → Bool) → Prop := fun f =>
      ∃ i ∈ b.stack, (∃ m, i.kind = .vertical m) ∧ f i = true
    (∃ q, HalfUp (sum fun i => at_ (·.velocity) i * at_ (·.depth) i * factor i) 2000000 q
      ∧ x.q = min 4294967295 q)
    ∧ HalfUp (sum fun i => at_ (·.depth) i * factor i) 2 x.area
    ∧ x.width = |distance (n - 1) - distance 0|
    ∧ (x.area = 0 → x.velocity = 0)
    ∧ (0 < x.area → ∃ v, HalfUp (x.q * 1000000) x.area v ∧ x.velocity = min 20000 v)
    ∧ HalfUp stages.sum stages.length x.meanStage
    ∧ (∃ high ∈ stages, ∃ low ∈ stages, (∀ v ∈ stages, low ≤ v ∧ v ≤ high) ∧ x.stageChange = high - low)
    ∧ (x.unsteady = true ↔ (b.unsteady : Int) < x.stageChange)
    ∧ (x.low = true ↔ marked (·.low)) ∧ (x.saturated = true ↔ marked (·.saturated)))
  ∧ (∀ c : Closing,
    let u := unsignedField
    let i := signedField
    let bytes := (closeAnswer c).payload
    let after_ : Nat → List Field := fun e =>
      [u e 1 (shiftStatusCode c.status), i (e + 1) 4 c.shift, u (e + 5) 1 (weigh c.clamped 1)]
    (c.results = none → Laid bytes 7 (u 0 1 (runOutcomeCode c.outcome) :: after_ 1))
    ∧ ∀ r, c.results = some r →
      Laid bytes 30
        ([u 0 1 (runOutcomeCode c.outcome), u 1 4 r.q, u 5 8 r.area, u 13 4 r.width, u 17 2 r.velocity,
          i 19 2 r.meanStage, u 21 2 r.stageChange,
          u 23 1 (weigh r.unsteady 1 + weigh r.low 2 + weigh r.saturated 4)] ++ after_ 24))
  ∧ ∀ (b : RunBody) (s : State), s.run.openBody = some b → s.cableway.op = none →
    s.permit.record.state = .open_ →
    let closes : Byte → Closing → Prop := fun abandon closing =>
      ∃ u, Gives .cableway (.closeRun .cableway abandon) s u (closeAnswer closing)
        ∧ u.run = { s.run with body := some { b with closing := some closing } }
        ∧ u.permit.record = { state := .closed, cause := .runClosed, time := s.time.station }
        ∧ u.working = { sounding := none, observations := [] }
        ∧ u.cableway.placement = none ∧ u.kept = s.kept
        ∧ (s.record.full = false →
          u.record = s.record.placeOrRenumber
            (.run
              { number := s.run.number, openTime := b.openTime, closeTime := s.time.station
                outcome := closing.outcome, meanStage := closing.results.map (·.meanStage)
                discharge := closing.results.map (·.q), status := closing.status
                shift := closing.shift })
            s.time.station)
    let refused : Byte → Prop := fun code =>
      Gives .cableway (.closeRun .cableway 0) s s { status := .state, payload := [code] }
    let starts := ∃ i, b.stack.head? = some i ∧ i.kind = .start
    let ends := ∃ i, b.stack.getLast? = some i ∧ i.kind = .finish
    let flows := ∃ i ∈ b.stack, (∃ m, i.kind = .vertical m) ∧ 0 < i.velocity
    (Judged .cableway (.closeRun .cableway 1) s →
      closes 1
        { time := s.time.station, outcome := .abandonedOperator, results := none
          status := .notComputed, shift := 0, clamped := false, generation := s.rating.generation })
    ∧ (Judged .cableway (.closeRun .cableway 0) s →
      (¬starts → refused 0) ∧ (starts → ¬ends → refused 1) ∧ (starts → ends → ¬flows → refused 2)
      ∧ (starts → ends → flows →
        (let x := runResults b
         let d := deriveShift s.rating x.q x.meanStage
         closes 0
          { time := s.time.station, outcome := .complete, results := some x, status := d.status
            shift := d.shift, clamped := d.clamped, generation := s.rating.generation })))

/-- SET_STANDDOWN within its ranges replaces its three items and answers them with the permit record; an
OPEN permit that meets a condition under them stands down at once: the operation in flight ends STOOD_DOWN, the
run closes ABANDONED_FLOOD with its RUN entry, the permit's cause is the first condition that holds of LEVEL,
RATE and STAGE, and the retract starts, or is complete where the carriage stands home (R163, R166, R167, R169).
Outside their ranges the items are refused RANGE. -/
def Obligations.StanddownSet : Prop :=
  ∀ (x : StanddownPayload) (s : State), Judged .logger (.setStanddown .logger x) s →
    let fits := x.level.toNat ≤ 4 ∧ x.rate.toNat ≤ 32767
      ∧ (x.stage = 0x8000#16 ∨ (-32000 ≤ x.stage.toInt ∧ x.stage.toInt ≤ 32000))
    let limit := if x.stage = 0x8000#16 then none else some x.stage.toInt
    let s0 := s.withPermit
      { s.permit with level := x.level.toNat, rate := x.rate.toNat, stage := limit }
    let r := s.stage.record
    let stands := (x.level.toNat ≠ 0 ∧ x.level.toNat ≤ s.warning.level)
      ∨ (x.rate.toNat ≠ 0 ∧ r.rateValid = true ∧ (x.rate.toNat : Int) ≤ r.rate)
      ∨ ((r.quality = .good ∨ r.quality = .suspect)
        ∧ ∃ l v, limit = some l ∧ r.value = some v ∧ l ≤ v)
    let answer : PermitRecord → Answer := fun p =>
      okWith ([x.level] ++ beBytes 2 x.rate.toNat ++ beBytes 2 x.stage.toNat ++ permitBytes p)
    (¬fits → Gives .logger (.setStanddown .logger x) s s (plain .range))
    ∧ (fits → s.permit.record.state ≠ .open_ ∨ ¬stands →
      Gives .logger (.setStanddown .logger x) s s0 (answer s.permit.record))
    ∧ (fits → s.permit.record.state = .open_ → stands →
      ∃ u, Gives .logger (.setStanddown .logger x) s u (answer u.permit.record)
        ∧ (u.permit.record.state = .standingDown ∨ u.permit.record.state = .closed)
        ∧ u.run.openBody = none ∧ u.cableway.op = none
        ∧ (let c := s.cableway
           let home := c.drive = none ∧ c.quiet = true ∧ c.pins.top = true ∧ c.pins.home = true
           let cause : StandCondition :=
            if x.level.toNat ≠ 0 ∧ x.level.toNat ≤ s.warning.level then .level
            else if x.rate.toNat ≠ 0 ∧ r.rateValid = true ∧ (x.rate.toNat : Int) ≤ r.rate then .rate
            else .stage
           (¬home → u.permit.record
            = { state := .standingDown, cause := .standDown cause, time := s.time.station })
           ∧ (home → u.permit.record
            = { state := .closed, cause := .retractDone, time := s.time.station }))
        ∧ (∀ op, s.cableway.op = some op →
          u.cableway.lastOp
            = some { name := op.kind.name, outcome := .stoodDown, time := s.time.station, results := .none }
          ∧ u.ports.cableway.events.opDone = true)
        ∧ (∀ b, s.run.openBody = some b →
          u.run
            = { s.run with
                body := some
                  { b with
                    closing := some
                      { time := s.time.station, outcome := .abandonedFlood, results := none
                        status := .notComputed, shift := 0, clamped := false
                        generation := s.rating.generation } } }
          ∧ (s.record.full = false →
            u.record = s.record.placeOrRenumber
              (.run
                { number := s.run.number, openTime := b.openTime, closeTime := s.time.station
                  outcome := .abandonedFlood, meanStage := none, discharge := none
                  status := .notComputed, shift := 0 })
              s.time.station))
        ∧ (∀ p, p ≠ .logger →
          (u.ports.get p).events.permit = true
          ∧ (u.ports.get p).permitCopy = some u.permit.record)
        ∧ (u.cableway.retract ≠ none ↔ u.permit.record.state = .standingDown)
        ∧ u.kept = s0.kept)

/-- R147: the point velocity is 0 without pulses, and otherwise a plus b times the pulses divided by ppr
times the period, rounded half up, and never more than 20,000. -/
def Obligations.PointVelocity : Prop :=
  ∀ a b ppr pulses period : Nat,
    (pulses = 0 → pointVelocity a b ppr pulses period = 0)
    ∧ (pulses ≠ 0 → 0 < ppr → 0 < period →
      ∃ q : Nat, pointVelocity a b ppr pulses period = min 20000 (a + q)
        ∧ 2 * (b * pulses) < (2 * q + 1) * (ppr * period)
        ∧ (2 * q) * (ppr * period) ≤ 2 * (b * pulses) + ppr * period)

/-! ### What every step keeps -/

/-- Every step keeps the reserved bits of the fault word at 0, the shift within its limit, the record memory
in its canonical form with at most 16 slots mapped out, the selections and the pre-warm set to the channels
that may be in them, and a reader's RECORD event standing exactly while its cursor is below the next
sequence, as the model reads it (log entry 25). -/
def Obligations.StoredStateKept : Prop :=
  KeptByStep FaultWordReserved ∧ KeptByStep ShiftWithinLimit ∧ KeptByStep RecordSound
  ∧ KeptByStep SelectionsSound ∧ KeptByStep PreWarmSound ∧ KeptByStep RecordEventsStand

/-- Every step keeps the warning level at the target or held above it by a running hold timer, the siren
on only at or above its level, and the beacon off exactly at level 0. -/
def Obligations.WarningSoundKept : Prop := KeptByStep fun s => WarningSound s.warning

/-- Every step keeps all drives but the slow reel-up drive off while the load trip is asserted. -/
def Obligations.LoadTripDrivesKept : Prop := KeptByStep LoadTripDrives

/-- Every step keeps the permit OPEN exactly while the run record is OPEN. -/
def Obligations.PermitMeetsRunKept : Prop := KeptByStep PermitMeetsRun

/-- The part right after reset meets every invariant. -/
def Obligations.ResetMeetsInvariants : Prop :=
  FaultWordReserved State.reset ∧ ShiftWithinLimit State.reset ∧ RecordSound State.reset
  ∧ SelectionsSound State.reset ∧ PreWarmSound State.reset ∧ WarningSound State.reset.warning
  ∧ LoadTripDrives State.reset ∧ PermitMeetsRun State.reset ∧ RecordEventsStand State.reset
end

