-- ==== Sys2Proof/Laws/Layout.lean ====
section
/-! SUPPORT. Payload bytes: what a field of a payload reads as, chunk by chunk. -/

namespace Sys2Proof.Machine

/-- The number that a list of bytes spells, most significant first. -/
def spelled (bytes : List Byte) : Nat := bytes.foldl (fun v b => 256 * v + b.toNat) 0

theorem fieldAt_eq_spelled (bytes : List Byte) (offset width : Nat) :
    fieldAt bytes offset width = spelled ((bytes.drop offset).take width) := rfl

@[simp] theorem beBytes_length (n : Nat) (v : Int) : (beBytes n v).length = n := by
  induction n with
  | zero => rfl
  | succ n ih => simp [beBytes, ih]

@[simp] theorem beU_length (n : Nat) (v : Int) : (beU n v).length = n := by
  unfold beU; split <;> simp

@[simp] theorem beS_length (n : Nat) (v : Int) : (beS n v).length = n := by
  unfold beS; split <;> simp

@[simp] theorem w32_length (w : U32) : (w32 w).length = 4 := by simp [w32]

@[simp] theorem yes_length (b : Bool) : (yes b).length = 1 := rfl

@[simp] theorem bitByte_length (bs : List Bool) : (bitByte bs).length = 1 := rfl

/-- A field that begins after the first chunk is read in the rest. -/
theorem fieldAt_append_right (a b : List Byte) (offset width : Nat) (h : a.length ≤ offset) :
    fieldAt (a ++ b) offset width = fieldAt b (offset - a.length) width := by
  simp only [fieldAt, List.drop_append, List.drop_eq_nil_of_le h, List.nil_append]

/-- A field that lies in the first chunk is read there. -/
theorem fieldAt_append_left (a b : List Byte) (offset width : Nat) (h : offset + width ≤ a.length) :
    fieldAt (a ++ b) offset width = fieldAt a offset width := by
  have h1 : offset ≤ a.length := by omega
  have h2 : width ≤ (a.drop offset).length := by simp; omega
  simp only [fieldAt, List.drop_append_of_le_length h1, List.take_append_of_le_length h2]

theorem foldl_spelled (bytes : List Byte) (v : Nat) :
    bytes.foldl (fun v b => 256 * v + b.toNat) v = 256 ^ bytes.length * v + spelled bytes := by
  induction bytes generalizing v with
  | nil => simp [spelled]
  | cons b bs ih =>
    have h := ih b.toNat
    have e : spelled (b :: bs) = bs.foldl (fun v b => 256 * v + b.toNat) b.toNat := by simp [spelled]
    rw [List.foldl_cons, ih, e, h, List.length_cons]
    ring

/-- The two's-complement pattern spells the number modulo its width (R183). -/
theorem spelled_beBytes (n : Nat) (v : Int) : (spelled (beBytes n v) : Int) = v % (256 : Int) ^ n := by
  induction n with
  | zero => simp [beBytes, spelled]
  | succ n ih =>
    have e : spelled (beBytes (n + 1) v)
        = 256 ^ n * (BitVec.ofInt 8 (v / (256 : Int) ^ n)).toNat + spelled (beBytes n v) := by
      have h := foldl_spelled (beBytes n v) (BitVec.ofInt 8 (v / (256 : Int) ^ n)).toNat
      rw [beBytes_length] at h
      rw [← h]
      simp [spelled, beBytes]
    have hb : (((BitVec.ofInt 8 (v / (256 : Int) ^ n)).toNat : Nat) : Int)
        = v / (256 : Int) ^ n % 256 := by
      rw [BitVec.toNat_ofInt, Int.toNat_of_nonneg (Int.emod_nonneg _ (by norm_num))]
      norm_num
    have hm : (0 : Int) ≤ 256 ^ n := by positivity
    have hd : v / (256 : Int) ^ n / 256 = v / ((256 : Int) ^ n * 256) := Int.ediv_ediv_of_nonneg hm
    rw [e, pow_succ, Int.emod_def v ((256 : Int) ^ n * 256), ← hd]
    push_cast
    rw [ih, hb, Int.emod_def, Int.emod_def]
    ring

/-- An unsigned field that fits spells its content. -/
theorem spelled_beU (n : Nat) (v : Int) (h : 0 ≤ v) (h' : v < (256 : Int) ^ n) :
    (spelled (beU n v) : Int) = v % (256 : Int) ^ n := by
  simp [beU, h, h', spelled_beBytes]

/-- A signed field that fits spells its content in two's complement. -/
theorem spelled_beS (n : Nat) (v : Int) (h : -(256 : Int) ^ n ≤ 2 * v) (h' : 2 * v < (256 : Int) ^ n) :
    (spelled (beS n v) : Int) = v % (256 : Int) ^ n := by
  simp [beS, h, h', spelled_beBytes]

/-- A whole chunk is read as the number it spells. -/
theorem fieldAt_whole (bytes : List Byte) (width : Nat) (h : bytes.length = width) :
    fieldAt bytes 0 width = spelled bytes := by
  simp [fieldAt_eq_spelled, ← h]

end Sys2Proof.Machine
end

