-- ==== Sys2Proof/Laws/State.lean ====
section
/-! SUPPORT. What replacing one block of the state leaves alone: one lemma for each field and update, true
by `rfl`. -/

namespace Sys2Proof.Machine

variable (s : State)

/-! #### withTime -/
@[simp] theorem State.withTime_time (x : TimeBase) : (s.withTime x).time = x := rfl
@[simp] theorem State.withTime_schedule (x : TimeBase) : (s.withTime x).schedule = s.schedule := rfl
@[simp] theorem State.withTime_chans (x : TimeBase) : (s.withTime x).chans = s.chans := rfl
@[simp] theorem State.withTime_encoder (x : TimeBase) : (s.withTime x).encoder = s.encoder := rfl
@[simp] theorem State.withTime_ranging (x : TimeBase) : (s.withTime x).ranging = s.ranging := rfl
@[simp] theorem State.withTime_stage (x : TimeBase) : (s.withTime x).stage = s.stage := rfl
@[simp] theorem State.withTime_rating (x : TimeBase) : (s.withTime x).rating = s.rating := rfl
@[simp] theorem State.withTime_record (x : TimeBase) : (s.withTime x).record = s.record := rfl
@[simp] theorem State.withTime_warning (x : TimeBase) : (s.withTime x).warning = s.warning := rfl
@[simp] theorem State.withTime_latch (x : TimeBase) : (s.withTime x).latch = s.latch := rfl
@[simp] theorem State.withTime_cableway (x : TimeBase) : (s.withTime x).cableway = s.cableway := rfl
@[simp] theorem State.withTime_run (x : TimeBase) : (s.withTime x).run = s.run := rfl
@[simp] theorem State.withTime_working (x : TimeBase) : (s.withTime x).working = s.working := rfl
@[simp] theorem State.withTime_permit (x : TimeBase) : (s.withTime x).permit = s.permit := rfl
@[simp] theorem State.withTime_faults (x : TimeBase) : (s.withTime x).faults = s.faults := rfl
@[simp] theorem State.withTime_ports (x : TimeBase) : (s.withTime x).ports = s.ports := rfl
@[simp] theorem State.withTime_resetOrder (x : TimeBase) : (s.withTime x).resetOrder = s.resetOrder := rfl
@[simp] theorem State.withTime_held (x : TimeBase) : (s.withTime x).held = s.held := rfl
@[simp] theorem State.withTime_orders (x : TimeBase) : (s.withTime x).orders = s.orders := rfl
@[simp] theorem State.withTime_due (x : TimeBase) : (s.withTime x).due = s.due := rfl
@[simp] theorem State.withTime_pending (x : TimeBase) : (s.withTime x).pending = s.pending := rfl
@[simp] theorem State.withTime_same : s.withTime s.time = s := rfl
@[simp] theorem State.withTime_twice (x y : TimeBase) : (s.withTime x).withTime y = s.withTime y := rfl

/-! #### withSchedule -/
@[simp] theorem State.withSchedule_time (x : Schedule) : (s.withSchedule x).time = s.time := rfl
@[simp] theorem State.withSchedule_schedule (x : Schedule) : (s.withSchedule x).schedule = x := rfl
@[simp] theorem State.withSchedule_chans (x : Schedule) : (s.withSchedule x).chans = s.chans := rfl
@[simp] theorem State.withSchedule_encoder (x : Schedule) : (s.withSchedule x).encoder = s.encoder := rfl
@[simp] theorem State.withSchedule_ranging (x : Schedule) : (s.withSchedule x).ranging = s.ranging := rfl
@[simp] theorem State.withSchedule_stage (x : Schedule) : (s.withSchedule x).stage = s.stage := rfl
@[simp] theorem State.withSchedule_rating (x : Schedule) : (s.withSchedule x).rating = s.rating := rfl
@[simp] theorem State.withSchedule_record (x : Schedule) : (s.withSchedule x).record = s.record := rfl
@[simp] theorem State.withSchedule_warning (x : Schedule) : (s.withSchedule x).warning = s.warning := rfl
@[simp] theorem State.withSchedule_latch (x : Schedule) : (s.withSchedule x).latch = s.latch := rfl
@[simp] theorem State.withSchedule_cableway (x : Schedule) : (s.withSchedule x).cableway = s.cableway := rfl
@[simp] theorem State.withSchedule_run (x : Schedule) : (s.withSchedule x).run = s.run := rfl
@[simp] theorem State.withSchedule_working (x : Schedule) : (s.withSchedule x).working = s.working := rfl
@[simp] theorem State.withSchedule_permit (x : Schedule) : (s.withSchedule x).permit = s.permit := rfl
@[simp] theorem State.withSchedule_faults (x : Schedule) : (s.withSchedule x).faults = s.faults := rfl
@[simp] theorem State.withSchedule_ports (x : Schedule) : (s.withSchedule x).ports = s.ports := rfl
@[simp] theorem State.withSchedule_resetOrder (x : Schedule) : (s.withSchedule x).resetOrder = s.resetOrder := rfl
@[simp] theorem State.withSchedule_held (x : Schedule) : (s.withSchedule x).held = s.held := rfl
@[simp] theorem State.withSchedule_orders (x : Schedule) : (s.withSchedule x).orders = s.orders := rfl
@[simp] theorem State.withSchedule_due (x : Schedule) : (s.withSchedule x).due = s.due := rfl
@[simp] theorem State.withSchedule_pending (x : Schedule) : (s.withSchedule x).pending = s.pending := rfl
@[simp] theorem State.withSchedule_same : s.withSchedule s.schedule = s := rfl
@[simp] theorem State.withSchedule_twice (x y : Schedule) : (s.withSchedule x).withSchedule y = s.withSchedule y := rfl

/-! #### withChans -/
@[simp] theorem State.withChans_time (x : PerChan Channel) : (s.withChans x).time = s.time := rfl
@[simp] theorem State.withChans_schedule (x : PerChan Channel) : (s.withChans x).schedule = s.schedule := rfl
@[simp] theorem State.withChans_chans (x : PerChan Channel) : (s.withChans x).chans = x := rfl
@[simp] theorem State.withChans_encoder (x : PerChan Channel) : (s.withChans x).encoder = s.encoder := rfl
@[simp] theorem State.withChans_ranging (x : PerChan Channel) : (s.withChans x).ranging = s.ranging := rfl
@[simp] theorem State.withChans_stage (x : PerChan Channel) : (s.withChans x).stage = s.stage := rfl
@[simp] theorem State.withChans_rating (x : PerChan Channel) : (s.withChans x).rating = s.rating := rfl
@[simp] theorem State.withChans_record (x : PerChan Channel) : (s.withChans x).record = s.record := rfl
@[simp] theorem State.withChans_warning (x : PerChan Channel) : (s.withChans x).warning = s.warning := rfl
@[simp] theorem State.withChans_latch (x : PerChan Channel) : (s.withChans x).latch = s.latch := rfl
@[simp] theorem State.withChans_cableway (x : PerChan Channel) : (s.withChans x).cableway = s.cableway := rfl
@[simp] theorem State.withChans_run (x : PerChan Channel) : (s.withChans x).run = s.run := rfl
@[simp] theorem State.withChans_working (x : PerChan Channel) : (s.withChans x).working = s.working := rfl
@[simp] theorem State.withChans_permit (x : PerChan Channel) : (s.withChans x).permit = s.permit := rfl
@[simp] theorem State.withChans_faults (x : PerChan Channel) : (s.withChans x).faults = s.faults := rfl
@[simp] theorem State.withChans_ports (x : PerChan Channel) : (s.withChans x).ports = s.ports := rfl
@[simp] theorem State.withChans_resetOrder (x : PerChan Channel) : (s.withChans x).resetOrder = s.resetOrder := rfl
@[simp] theorem State.withChans_held (x : PerChan Channel) : (s.withChans x).held = s.held := rfl
@[simp] theorem State.withChans_orders (x : PerChan Channel) : (s.withChans x).orders = s.orders := rfl
@[simp] theorem State.withChans_due (x : PerChan Channel) : (s.withChans x).due = s.due := rfl
@[simp] theorem State.withChans_pending (x : PerChan Channel) : (s.withChans x).pending = s.pending := rfl
@[simp] theorem State.withChans_same : s.withChans s.chans = s := rfl
@[simp] theorem State.withChans_twice (x y : PerChan Channel) : (s.withChans x).withChans y = s.withChans y := rfl

/-! #### withEncoder -/
@[simp] theorem State.withEncoder_time (x : EncoderInput) : (s.withEncoder x).time = s.time := rfl
@[simp] theorem State.withEncoder_schedule (x : EncoderInput) : (s.withEncoder x).schedule = s.schedule := rfl
@[simp] theorem State.withEncoder_chans (x : EncoderInput) : (s.withEncoder x).chans = s.chans := rfl
@[simp] theorem State.withEncoder_encoder (x : EncoderInput) : (s.withEncoder x).encoder = x := rfl
@[simp] theorem State.withEncoder_ranging (x : EncoderInput) : (s.withEncoder x).ranging = s.ranging := rfl
@[simp] theorem State.withEncoder_stage (x : EncoderInput) : (s.withEncoder x).stage = s.stage := rfl
@[simp] theorem State.withEncoder_rating (x : EncoderInput) : (s.withEncoder x).rating = s.rating := rfl
@[simp] theorem State.withEncoder_record (x : EncoderInput) : (s.withEncoder x).record = s.record := rfl
@[simp] theorem State.withEncoder_warning (x : EncoderInput) : (s.withEncoder x).warning = s.warning := rfl
@[simp] theorem State.withEncoder_latch (x : EncoderInput) : (s.withEncoder x).latch = s.latch := rfl
@[simp] theorem State.withEncoder_cableway (x : EncoderInput) : (s.withEncoder x).cableway = s.cableway := rfl
@[simp] theorem State.withEncoder_run (x : EncoderInput) : (s.withEncoder x).run = s.run := rfl
@[simp] theorem State.withEncoder_working (x : EncoderInput) : (s.withEncoder x).working = s.working := rfl
@[simp] theorem State.withEncoder_permit (x : EncoderInput) : (s.withEncoder x).permit = s.permit := rfl
@[simp] theorem State.withEncoder_faults (x : EncoderInput) : (s.withEncoder x).faults = s.faults := rfl
@[simp] theorem State.withEncoder_ports (x : EncoderInput) : (s.withEncoder x).ports = s.ports := rfl
@[simp] theorem State.withEncoder_resetOrder (x : EncoderInput) : (s.withEncoder x).resetOrder = s.resetOrder := rfl
@[simp] theorem State.withEncoder_held (x : EncoderInput) : (s.withEncoder x).held = s.held := rfl
@[simp] theorem State.withEncoder_orders (x : EncoderInput) : (s.withEncoder x).orders = s.orders := rfl
@[simp] theorem State.withEncoder_due (x : EncoderInput) : (s.withEncoder x).due = s.due := rfl
@[simp] theorem State.withEncoder_pending (x : EncoderInput) : (s.withEncoder x).pending = s.pending := rfl
@[simp] theorem State.withEncoder_same : s.withEncoder s.encoder = s := rfl
@[simp] theorem State.withEncoder_twice (x y : EncoderInput) : (s.withEncoder x).withEncoder y = s.withEncoder y := rfl

/-! #### withRanging -/
@[simp] theorem State.withRanging_time (x : RangingLine) : (s.withRanging x).time = s.time := rfl
@[simp] theorem State.withRanging_schedule (x : RangingLine) : (s.withRanging x).schedule = s.schedule := rfl
@[simp] theorem State.withRanging_chans (x : RangingLine) : (s.withRanging x).chans = s.chans := rfl
@[simp] theorem State.withRanging_encoder (x : RangingLine) : (s.withRanging x).encoder = s.encoder := rfl
@[simp] theorem State.withRanging_ranging (x : RangingLine) : (s.withRanging x).ranging = x := rfl
@[simp] theorem State.withRanging_stage (x : RangingLine) : (s.withRanging x).stage = s.stage := rfl
@[simp] theorem State.withRanging_rating (x : RangingLine) : (s.withRanging x).rating = s.rating := rfl
@[simp] theorem State.withRanging_record (x : RangingLine) : (s.withRanging x).record = s.record := rfl
@[simp] theorem State.withRanging_warning (x : RangingLine) : (s.withRanging x).warning = s.warning := rfl
@[simp] theorem State.withRanging_latch (x : RangingLine) : (s.withRanging x).latch = s.latch := rfl
@[simp] theorem State.withRanging_cableway (x : RangingLine) : (s.withRanging x).cableway = s.cableway := rfl
@[simp] theorem State.withRanging_run (x : RangingLine) : (s.withRanging x).run = s.run := rfl
@[simp] theorem State.withRanging_working (x : RangingLine) : (s.withRanging x).working = s.working := rfl
@[simp] theorem State.withRanging_permit (x : RangingLine) : (s.withRanging x).permit = s.permit := rfl
@[simp] theorem State.withRanging_faults (x : RangingLine) : (s.withRanging x).faults = s.faults := rfl
@[simp] theorem State.withRanging_ports (x : RangingLine) : (s.withRanging x).ports = s.ports := rfl
@[simp] theorem State.withRanging_resetOrder (x : RangingLine) : (s.withRanging x).resetOrder = s.resetOrder := rfl
@[simp] theorem State.withRanging_held (x : RangingLine) : (s.withRanging x).held = s.held := rfl
@[simp] theorem State.withRanging_orders (x : RangingLine) : (s.withRanging x).orders = s.orders := rfl
@[simp] theorem State.withRanging_due (x : RangingLine) : (s.withRanging x).due = s.due := rfl
@[simp] theorem State.withRanging_pending (x : RangingLine) : (s.withRanging x).pending = s.pending := rfl
@[simp] theorem State.withRanging_same : s.withRanging s.ranging = s := rfl
@[simp] theorem State.withRanging_twice (x y : RangingLine) : (s.withRanging x).withRanging y = s.withRanging y := rfl

/-! #### withStage -/
@[simp] theorem State.withStage_time (x : StageUnit) : (s.withStage x).time = s.time := rfl
@[simp] theorem State.withStage_schedule (x : StageUnit) : (s.withStage x).schedule = s.schedule := rfl
@[simp] theorem State.withStage_chans (x : StageUnit) : (s.withStage x).chans = s.chans := rfl
@[simp] theorem State.withStage_encoder (x : StageUnit) : (s.withStage x).encoder = s.encoder := rfl
@[simp] theorem State.withStage_ranging (x : StageUnit) : (s.withStage x).ranging = s.ranging := rfl
@[simp] theorem State.withStage_stage (x : StageUnit) : (s.withStage x).stage = x := rfl
@[simp] theorem State.withStage_rating (x : StageUnit) : (s.withStage x).rating = s.rating := rfl
@[simp] theorem State.withStage_record (x : StageUnit) : (s.withStage x).record = s.record := rfl
@[simp] theorem State.withStage_warning (x : StageUnit) : (s.withStage x).warning = s.warning := rfl
@[simp] theorem State.withStage_latch (x : StageUnit) : (s.withStage x).latch = s.latch := rfl
@[simp] theorem State.withStage_cableway (x : StageUnit) : (s.withStage x).cableway = s.cableway := rfl
@[simp] theorem State.withStage_run (x : StageUnit) : (s.withStage x).run = s.run := rfl
@[simp] theorem State.withStage_working (x : StageUnit) : (s.withStage x).working = s.working := rfl
@[simp] theorem State.withStage_permit (x : StageUnit) : (s.withStage x).permit = s.permit := rfl
@[simp] theorem State.withStage_faults (x : StageUnit) : (s.withStage x).faults = s.faults := rfl
@[simp] theorem State.withStage_ports (x : StageUnit) : (s.withStage x).ports = s.ports := rfl
@[simp] theorem State.withStage_resetOrder (x : StageUnit) : (s.withStage x).resetOrder = s.resetOrder := rfl
@[simp] theorem State.withStage_held (x : StageUnit) : (s.withStage x).held = s.held := rfl
@[simp] theorem State.withStage_orders (x : StageUnit) : (s.withStage x).orders = s.orders := rfl
@[simp] theorem State.withStage_due (x : StageUnit) : (s.withStage x).due = s.due := rfl
@[simp] theorem State.withStage_pending (x : StageUnit) : (s.withStage x).pending = s.pending := rfl
@[simp] theorem State.withStage_same : s.withStage s.stage = s := rfl
@[simp] theorem State.withStage_twice (x y : StageUnit) : (s.withStage x).withStage y = s.withStage y := rfl

/-! #### withRating -/
@[simp] theorem State.withRating_time (x : Rating) : (s.withRating x).time = s.time := rfl
@[simp] theorem State.withRating_schedule (x : Rating) : (s.withRating x).schedule = s.schedule := rfl
@[simp] theorem State.withRating_chans (x : Rating) : (s.withRating x).chans = s.chans := rfl
@[simp] theorem State.withRating_encoder (x : Rating) : (s.withRating x).encoder = s.encoder := rfl
@[simp] theorem State.withRating_ranging (x : Rating) : (s.withRating x).ranging = s.ranging := rfl
@[simp] theorem State.withRating_stage (x : Rating) : (s.withRating x).stage = s.stage := rfl
@[simp] theorem State.withRating_rating (x : Rating) : (s.withRating x).rating = x := rfl
@[simp] theorem State.withRating_record (x : Rating) : (s.withRating x).record = s.record := rfl
@[simp] theorem State.withRating_warning (x : Rating) : (s.withRating x).warning = s.warning := rfl
@[simp] theorem State.withRating_latch (x : Rating) : (s.withRating x).latch = s.latch := rfl
@[simp] theorem State.withRating_cableway (x : Rating) : (s.withRating x).cableway = s.cableway := rfl
@[simp] theorem State.withRating_run (x : Rating) : (s.withRating x).run = s.run := rfl
@[simp] theorem State.withRating_working (x : Rating) : (s.withRating x).working = s.working := rfl
@[simp] theorem State.withRating_permit (x : Rating) : (s.withRating x).permit = s.permit := rfl
@[simp] theorem State.withRating_faults (x : Rating) : (s.withRating x).faults = s.faults := rfl
@[simp] theorem State.withRating_ports (x : Rating) : (s.withRating x).ports = s.ports := rfl
@[simp] theorem State.withRating_resetOrder (x : Rating) : (s.withRating x).resetOrder = s.resetOrder := rfl
@[simp] theorem State.withRating_held (x : Rating) : (s.withRating x).held = s.held := rfl
@[simp] theorem State.withRating_orders (x : Rating) : (s.withRating x).orders = s.orders := rfl
@[simp] theorem State.withRating_due (x : Rating) : (s.withRating x).due = s.due := rfl
@[simp] theorem State.withRating_pending (x : Rating) : (s.withRating x).pending = s.pending := rfl
@[simp] theorem State.withRating_same : s.withRating s.rating = s := rfl
@[simp] theorem State.withRating_twice (x y : Rating) : (s.withRating x).withRating y = s.withRating y := rfl

/-! #### withRecord -/
@[simp] theorem State.withRecord_time (x : Record) : (s.withRecord x).time = s.time := rfl
@[simp] theorem State.withRecord_schedule (x : Record) : (s.withRecord x).schedule = s.schedule := rfl
@[simp] theorem State.withRecord_chans (x : Record) : (s.withRecord x).chans = s.chans := rfl
@[simp] theorem State.withRecord_encoder (x : Record) : (s.withRecord x).encoder = s.encoder := rfl
@[simp] theorem State.withRecord_ranging (x : Record) : (s.withRecord x).ranging = s.ranging := rfl
@[simp] theorem State.withRecord_stage (x : Record) : (s.withRecord x).stage = s.stage := rfl
@[simp] theorem State.withRecord_rating (x : Record) : (s.withRecord x).rating = s.rating := rfl
@[simp] theorem State.withRecord_record (x : Record) : (s.withRecord x).record = x := rfl
@[simp] theorem State.withRecord_warning (x : Record) : (s.withRecord x).warning = s.warning := rfl
@[simp] theorem State.withRecord_latch (x : Record) : (s.withRecord x).latch = s.latch := rfl
@[simp] theorem State.withRecord_cableway (x : Record) : (s.withRecord x).cableway = s.cableway := rfl
@[simp] theorem State.withRecord_run (x : Record) : (s.withRecord x).run = s.run := rfl
@[simp] theorem State.withRecord_working (x : Record) : (s.withRecord x).working = s.working := rfl
@[simp] theorem State.withRecord_permit (x : Record) : (s.withRecord x).permit = s.permit := rfl
@[simp] theorem State.withRecord_faults (x : Record) : (s.withRecord x).faults = s.faults := rfl
@[simp] theorem State.withRecord_ports (x : Record) : (s.withRecord x).ports = s.ports := rfl
@[simp] theorem State.withRecord_resetOrder (x : Record) : (s.withRecord x).resetOrder = s.resetOrder := rfl
@[simp] theorem State.withRecord_held (x : Record) : (s.withRecord x).held = s.held := rfl
@[simp] theorem State.withRecord_orders (x : Record) : (s.withRecord x).orders = s.orders := rfl
@[simp] theorem State.withRecord_due (x : Record) : (s.withRecord x).due = s.due := rfl
@[simp] theorem State.withRecord_pending (x : Record) : (s.withRecord x).pending = s.pending := rfl
@[simp] theorem State.withRecord_same : s.withRecord s.record = s := rfl
@[simp] theorem State.withRecord_twice (x y : Record) : (s.withRecord x).withRecord y = s.withRecord y := rfl

/-! #### withWarning -/
@[simp] theorem State.withWarning_time (x : Warning) : (s.withWarning x).time = s.time := rfl
@[simp] theorem State.withWarning_schedule (x : Warning) : (s.withWarning x).schedule = s.schedule := rfl
@[simp] theorem State.withWarning_chans (x : Warning) : (s.withWarning x).chans = s.chans := rfl
@[simp] theorem State.withWarning_encoder (x : Warning) : (s.withWarning x).encoder = s.encoder := rfl
@[simp] theorem State.withWarning_ranging (x : Warning) : (s.withWarning x).ranging = s.ranging := rfl
@[simp] theorem State.withWarning_stage (x : Warning) : (s.withWarning x).stage = s.stage := rfl
@[simp] theorem State.withWarning_rating (x : Warning) : (s.withWarning x).rating = s.rating := rfl
@[simp] theorem State.withWarning_record (x : Warning) : (s.withWarning x).record = s.record := rfl
@[simp] theorem State.withWarning_warning (x : Warning) : (s.withWarning x).warning = x := rfl
@[simp] theorem State.withWarning_latch (x : Warning) : (s.withWarning x).latch = s.latch := rfl
@[simp] theorem State.withWarning_cableway (x : Warning) : (s.withWarning x).cableway = s.cableway := rfl
@[simp] theorem State.withWarning_run (x : Warning) : (s.withWarning x).run = s.run := rfl
@[simp] theorem State.withWarning_working (x : Warning) : (s.withWarning x).working = s.working := rfl
@[simp] theorem State.withWarning_permit (x : Warning) : (s.withWarning x).permit = s.permit := rfl
@[simp] theorem State.withWarning_faults (x : Warning) : (s.withWarning x).faults = s.faults := rfl
@[simp] theorem State.withWarning_ports (x : Warning) : (s.withWarning x).ports = s.ports := rfl
@[simp] theorem State.withWarning_resetOrder (x : Warning) : (s.withWarning x).resetOrder = s.resetOrder := rfl
@[simp] theorem State.withWarning_held (x : Warning) : (s.withWarning x).held = s.held := rfl
@[simp] theorem State.withWarning_orders (x : Warning) : (s.withWarning x).orders = s.orders := rfl
@[simp] theorem State.withWarning_due (x : Warning) : (s.withWarning x).due = s.due := rfl
@[simp] theorem State.withWarning_pending (x : Warning) : (s.withWarning x).pending = s.pending := rfl
@[simp] theorem State.withWarning_same : s.withWarning s.warning = s := rfl
@[simp] theorem State.withWarning_twice (x y : Warning) : (s.withWarning x).withWarning y = s.withWarning y := rfl

/-! #### withLatch -/
@[simp] theorem State.withLatch_time (x : DisplayLatch) : (s.withLatch x).time = s.time := rfl
@[simp] theorem State.withLatch_schedule (x : DisplayLatch) : (s.withLatch x).schedule = s.schedule := rfl
@[simp] theorem State.withLatch_chans (x : DisplayLatch) : (s.withLatch x).chans = s.chans := rfl
@[simp] theorem State.withLatch_encoder (x : DisplayLatch) : (s.withLatch x).encoder = s.encoder := rfl
@[simp] theorem State.withLatch_ranging (x : DisplayLatch) : (s.withLatch x).ranging = s.ranging := rfl
@[simp] theorem State.withLatch_stage (x : DisplayLatch) : (s.withLatch x).stage = s.stage := rfl
@[simp] theorem State.withLatch_rating (x : DisplayLatch) : (s.withLatch x).rating = s.rating := rfl
@[simp] theorem State.withLatch_record (x : DisplayLatch) : (s.withLatch x).record = s.record := rfl
@[simp] theorem State.withLatch_warning (x : DisplayLatch) : (s.withLatch x).warning = s.warning := rfl
@[simp] theorem State.withLatch_latch (x : DisplayLatch) : (s.withLatch x).latch = x := rfl
@[simp] theorem State.withLatch_cableway (x : DisplayLatch) : (s.withLatch x).cableway = s.cableway := rfl
@[simp] theorem State.withLatch_run (x : DisplayLatch) : (s.withLatch x).run = s.run := rfl
@[simp] theorem State.withLatch_working (x : DisplayLatch) : (s.withLatch x).working = s.working := rfl
@[simp] theorem State.withLatch_permit (x : DisplayLatch) : (s.withLatch x).permit = s.permit := rfl
@[simp] theorem State.withLatch_faults (x : DisplayLatch) : (s.withLatch x).faults = s.faults := rfl
@[simp] theorem State.withLatch_ports (x : DisplayLatch) : (s.withLatch x).ports = s.ports := rfl
@[simp] theorem State.withLatch_resetOrder (x : DisplayLatch) : (s.withLatch x).resetOrder = s.resetOrder := rfl
@[simp] theorem State.withLatch_held (x : DisplayLatch) : (s.withLatch x).held = s.held := rfl
@[simp] theorem State.withLatch_orders (x : DisplayLatch) : (s.withLatch x).orders = s.orders := rfl
@[simp] theorem State.withLatch_due (x : DisplayLatch) : (s.withLatch x).due = s.due := rfl
@[simp] theorem State.withLatch_pending (x : DisplayLatch) : (s.withLatch x).pending = s.pending := rfl
@[simp] theorem State.withLatch_same : s.withLatch s.latch = s := rfl
@[simp] theorem State.withLatch_twice (x y : DisplayLatch) : (s.withLatch x).withLatch y = s.withLatch y := rfl

/-! #### withCableway -/
@[simp] theorem State.withCableway_time (x : Cableway) : (s.withCableway x).time = s.time := rfl
@[simp] theorem State.withCableway_schedule (x : Cableway) : (s.withCableway x).schedule = s.schedule := rfl
@[simp] theorem State.withCableway_chans (x : Cableway) : (s.withCableway x).chans = s.chans := rfl
@[simp] theorem State.withCableway_encoder (x : Cableway) : (s.withCableway x).encoder = s.encoder := rfl
@[simp] theorem State.withCableway_ranging (x : Cableway) : (s.withCableway x).ranging = s.ranging := rfl
@[simp] theorem State.withCableway_stage (x : Cableway) : (s.withCableway x).stage = s.stage := rfl
@[simp] theorem State.withCableway_rating (x : Cableway) : (s.withCableway x).rating = s.rating := rfl
@[simp] theorem State.withCableway_record (x : Cableway) : (s.withCableway x).record = s.record := rfl
@[simp] theorem State.withCableway_warning (x : Cableway) : (s.withCableway x).warning = s.warning := rfl
@[simp] theorem State.withCableway_latch (x : Cableway) : (s.withCableway x).latch = s.latch := rfl
@[simp] theorem State.withCableway_cableway (x : Cableway) : (s.withCableway x).cableway = x := rfl
@[simp] theorem State.withCableway_run (x : Cableway) : (s.withCableway x).run = s.run := rfl
@[simp] theorem State.withCableway_working (x : Cableway) : (s.withCableway x).working = s.working := rfl
@[simp] theorem State.withCableway_permit (x : Cableway) : (s.withCableway x).permit = s.permit := rfl
@[simp] theorem State.withCableway_faults (x : Cableway) : (s.withCableway x).faults = s.faults := rfl
@[simp] theorem State.withCableway_ports (x : Cableway) : (s.withCableway x).ports = s.ports := rfl
@[simp] theorem State.withCableway_resetOrder (x : Cableway) : (s.withCableway x).resetOrder = s.resetOrder := rfl
@[simp] theorem State.withCableway_held (x : Cableway) : (s.withCableway x).held = s.held := rfl
@[simp] theorem State.withCableway_orders (x : Cableway) : (s.withCableway x).orders = s.orders := rfl
@[simp] theorem State.withCableway_due (x : Cableway) : (s.withCableway x).due = s.due := rfl
@[simp] theorem State.withCableway_pending (x : Cableway) : (s.withCableway x).pending = s.pending := rfl
@[simp] theorem State.withCableway_same : s.withCableway s.cableway = s := rfl
@[simp] theorem State.withCableway_twice (x y : Cableway) : (s.withCableway x).withCableway y = s.withCableway y := rfl

/-! #### withRun -/
@[simp] theorem State.withRun_time (x : RunRecord) : (s.withRun x).time = s.time := rfl
@[simp] theorem State.withRun_schedule (x : RunRecord) : (s.withRun x).schedule = s.schedule := rfl
@[simp] theorem State.withRun_chans (x : RunRecord) : (s.withRun x).chans = s.chans := rfl
@[simp] theorem State.withRun_encoder (x : RunRecord) : (s.withRun x).encoder = s.encoder := rfl
@[simp] theorem State.withRun_ranging (x : RunRecord) : (s.withRun x).ranging = s.ranging := rfl
@[simp] theorem State.withRun_stage (x : RunRecord) : (s.withRun x).stage = s.stage := rfl
@[simp] theorem State.withRun_rating (x : RunRecord) : (s.withRun x).rating = s.rating := rfl
@[simp] theorem State.withRun_record (x : RunRecord) : (s.withRun x).record = s.record := rfl
@[simp] theorem State.withRun_warning (x : RunRecord) : (s.withRun x).warning = s.warning := rfl
@[simp] theorem State.withRun_latch (x : RunRecord) : (s.withRun x).latch = s.latch := rfl
@[simp] theorem State.withRun_cableway (x : RunRecord) : (s.withRun x).cableway = s.cableway := rfl
@[simp] theorem State.withRun_run (x : RunRecord) : (s.withRun x).run = x := rfl
@[simp] theorem State.withRun_working (x : RunRecord) : (s.withRun x).working = s.working := rfl
@[simp] theorem State.withRun_permit (x : RunRecord) : (s.withRun x).permit = s.permit := rfl
@[simp] theorem State.withRun_faults (x : RunRecord) : (s.withRun x).faults = s.faults := rfl
@[simp] theorem State.withRun_ports (x : RunRecord) : (s.withRun x).ports = s.ports := rfl
@[simp] theorem State.withRun_resetOrder (x : RunRecord) : (s.withRun x).resetOrder = s.resetOrder := rfl
@[simp] theorem State.withRun_held (x : RunRecord) : (s.withRun x).held = s.held := rfl
@[simp] theorem State.withRun_orders (x : RunRecord) : (s.withRun x).orders = s.orders := rfl
@[simp] theorem State.withRun_due (x : RunRecord) : (s.withRun x).due = s.due := rfl
@[simp] theorem State.withRun_pending (x : RunRecord) : (s.withRun x).pending = s.pending := rfl
@[simp] theorem State.withRun_same : s.withRun s.run = s := rfl
@[simp] theorem State.withRun_twice (x y : RunRecord) : (s.withRun x).withRun y = s.withRun y := rfl

/-! #### withWorking -/
@[simp] theorem State.withWorking_time (x : Working) : (s.withWorking x).time = s.time := rfl
@[simp] theorem State.withWorking_schedule (x : Working) : (s.withWorking x).schedule = s.schedule := rfl
@[simp] theorem State.withWorking_chans (x : Working) : (s.withWorking x).chans = s.chans := rfl
@[simp] theorem State.withWorking_encoder (x : Working) : (s.withWorking x).encoder = s.encoder := rfl
@[simp] theorem State.withWorking_ranging (x : Working) : (s.withWorking x).ranging = s.ranging := rfl
@[simp] theorem State.withWorking_stage (x : Working) : (s.withWorking x).stage = s.stage := rfl
@[simp] theorem State.withWorking_rating (x : Working) : (s.withWorking x).rating = s.rating := rfl
@[simp] theorem State.withWorking_record (x : Working) : (s.withWorking x).record = s.record := rfl
@[simp] theorem State.withWorking_warning (x : Working) : (s.withWorking x).warning = s.warning := rfl
@[simp] theorem State.withWorking_latch (x : Working) : (s.withWorking x).latch = s.latch := rfl
@[simp] theorem State.withWorking_cableway (x : Working) : (s.withWorking x).cableway = s.cableway := rfl
@[simp] theorem State.withWorking_run (x : Working) : (s.withWorking x).run = s.run := rfl
@[simp] theorem State.withWorking_working (x : Working) : (s.withWorking x).working = x := rfl
@[simp] theorem State.withWorking_permit (x : Working) : (s.withWorking x).permit = s.permit := rfl
@[simp] theorem State.withWorking_faults (x : Working) : (s.withWorking x).faults = s.faults := rfl
@[simp] theorem State.withWorking_ports (x : Working) : (s.withWorking x).ports = s.ports := rfl
@[simp] theorem State.withWorking_resetOrder (x : Working) : (s.withWorking x).resetOrder = s.resetOrder := rfl
@[simp] theorem State.withWorking_held (x : Working) : (s.withWorking x).held = s.held := rfl
@[simp] theorem State.withWorking_orders (x : Working) : (s.withWorking x).orders = s.orders := rfl
@[simp] theorem State.withWorking_due (x : Working) : (s.withWorking x).due = s.due := rfl
@[simp] theorem State.withWorking_pending (x : Working) : (s.withWorking x).pending = s.pending := rfl
@[simp] theorem State.withWorking_same : s.withWorking s.working = s := rfl
@[simp] theorem State.withWorking_twice (x y : Working) : (s.withWorking x).withWorking y = s.withWorking y := rfl

/-! #### withPermit -/
@[simp] theorem State.withPermit_time (x : Permit) : (s.withPermit x).time = s.time := rfl
@[simp] theorem State.withPermit_schedule (x : Permit) : (s.withPermit x).schedule = s.schedule := rfl
@[simp] theorem State.withPermit_chans (x : Permit) : (s.withPermit x).chans = s.chans := rfl
@[simp] theorem State.withPermit_encoder (x : Permit) : (s.withPermit x).encoder = s.encoder := rfl
@[simp] theorem State.withPermit_ranging (x : Permit) : (s.withPermit x).ranging = s.ranging := rfl
@[simp] theorem State.withPermit_stage (x : Permit) : (s.withPermit x).stage = s.stage := rfl
@[simp] theorem State.withPermit_rating (x : Permit) : (s.withPermit x).rating = s.rating := rfl
@[simp] theorem State.withPermit_record (x : Permit) : (s.withPermit x).record = s.record := rfl
@[simp] theorem State.withPermit_warning (x : Permit) : (s.withPermit x).warning = s.warning := rfl
@[simp] theorem State.withPermit_latch (x : Permit) : (s.withPermit x).latch = s.latch := rfl
@[simp] theorem State.withPermit_cableway (x : Permit) : (s.withPermit x).cableway = s.cableway := rfl
@[simp] theorem State.withPermit_run (x : Permit) : (s.withPermit x).run = s.run := rfl
@[simp] theorem State.withPermit_working (x : Permit) : (s.withPermit x).working = s.working := rfl
@[simp] theorem State.withPermit_permit (x : Permit) : (s.withPermit x).permit = x := rfl
@[simp] theorem State.withPermit_faults (x : Permit) : (s.withPermit x).faults = s.faults := rfl
@[simp] theorem State.withPermit_ports (x : Permit) : (s.withPermit x).ports = s.ports := rfl
@[simp] theorem State.withPermit_resetOrder (x : Permit) : (s.withPermit x).resetOrder = s.resetOrder := rfl
@[simp] theorem State.withPermit_held (x : Permit) : (s.withPermit x).held = s.held := rfl
@[simp] theorem State.withPermit_orders (x : Permit) : (s.withPermit x).orders = s.orders := rfl
@[simp] theorem State.withPermit_due (x : Permit) : (s.withPermit x).due = s.due := rfl
@[simp] theorem State.withPermit_pending (x : Permit) : (s.withPermit x).pending = s.pending := rfl
@[simp] theorem State.withPermit_same : s.withPermit s.permit = s := rfl
@[simp] theorem State.withPermit_twice (x y : Permit) : (s.withPermit x).withPermit y = s.withPermit y := rfl

/-! #### withFaults -/
@[simp] theorem State.withFaults_time (x : FaultUnit) : (s.withFaults x).time = s.time := rfl
@[simp] theorem State.withFaults_schedule (x : FaultUnit) : (s.withFaults x).schedule = s.schedule := rfl
@[simp] theorem State.withFaults_chans (x : FaultUnit) : (s.withFaults x).chans = s.chans := rfl
@[simp] theorem State.withFaults_encoder (x : FaultUnit) : (s.withFaults x).encoder = s.encoder := rfl
@[simp] theorem State.withFaults_ranging (x : FaultUnit) : (s.withFaults x).ranging = s.ranging := rfl
@[simp] theorem State.withFaults_stage (x : FaultUnit) : (s.withFaults x).stage = s.stage := rfl
@[simp] theorem State.withFaults_rating (x : FaultUnit) : (s.withFaults x).rating = s.rating := rfl
@[simp] theorem State.withFaults_record (x : FaultUnit) : (s.withFaults x).record = s.record := rfl
@[simp] theorem State.withFaults_warning (x : FaultUnit) : (s.withFaults x).warning = s.warning := rfl
@[simp] theorem State.withFaults_latch (x : FaultUnit) : (s.withFaults x).latch = s.latch := rfl
@[simp] theorem State.withFaults_cableway (x : FaultUnit) : (s.withFaults x).cableway = s.cableway := rfl
@[simp] theorem State.withFaults_run (x : FaultUnit) : (s.withFaults x).run = s.run := rfl
@[simp] theorem State.withFaults_working (x : FaultUnit) : (s.withFaults x).working = s.working := rfl
@[simp] theorem State.withFaults_permit (x : FaultUnit) : (s.withFaults x).permit = s.permit := rfl
@[simp] theorem State.withFaults_faults (x : FaultUnit) : (s.withFaults x).faults = x := rfl
@[simp] theorem State.withFaults_ports (x : FaultUnit) : (s.withFaults x).ports = s.ports := rfl
@[simp] theorem State.withFaults_resetOrder (x : FaultUnit) : (s.withFaults x).resetOrder = s.resetOrder := rfl
@[simp] theorem State.withFaults_held (x : FaultUnit) : (s.withFaults x).held = s.held := rfl
@[simp] theorem State.withFaults_orders (x : FaultUnit) : (s.withFaults x).orders = s.orders := rfl
@[simp] theorem State.withFaults_due (x : FaultUnit) : (s.withFaults x).due = s.due := rfl
@[simp] theorem State.withFaults_pending (x : FaultUnit) : (s.withFaults x).pending = s.pending := rfl
@[simp] theorem State.withFaults_same : s.withFaults s.faults = s := rfl
@[simp] theorem State.withFaults_twice (x y : FaultUnit) : (s.withFaults x).withFaults y = s.withFaults y := rfl

/-! #### withPorts -/
@[simp] theorem State.withPorts_time (x : PerPort PortUnit) : (s.withPorts x).time = s.time := rfl
@[simp] theorem State.withPorts_schedule (x : PerPort PortUnit) : (s.withPorts x).schedule = s.schedule := rfl
@[simp] theorem State.withPorts_chans (x : PerPort PortUnit) : (s.withPorts x).chans = s.chans := rfl
@[simp] theorem State.withPorts_encoder (x : PerPort PortUnit) : (s.withPorts x).encoder = s.encoder := rfl
@[simp] theorem State.withPorts_ranging (x : PerPort PortUnit) : (s.withPorts x).ranging = s.ranging := rfl
@[simp] theorem State.withPorts_stage (x : PerPort PortUnit) : (s.withPorts x).stage = s.stage := rfl
@[simp] theorem State.withPorts_rating (x : PerPort PortUnit) : (s.withPorts x).rating = s.rating := rfl
@[simp] theorem State.withPorts_record (x : PerPort PortUnit) : (s.withPorts x).record = s.record := rfl
@[simp] theorem State.withPorts_warning (x : PerPort PortUnit) : (s.withPorts x).warning = s.warning := rfl
@[simp] theorem State.withPorts_latch (x : PerPort PortUnit) : (s.withPorts x).latch = s.latch := rfl
@[simp] theorem State.withPorts_cableway (x : PerPort PortUnit) : (s.withPorts x).cableway = s.cableway := rfl
@[simp] theorem State.withPorts_run (x : PerPort PortUnit) : (s.withPorts x).run = s.run := rfl
@[simp] theorem State.withPorts_working (x : PerPort PortUnit) : (s.withPorts x).working = s.working := rfl
@[simp] theorem State.withPorts_permit (x : PerPort PortUnit) : (s.withPorts x).permit = s.permit := rfl
@[simp] theorem State.withPorts_faults (x : PerPort PortUnit) : (s.withPorts x).faults = s.faults := rfl
@[simp] theorem State.withPorts_ports (x : PerPort PortUnit) : (s.withPorts x).ports = x := rfl
@[simp] theorem State.withPorts_resetOrder (x : PerPort PortUnit) : (s.withPorts x).resetOrder = s.resetOrder := rfl
@[simp] theorem State.withPorts_held (x : PerPort PortUnit) : (s.withPorts x).held = s.held := rfl
@[simp] theorem State.withPorts_orders (x : PerPort PortUnit) : (s.withPorts x).orders = s.orders := rfl
@[simp] theorem State.withPorts_due (x : PerPort PortUnit) : (s.withPorts x).due = s.due := rfl
@[simp] theorem State.withPorts_pending (x : PerPort PortUnit) : (s.withPorts x).pending = s.pending := rfl
@[simp] theorem State.withPorts_same : s.withPorts s.ports = s := rfl
@[simp] theorem State.withPorts_twice (x y : PerPort PortUnit) : (s.withPorts x).withPorts y = s.withPorts y := rfl

/-! #### withResetOrder -/
@[simp] theorem State.withResetOrder_time (x : Option U32) : (s.withResetOrder x).time = s.time := rfl
@[simp] theorem State.withResetOrder_schedule (x : Option U32) : (s.withResetOrder x).schedule = s.schedule := rfl
@[simp] theorem State.withResetOrder_chans (x : Option U32) : (s.withResetOrder x).chans = s.chans := rfl
@[simp] theorem State.withResetOrder_encoder (x : Option U32) : (s.withResetOrder x).encoder = s.encoder := rfl
@[simp] theorem State.withResetOrder_ranging (x : Option U32) : (s.withResetOrder x).ranging = s.ranging := rfl
@[simp] theorem State.withResetOrder_stage (x : Option U32) : (s.withResetOrder x).stage = s.stage := rfl
@[simp] theorem State.withResetOrder_rating (x : Option U32) : (s.withResetOrder x).rating = s.rating := rfl
@[simp] theorem State.withResetOrder_record (x : Option U32) : (s.withResetOrder x).record = s.record := rfl
@[simp] theorem State.withResetOrder_warning (x : Option U32) : (s.withResetOrder x).warning = s.warning := rfl
@[simp] theorem State.withResetOrder_latch (x : Option U32) : (s.withResetOrder x).latch = s.latch := rfl
@[simp] theorem State.withResetOrder_cableway (x : Option U32) : (s.withResetOrder x).cableway = s.cableway := rfl
@[simp] theorem State.withResetOrder_run (x : Option U32) : (s.withResetOrder x).run = s.run := rfl
@[simp] theorem State.withResetOrder_working (x : Option U32) : (s.withResetOrder x).working = s.working := rfl
@[simp] theorem State.withResetOrder_permit (x : Option U32) : (s.withResetOrder x).permit = s.permit := rfl
@[simp] theorem State.withResetOrder_faults (x : Option U32) : (s.withResetOrder x).faults = s.faults := rfl
@[simp] theorem State.withResetOrder_ports (x : Option U32) : (s.withResetOrder x).ports = s.ports := rfl
@[simp] theorem State.withResetOrder_resetOrder (x : Option U32) : (s.withResetOrder x).resetOrder = x := rfl
@[simp] theorem State.withResetOrder_held (x : Option U32) : (s.withResetOrder x).held = s.held := rfl
@[simp] theorem State.withResetOrder_orders (x : Option U32) : (s.withResetOrder x).orders = s.orders := rfl
@[simp] theorem State.withResetOrder_due (x : Option U32) : (s.withResetOrder x).due = s.due := rfl
@[simp] theorem State.withResetOrder_pending (x : Option U32) : (s.withResetOrder x).pending = s.pending := rfl
@[simp] theorem State.withResetOrder_same : s.withResetOrder s.resetOrder = s := rfl
@[simp] theorem State.withResetOrder_twice (x y : Option U32) : (s.withResetOrder x).withResetOrder y = s.withResetOrder y := rfl

/-! #### withHeld -/
@[simp] theorem State.withHeld_time (x : Option ResetSource) : (s.withHeld x).time = s.time := rfl
@[simp] theorem State.withHeld_schedule (x : Option ResetSource) : (s.withHeld x).schedule = s.schedule := rfl
@[simp] theorem State.withHeld_chans (x : Option ResetSource) : (s.withHeld x).chans = s.chans := rfl
@[simp] theorem State.withHeld_encoder (x : Option ResetSource) : (s.withHeld x).encoder = s.encoder := rfl
@[simp] theorem State.withHeld_ranging (x : Option ResetSource) : (s.withHeld x).ranging = s.ranging := rfl
@[simp] theorem State.withHeld_stage (x : Option ResetSource) : (s.withHeld x).stage = s.stage := rfl
@[simp] theorem State.withHeld_rating (x : Option ResetSource) : (s.withHeld x).rating = s.rating := rfl
@[simp] theorem State.withHeld_record (x : Option ResetSource) : (s.withHeld x).record = s.record := rfl
@[simp] theorem State.withHeld_warning (x : Option ResetSource) : (s.withHeld x).warning = s.warning := rfl
@[simp] theorem State.withHeld_latch (x : Option ResetSource) : (s.withHeld x).latch = s.latch := rfl
@[simp] theorem State.withHeld_cableway (x : Option ResetSource) : (s.withHeld x).cableway = s.cableway := rfl
@[simp] theorem State.withHeld_run (x : Option ResetSource) : (s.withHeld x).run = s.run := rfl
@[simp] theorem State.withHeld_working (x : Option ResetSource) : (s.withHeld x).working = s.working := rfl
@[simp] theorem State.withHeld_permit (x : Option ResetSource) : (s.withHeld x).permit = s.permit := rfl
@[simp] theorem State.withHeld_faults (x : Option ResetSource) : (s.withHeld x).faults = s.faults := rfl
@[simp] theorem State.withHeld_ports (x : Option ResetSource) : (s.withHeld x).ports = s.ports := rfl
@[simp] theorem State.withHeld_resetOrder (x : Option ResetSource) : (s.withHeld x).resetOrder = s.resetOrder := rfl
@[simp] theorem State.withHeld_held (x : Option ResetSource) : (s.withHeld x).held = x := rfl
@[simp] theorem State.withHeld_orders (x : Option ResetSource) : (s.withHeld x).orders = s.orders := rfl
@[simp] theorem State.withHeld_due (x : Option ResetSource) : (s.withHeld x).due = s.due := rfl
@[simp] theorem State.withHeld_pending (x : Option ResetSource) : (s.withHeld x).pending = s.pending := rfl
@[simp] theorem State.withHeld_same : s.withHeld s.held = s := rfl
@[simp] theorem State.withHeld_twice (x y : Option ResetSource) : (s.withHeld x).withHeld y = s.withHeld y := rfl

/-! #### withDue -/
@[simp] theorem State.withDue_time (x : List Work) : (s.withDue x).time = s.time := rfl
@[simp] theorem State.withDue_schedule (x : List Work) : (s.withDue x).schedule = s.schedule := rfl
@[simp] theorem State.withDue_chans (x : List Work) : (s.withDue x).chans = s.chans := rfl
@[simp] theorem State.withDue_encoder (x : List Work) : (s.withDue x).encoder = s.encoder := rfl
@[simp] theorem State.withDue_ranging (x : List Work) : (s.withDue x).ranging = s.ranging := rfl
@[simp] theorem State.withDue_stage (x : List Work) : (s.withDue x).stage = s.stage := rfl
@[simp] theorem State.withDue_rating (x : List Work) : (s.withDue x).rating = s.rating := rfl
@[simp] theorem State.withDue_record (x : List Work) : (s.withDue x).record = s.record := rfl
@[simp] theorem State.withDue_warning (x : List Work) : (s.withDue x).warning = s.warning := rfl
@[simp] theorem State.withDue_latch (x : List Work) : (s.withDue x).latch = s.latch := rfl
@[simp] theorem State.withDue_cableway (x : List Work) : (s.withDue x).cableway = s.cableway := rfl
@[simp] theorem State.withDue_run (x : List Work) : (s.withDue x).run = s.run := rfl
@[simp] theorem State.withDue_working (x : List Work) : (s.withDue x).working = s.working := rfl
@[simp] theorem State.withDue_permit (x : List Work) : (s.withDue x).permit = s.permit := rfl
@[simp] theorem State.withDue_faults (x : List Work) : (s.withDue x).faults = s.faults := rfl
@[simp] theorem State.withDue_ports (x : List Work) : (s.withDue x).ports = s.ports := rfl
@[simp] theorem State.withDue_resetOrder (x : List Work) : (s.withDue x).resetOrder = s.resetOrder := rfl
@[simp] theorem State.withDue_held (x : List Work) : (s.withDue x).held = s.held := rfl
@[simp] theorem State.withDue_orders (x : List Work) : (s.withDue x).orders = s.orders := rfl
@[simp] theorem State.withDue_due (x : List Work) : (s.withDue x).due = x := rfl
@[simp] theorem State.withDue_pending (x : List Work) : (s.withDue x).pending = s.pending := rfl
@[simp] theorem State.withDue_same : s.withDue s.due = s := rfl
@[simp] theorem State.withDue_twice (x y : List Work) : (s.withDue x).withDue y = s.withDue y := rfl

/-! #### withPending -/
@[simp] theorem State.withPending_time (x : List Instr) : (s.withPending x).time = s.time := rfl
@[simp] theorem State.withPending_schedule (x : List Instr) : (s.withPending x).schedule = s.schedule := rfl
@[simp] theorem State.withPending_chans (x : List Instr) : (s.withPending x).chans = s.chans := rfl
@[simp] theorem State.withPending_encoder (x : List Instr) : (s.withPending x).encoder = s.encoder := rfl
@[simp] theorem State.withPending_ranging (x : List Instr) : (s.withPending x).ranging = s.ranging := rfl
@[simp] theorem State.withPending_stage (x : List Instr) : (s.withPending x).stage = s.stage := rfl
@[simp] theorem State.withPending_rating (x : List Instr) : (s.withPending x).rating = s.rating := rfl
@[simp] theorem State.withPending_record (x : List Instr) : (s.withPending x).record = s.record := rfl
@[simp] theorem State.withPending_warning (x : List Instr) : (s.withPending x).warning = s.warning := rfl
@[simp] theorem State.withPending_latch (x : List Instr) : (s.withPending x).latch = s.latch := rfl
@[simp] theorem State.withPending_cableway (x : List Instr) : (s.withPending x).cableway = s.cableway := rfl
@[simp] theorem State.withPending_run (x : List Instr) : (s.withPending x).run = s.run := rfl
@[simp] theorem State.withPending_working (x : List Instr) : (s.withPending x).working = s.working := rfl
@[simp] theorem State.withPending_permit (x : List Instr) : (s.withPending x).permit = s.permit := rfl
@[simp] theorem State.withPending_faults (x : List Instr) : (s.withPending x).faults = s.faults := rfl
@[simp] theorem State.withPending_ports (x : List Instr) : (s.withPending x).ports = s.ports := rfl
@[simp] theorem State.withPending_resetOrder (x : List Instr) : (s.withPending x).resetOrder = s.resetOrder := rfl
@[simp] theorem State.withPending_held (x : List Instr) : (s.withPending x).held = s.held := rfl
@[simp] theorem State.withPending_orders (x : List Instr) : (s.withPending x).orders = s.orders := rfl
@[simp] theorem State.withPending_due (x : List Instr) : (s.withPending x).due = s.due := rfl
@[simp] theorem State.withPending_pending (x : List Instr) : (s.withPending x).pending = x := rfl
@[simp] theorem State.withPending_same : s.withPending s.pending = s := rfl
@[simp] theorem State.withPending_twice (x y : List Instr) : (s.withPending x).withPending y = s.withPending y := rfl

end Sys2Proof.Machine
end

