-- ==== Sys2Proof/Laws/Settle.lean ====
section
/-! SUPPORT. What making a step whole leaves alone: no hand-on but a stage update touches `State.kept`. -/

namespace Sys2Proof.Machine

section Kept

variable (s : State)

@[simp] theorem kept_withRecord (x : Record) : (s.withRecord x).kept = s.kept := rfl
@[simp] theorem kept_withDue (x : List Work) : (s.withDue x).kept = s.kept := rfl
@[simp] theorem kept_withWorking (x : Working) : (s.withWorking x).kept = s.kept := rfl
@[simp] theorem kept_owe (w : List Work) : (s.owe w).kept = s.kept := rfl

theorem PerPort.map_map {α β γ : Type} (f : Port → α → β) (g : Port → β → γ) (x : PerPort α) :
    (x.map f).map g = x.map fun p v => g p (f p v) := rfl

/-- Changing events and permit copies alone is not seen in what is kept. -/
theorem kept_withPorts (f : Port → PortUnit → PortUnit)
    (h : ∀ p u, { f p u with events := .none, permitCopy := none }
      = { u with events := .none, permitCopy := none }) :
    (s.withPorts (s.ports.map f)).kept = s.kept := by
  simp only [State.kept, State.withPorts, PerPort.map, h]

@[simp] theorem kept_raiseEvent (e : Event) : (raiseEvent e s).kept = s.kept :=
  kept_withPorts s _ fun p u => by by_cases h : receives e p <;> simp [h]

@[simp] theorem kept_raisePermit (r : PermitRecord) : (raisePermit r s).kept = s.kept :=
  kept_withPorts s _ fun p u => by by_cases h : receives .permit p <;> simp [h]

@[simp] theorem kept_syncRecord : (syncRecord s).kept = s.kept := rfl

@[simp] theorem kept_raiseFaultEvents (fs : List StationFault) :
    (raiseFaultEvents fs s).kept = s.kept :=
  kept_withPorts s _ fun p u => by
    by_cases h : (fs.any fun f => admits (s.faults.thresholds.get p) (faultSeverity f)) <;> simp [h]

theorem takeReports_thresholds (time : U32) (rs : List Report) :
    ∀ f, (takeReports time f rs).thresholds = f.thresholds := by
  induction rs with
  | nil => intro f; rfl
  | cons r rs ih => intro f; exact ih (takeReport time f r)

@[simp] theorem kept_takeReports (rs : List Report) :
    (s.withFaults (takeReports s.time.station s.faults rs)).kept = s.kept := by
  simp [State.kept, State.withFaults, takeReports_thresholds]

@[simp] theorem kept_takeBatch (rs : List Report) : (takeBatch rs s).kept = s.kept := by
  simp only [takeBatch]
  split <;> simp

@[simp] theorem kept_discardSteps (n : Nat) : ∀ s, (discardSteps n s).kept = s.kept := by
  induction n with
  | zero => intro s; rfl
  | succ n ih =>
    intro s
    simp only [discardSteps]
    split <;> simp [ih]

@[simp] theorem kept_append (e : Entry) : (append e s).kept = s.kept := by
  unfold append
  split <;> simp

/-! ### The schedule's decisions -/

theorem kept_setChan (c : Chan) (x : Channel) (h : x.config = (chan c s).config) :
    (setChan c x s).kept = s.kept := by
  cases c <;> simp_all [State.kept, setChan, State.withChans, PerChan.set, PerChan.map, chan, PerChan.get]

@[simp] theorem kept_setPreWarm (c : Chan) (b : Bool) : (setPreWarm c b s).kept = s.kept := rfl

@[simp] theorem kept_revisePreWarm (c : Chan) : (revisePreWarm s c).kept = s.kept := by
  unfold revisePreWarm
  split
  · rw [kept_setPreWarm]; exact kept_setChan s c _ rfl
  · rfl

@[simp] theorem kept_foldRevise (cs : List Chan) :
    ∀ s, (cs.foldl revisePreWarm s).kept = s.kept := by
  induction cs with
  | nil => intro s; rfl
  | cons c cs ih => intro s; simp [ih]

@[simp] theorem kept_placeDue : (placeDue s).kept = s.kept := by
  simp only [placeDue, kept_foldRevise]; rfl

@[simp] theorem kept_decideMode : (decideMode s).kept = s.kept := by
  unfold decideMode
  split
  · rfl
  · rw [kept_placeDue]; rfl

/-! ### The permit, the run and the cableway -/

@[simp] theorem kept_permitChange (st : PermitState) (c : PermitCause) :
    (permitChange st c s).kept = s.kept := by
  unfold permitChange
  split
  · rfl
  · simp only [kept_decideMode, kept_raisePermit]; rfl

/-- Changing the cableway but for its configuration, pins and filters is not seen in what is kept. -/
theorem kept_onCable (f : Cableway → Cableway)
    (h : ∀ c, (f c).config = c.config ∧ (f c).pins = c.pins ∧ (f c).surface = c.surface
      ∧ (f c).bottom = c.bottom ∧ (f c).meter = c.meter ∧ (f c).loadTrip = c.loadTrip) :
    (onCable f s).kept = s.kept := by
  obtain ⟨h1, h2, h3, h4, h5, h6⟩ := h s.cableway
  simp [State.kept, onCable, State.withCableway, h1, h2, h3, h4, h5, h6]

@[simp] theorem kept_clearWorking : (clearWorking s).kept = s.kept := rfl

@[simp] theorem kept_closeRun (o : RunOutcome) : (closeRun o s).kept = s.kept := by
  unfold closeRun
  split
  · rfl
  · simp only [kept_append, kept_clearWorking]; rfl

@[simp] theorem kept_cutDrives : (cutDrives s).kept = s.kept := by
  refine kept_onCable s _ fun c => ?_
  unfold Cableway.cut
  split
  · simp
  · rename_i d _
    cases h : d.dir.axis <;> simp [Cableway.setAxis]

@[simp] theorem kept_endOp (o : OpOutcome) (r : OpResults) : (endOp o r s).kept = s.kept := by
  unfold endOp
  split
  · rfl
  · rw [kept_raiseEvent]; exact kept_onCable s _ fun c => by simp

theorem Cableway.zero_frame (c : Cableway) (a : Axis) :
    (c.zero a).config = c.config ∧ (c.zero a).pins = c.pins ∧ (c.zero a).surface = c.surface
      ∧ (c.zero a).bottom = c.bottom ∧ (c.zero a).meter = c.meter
      ∧ (c.zero a).loadTrip = c.loadTrip := by
  unfold Cableway.zero
  cases a <;> simp only [] <;> split <;> simp [Cableway.setCount, Cableway.setAxis]

theorem Cableway.energise_frame (c : Cableway) (d : Direction) (fast : Bool) (now : U32) :
    (c.energise d fast now).config = c.config ∧ (c.energise d fast now).pins = c.pins
      ∧ (c.energise d fast now).surface = c.surface ∧ (c.energise d fast now).bottom = c.bottom
      ∧ (c.energise d fast now).meter = c.meter
      ∧ (c.energise d fast now).loadTrip = c.loadTrip := by
  unfold Cableway.energise
  split
  · cases d.axis <;> simp [Cableway.setAxis]
  · simp

@[simp] theorem kept_beginReelHome : (beginReelHome s).1.kept = s.kept := by
  unfold beginReelHome
  split
  · exact kept_onCable s _ fun c => c.zero_frame .reel
  · exact kept_onCable s (·.energise .reelUp true s.time.elapsed) fun c => c.energise_frame _ _ _

@[simp] theorem kept_beginTraverseHome : (beginTraverseHome s).1.kept = s.kept := by
  unfold beginTraverseHome
  split
  · exact kept_onCable s _ fun c => c.zero_frame .traverse
  · exact kept_onCable s (fun c => c.energise .traverseIn c.homingFast s.time.elapsed)
      fun c => c.energise_frame _ _ _

@[simp] theorem kept_setRetract (st : HomeStep) (ph : Phase) : (setRetract st ph s).kept = s.kept :=
  kept_onCable s _ fun c => by simp

@[simp] theorem kept_finishRetract (c : PermitCause) : (finishRetract c s).kept = s.kept := by
  have h : (onCable (fun c => { c with retract := none }) s).kept = s.kept :=
    kept_onCable s _ fun c => by simp
  unfold finishRetract
  simp only []
  split <;> simp [h]

@[simp] theorem kept_retractTraverse : (retractTraverse s).kept = s.kept := by
  unfold retractTraverse
  simp only []
  split <;> simp

@[simp] theorem kept_retractReel : (retractReel s).kept = s.kept := by
  unfold retractReel
  simp only []
  split <;> simp

@[simp] theorem kept_startRetract : (startRetract s).kept = s.kept := by
  unfold startRetract
  split <;> simp

@[simp] theorem kept_standDown (c : StandCondition) : (standDown c s).kept = s.kept := by
  simp [standDown]

@[simp] theorem kept_permitTest : (permitTest s).kept = s.kept := by
  unfold permitTest
  split
  · split <;> simp
  · rfl

/-! ### The warning unit -/

/-- Changing the warning unit but for its floor and configuration is not seen in what is kept. -/
theorem kept_withWarning (w : Warning) (h : w.floor = s.warning.floor ∧ w.sirenLevel = s.warning.sirenLevel
    ∧ w.holdMin = s.warning.holdMin ∧ w.sirenRun = s.warning.sirenRun) :
    (s.withWarning w).kept = s.kept := by
  obtain ⟨h1, h2, h3, h4⟩ := h
  simp [State.kept, State.withWarning, h1, h2, h3, h4]

@[simp] theorem kept_sirenOff : (sirenOff s).kept = s.kept := by
  unfold sirenOff
  split
  · rw [kept_raiseEvent]; exact kept_withWarning s _ (by simp)
  · rfl

@[simp] theorem kept_sirenOnRise : (sirenOnRise s).kept = s.kept := by
  unfold sirenOnRise
  simp only []
  split
  · split
    · exact kept_withWarning s _ (by simp)
    · rw [kept_raiseEvent]; exact kept_withWarning s _ (by simp)
  · rfl

@[simp] theorem kept_sirenOnFall : (sirenOnFall s).kept = s.kept := by
  unfold sirenOnFall
  split <;> simp

@[simp] theorem kept_changeLevel (n : Nat) (c : WarningCause) : (changeLevel n c s).kept = s.kept := by
  have h : ∀ w : Warning, w.floor = s.warning.floor ∧ w.sirenLevel = s.warning.sirenLevel
      ∧ w.holdMin = s.warning.holdMin ∧ w.sirenRun = s.warning.sirenRun →
      (s.withWarning w).kept = s.kept := kept_withWarning s
  unfold changeLevel
  simp only [kept_raiseEvent]
  split <;> simp only [kept_sirenOnRise, kept_sirenOnFall, kept_owe, kept_decideMode, kept_append] <;>
    exact h _ (by simp)

/-- What a level computation does (R101 to R104): it forms the target and moves L to it, or leaves L where
it is with the hold timer running or idle. -/
theorem computeLevel_cases (b : Bool) :
    (∃ c, s.warning.level ≠ s.warning.formTarget
      ∧ (s.warning.formTarget < s.warning.level → s.warning.hold = none)
      ∧ computeLevel b s
        = changeLevel s.warning.formTarget c
            (s.withWarning { s.warning with target := s.warning.formTarget }))
    ∨ (∃ h : Option U32, s.warning.formTarget ≤ s.warning.level
      ∧ (h.isSome ↔ s.warning.formTarget < s.warning.level)
      ∧ computeLevel b s
        = s.withWarning { s.warning with target := s.warning.formTarget, hold := h }) := by
  unfold computeLevel
  dsimp only [State.withWarning_warning]
  by_cases h1 : s.warning.level < s.warning.formTarget
  · refine .inl ⟨?_, by omega, by omega, ?_⟩
    rotate_left
    · simp only [h1, ↓reduceIte]
      rfl
  · by_cases h2 : s.warning.formTarget < s.warning.level
    · cases h3 : s.warning.hold with
      | some t =>
        refine .inr ⟨some t, by omega, by simp [h2], ?_⟩
        simp only [h1, h2, ↓reduceIte]
      | none =>
        by_cases h4 : s.warning.holdMin = 0
        · refine .inl ⟨.holdExpiry, by omega, fun _ => rfl, ?_⟩
          simp only [h1, h2, h4, ↓reduceIte]
        · refine .inr ⟨?_, by omega, ?_, ?_⟩
          rotate_left
          rotate_left
          · simp only [h1, h2, h4, ↓reduceIte, State.withWarning_twice]
            rfl
          · simp [h2]
    · refine .inr ⟨none, by omega, by simp [h2], ?_⟩
      simp only [h1, h2, ↓reduceIte, State.withWarning_twice]

@[simp] theorem kept_computeLevel (b : Bool) : (computeLevel b s).kept = s.kept := by
  rcases computeLevel_cases s b with ⟨c, -, -, h⟩ | ⟨h', -, -, h⟩ <;> rw [h]
  · rw [kept_changeLevel]; exact kept_withWarning s _ ⟨rfl, rfl, rfl, rfl⟩
  · exact kept_withWarning s _ ⟨rfl, rfl, rfl, rfl⟩

@[simp] theorem kept_evaluateRound (b : Bool) (word : U32) : (evaluateRound b word s).kept = s.kept :=
  kept_withWarning s _ (by simp)

@[simp] theorem kept_faultRound (word : U32) : (faultRound word s).kept = s.kept := by
  simp [faultRound]

@[simp] theorem kept_stageRound : (stageRound s).kept = s.kept := by simp [stageRound]

end Kept

/-! ### The agenda -/

/-- Nothing that is owed is the completion of an acquisition. -/
def NoCompletion (s : State) : Prop := Work.completion ∉ s.due

/-- A hand-on that is no completion leaves what is kept as it was. -/
theorem kept_doWork (w : Work) (hw : w ≠ .completion) (s : State) : (doWork w s).kept = s.kept := by
  cases w <;> simp_all [doWork]

section Owed

variable {s : State}

theorem NoCompletion.of_due {t : State} (h : NoCompletion s) (e : t.due = s.due) : NoCompletion t := by
  unfold NoCompletion; rw [e]; exact h

@[simp] theorem due_raiseEvent (e : Event) (s : State) : (raiseEvent e s).due = s.due := rfl
@[simp] theorem due_raisePermit (r : PermitRecord) (s : State) : (raisePermit r s).due = s.due := rfl
@[simp] theorem due_syncRecord (s : State) : (syncRecord s).due = s.due := rfl
@[simp] theorem due_raiseFaultEvents (fs : List StationFault) (s : State) :
    (raiseFaultEvents fs s).due = s.due := rfl
@[simp] theorem due_setChan (c : Chan) (x : Channel) (s : State) : (setChan c x s).due = s.due := rfl
@[simp] theorem due_setPreWarm (c : Chan) (b : Bool) (s : State) : (setPreWarm c b s).due = s.due := rfl
@[simp] theorem due_onCable (f : Cableway → Cableway) (s : State) : (onCable f s).due = s.due := rfl
@[simp] theorem due_clearWorking (s : State) : (clearWorking s).due = s.due := rfl
@[simp] theorem due_owe (s : State) (w : List Work) : (s.owe w).due = s.due ++ w := rfl

@[simp] theorem due_revisePreWarm (s : State) (c : Chan) : (revisePreWarm s c).due = s.due := by
  unfold revisePreWarm; split <;> rfl

@[simp] theorem due_foldRevise (cs : List Chan) : ∀ s, (cs.foldl revisePreWarm s).due = s.due := by
  induction cs with
  | nil => intro s; rfl
  | cons c cs ih => intro s; simp [ih]

@[simp] theorem due_placeDue (s : State) : (placeDue s).due = s.due := by
  simp only [placeDue, due_foldRevise]; rfl

@[simp] theorem due_decideMode (s : State) : (decideMode s).due = s.due := by
  unfold decideMode
  split
  · rfl
  · rw [due_placeDue]; rfl

@[simp] theorem due_permitChange (st : PermitState) (c : PermitCause) (s : State) :
    (permitChange st c s).due = s.due := by
  unfold permitChange
  split
  · rfl
  · simp only [due_decideMode, due_raisePermit]; rfl

@[simp] theorem due_cutDrives (s : State) : (cutDrives s).due = s.due := rfl

@[simp] theorem due_endOp (o : OpOutcome) (r : OpResults) (s : State) : (endOp o r s).due = s.due := by
  unfold endOp; split <;> rfl

@[simp] theorem due_beginReelHome (s : State) : (beginReelHome s).1.due = s.due := by
  unfold beginReelHome; split <;> rfl

@[simp] theorem due_beginTraverseHome (s : State) : (beginTraverseHome s).1.due = s.due := by
  unfold beginTraverseHome; split <;> rfl

@[simp] theorem due_setRetract (st : HomeStep) (ph : Phase) (s : State) :
    (setRetract st ph s).due = s.due := rfl

@[simp] theorem due_finishRetract (c : PermitCause) (s : State) : (finishRetract c s).due = s.due := by
  simp only [finishRetract]; split <;> simp

@[simp] theorem due_retractTraverse (s : State) : (retractTraverse s).due = s.due := by
  simp only [retractTraverse]; split <;> simp

@[simp] theorem due_retractReel (s : State) : (retractReel s).due = s.due := by
  simp only [retractReel]; split <;> simp

@[simp] theorem due_startRetract (s : State) : (startRetract s).due = s.due := by
  unfold startRetract; split <;> simp

@[simp] theorem due_sirenOff (s : State) : (sirenOff s).due = s.due := by
  unfold sirenOff; split <;> rfl

@[simp] theorem due_sirenOnRise (s : State) : (sirenOnRise s).due = s.due := by
  simp only [sirenOnRise]; split
  · split <;> rfl
  · rfl

@[simp] theorem due_sirenOnFall (s : State) : (sirenOnFall s).due = s.due := by
  unfold sirenOnFall; split <;> simp

/-- A batch owes at most a fault round. -/
theorem NoCompletion.takeBatch (h : NoCompletion s) (rs : List Report) : NoCompletion (takeBatch rs s) := by
  simp only [NoCompletion, Machine.takeBatch] at *
  split <;> simp [h]

theorem NoCompletion.discardSteps (n : Nat) : ∀ {s}, NoCompletion s → NoCompletion (discardSteps n s) := by
  induction n with
  | zero => intro s h; exact h
  | succ n ih =>
    intro s h
    have h1 : NoCompletion (Machine.takeBatch s.record.discard.2.1 (s.withRecord s.record.discard.1)) :=
      NoCompletion.takeBatch (s := s.withRecord s.record.discard.1) h _
    simp only [Machine.discardSteps]
    split
    · exact h1
    · exact ih h1

theorem NoCompletion.append (h : NoCompletion s) (e : Entry) : NoCompletion (append e s) := by
  simp only [Machine.append]
  split
  · exact NoCompletion.discardSteps _ h
  · exact h

theorem NoCompletion.closeRun (h : NoCompletion s) (o : RunOutcome) : NoCompletion (closeRun o s) := by
  unfold Machine.closeRun
  split
  · exact h
  · dsimp only
    refine NoCompletion.append ?_ _
    exact h.of_due rfl

theorem NoCompletion.standDown (h : NoCompletion s) (c : StandCondition) : NoCompletion (standDown c s) := by
  refine NoCompletion.of_due (NoCompletion.closeRun (s := endOp .stoodDown .none (cutDrives s))
    (h.of_due ?_) .abandonedFlood) ?_ <;> simp [Machine.standDown]

theorem NoCompletion.permitTest (h : NoCompletion s) : NoCompletion (permitTest s) := by
  unfold Machine.permitTest
  split
  · split
    · exact h.standDown _
    · exact h
  · exact h

theorem NoCompletion.changeLevel (h : NoCompletion s) (n : Nat) (c : WarningCause) :
    NoCompletion (changeLevel n c s) := by
  have h1 : ∀ w e, NoCompletion (((decideMode (Machine.append e (s.withWarning w)))).owe [.permitTest]) := by
    intro w e
    have h2 := NoCompletion.append (s := s.withWarning w) h e
    simp only [NoCompletion, due_owe, due_decideMode, List.mem_append] at *
    simp [h2]
  unfold Machine.changeLevel
  dsimp only
  split
  · exact (h1 _ _).of_due (by rw [due_raiseEvent, due_sirenOnRise])
  · exact (h1 _ _).of_due (by rw [due_raiseEvent, due_sirenOnFall])

theorem NoCompletion.computeLevel (h : NoCompletion s) (b : Bool) : NoCompletion (computeLevel b s) := by
  rcases computeLevel_cases s b with ⟨c, -, -, e⟩ | ⟨h', -, -, e⟩ <;> rw [e]
  · refine NoCompletion.changeLevel ?_ _ _
    exact h.of_due rfl
  · exact h.of_due rfl

theorem NoCompletion.faultRound (h : NoCompletion s) (word : U32) : NoCompletion (faultRound word s) :=
  NoCompletion.computeLevel (s := evaluateRound true word s) h true

theorem NoCompletion.stageRound (h : NoCompletion s) : NoCompletion (stageRound s) :=
  NoCompletion.computeLevel (s := evaluateRound false s.faults.word s) h true

theorem NoCompletion.doWork (h : NoCompletion s) (w : Work) (hw : w ≠ .completion) :
    NoCompletion (doWork w s) := by
  cases w with
  | batch rs => exact h.takeBatch rs
  | faultRound word => exact h.faultRound word
  | stageRound => exact h.stageRound
  | permitTest => exact h.permitTest
  | sampleEntry time cause => exact NoCompletion.append h _
  | completion => exact absurd rfl hw

end Owed

/-- The agenda, worked off, keeps what each of its hand-ons keeps. -/
theorem drain_keeps (P : State → Prop) (hdue : ∀ s ws, P s → P (s.withDue ws))
    (hwork : ∀ s w, P s → P (doWork w s)) (n : Nat) : ∀ s, P s → P (drain n s) := by
  induction n with
  | zero => intro s h; exact h
  | succ n ih =>
    intro s h
    simp only [drain]
    split
    · exact h
    · exact ih _ (hdue _ _ (hwork _ _ (hdue _ _ h)))

/-- Making a step whole keeps what each hand-on keeps. -/
theorem settle_keeps (P : State → Prop) (hdue : ∀ s ws, P s → P (s.withDue ws))
    (hwork : ∀ s w, P s → P (doWork w s)) (s : State) (h : P s) : P (settle s) :=
  hdue _ _ (drain_keeps P hdue hwork 400 s h)

/-- Nothing is owed after a step. -/
@[simp] theorem settle_due (s : State) : (settle s).due = [] := rfl

theorem kept_drain (n : Nat) : ∀ s, NoCompletion s → (drain n s).kept = s.kept := by
  induction n with
  | zero => intro s _; rfl
  | succ n ih =>
    intro s h
    simp only [drain]
    split
    · rfl
    · rename_i w rest e
      have hw : w ≠ .completion := by
        rintro rfl; exact h (by rw [e]; exact List.mem_cons_self)
      have h1 : NoCompletion (doWork w (s.withDue [])) :=
        NoCompletion.doWork (s := s.withDue []) (by simp [NoCompletion]) w hw
      have h2 : Work.completion ∉ rest := fun m => h (by rw [e]; exact List.mem_cons_of_mem _ m)
      rw [ih _ (by
        simp only [NoCompletion, State.withDue_due, List.mem_append, not_or] at *
        exact ⟨h1, h2⟩)]
      simp [kept_doWork w hw]

/-- Making a step whole leaves what is kept as it was, when no completion is owed. -/
theorem kept_settle (s : State) (h : NoCompletion s) : (settle s).kept = s.kept := by
  simp [settle, kept_drain 400 s h]

/-- A state that owes nothing is whole. -/
theorem settle_of_due_nil (s : State) (h : s.due = []) : settle s = s := by
  have hd : drain 400 s = s := by
    show drain (399 + 1) s = s
    simp only [drain, h]
  simp only [settle, hd]
  rw [← h]
  rfl

end Sys2Proof.Machine
end

