-- ==== Sys2Proof/Laws/Ops.lean ====
section
/-! SUPPORT. What the shared operations and the shapes of a step can do, said once each. -/

namespace Sys2Proof.Machine

/-! ### The shapes of a step -/

/-- A judged command does its block's work and gives its answer. -/
theorem command_judged {p : Port} {c : Instr} {s : State} (h : Judged p c s)
    (work : State → State × Answer) :
    command p c work s = .next (giveAnswer p c (work s).2 (work s).1) := by
  simp [command, h.1, h.2.1]

/-- A command on a port that its column does not name is answered DENIED (R190). -/
theorem command_denied {p : Port} {c : Instr} {s : State} (hh : s.held = none)
    (hp : permitted p c = false) (work : State → State × Answer) :
    command p c work s = .next (giveAnswer p c (plain .denied) s) := by
  simp [command, hh, hp]

/-- While the part is held in reset a command changes nothing. -/
theorem command_held {p : Port} {c : Instr} {s : State} (h : s.held.isSome = true)
    (work : State → State × Answer) : command p c work s = .next s := by
  simp [command, h]

/-- A happening has its effect, made whole. -/
theorem event_runs {s : State} (h : s.held = none) (f : State → State) :
    event f s = .next (settle (f s)) := by
  simp [event, h]

/-- While the part is held in reset a happening changes nothing. -/
theorem event_held {s : State} (h : s.held.isSome = true) (f : State → State) : event f s = .next s := by
  simp [event, h]

/-! ### Answers -/

@[simp] theorem PerPort.get_set_same {α : Type} (x : PerPort α) (p : Port) (v : α) :
    (x.set p v).get p = v := by cases p <;> rfl

theorem PerPort.get_set_other {α : Type} (x : PerPort α) {p q : Port} (h : q ≠ p) (v : α) :
    (x.set p v).get q = x.get q := by cases p <;> cases q <;> first | rfl | exact absurd rfl h

@[simp] theorem PerPort.get_map {α β : Type} (f : Port → α → β) (x : PerPort α) (p : Port) :
    (x.map f).get p = f p (x.get p) := by cases p <;> rfl

@[simp] theorem PerChan.get_set_same {α : Type} (x : PerChan α) (c : Chan) (v : α) :
    (x.set c v).get c = v := by cases c <;> rfl

theorem PerChan.get_set_other {α : Type} (x : PerChan α) {c k : Chan} (h : k ≠ c) (v : α) :
    (x.set c v).get k = x.get k := by cases c <;> cases k <;> first | rfl | exact absurd rfl h

@[simp] theorem PerChan.get_map {α β : Type} (f : Chan → α → β) (x : PerChan α) (c : Chan) :
    (x.map f).get c = f c (x.get c) := by cases c <;> rfl

/-- Whatever becomes of an answer, it is the port's last one. -/
@[simp] theorem PortUnit.answer_last (u : PortUnit) (c : Instr) (a : Answer) :
    (u.answer c a).lastAnswer = some a := by
  unfold PortUnit.answer
  dsimp only
  split
  · rfl
  · split
    · split <;> rfl
    · rfl
    · rfl
    · rfl

/-- Giving an answer changes the ports alone, and it is the asking port's last answer. -/
theorem giveAnswer_only (p : Port) (c : Instr) (a : Answer) (s : State) :
    OnlyPorts s (giveAnswer p c a s) ∧ Answered p a (giveAnswer p c a s) :=
  ⟨⟨_, rfl⟩, by simp [Answered, giveAnswer]⟩

/-- A judged command gives what its work answers. -/
theorem gives_of_exec {p : Port} {c : Instr} {s u : State} {a : Answer}
    (h : exec c s = .next (giveAnswer p c a u)) : Gives p c s u a :=
  ⟨_, h, rfl, (giveAnswer_only p c a u).1, (giveAnswer_only p c a u).2⟩

/-! ### Events, batches and appends -/

/-- Raising an event changes the ports alone. -/
theorem raiseEvent_only (e : Event) (s : State) : OnlyPorts s (raiseEvent e s) := ⟨_, rfl⟩

/-- A PERMIT event changes the ports alone. -/
theorem raisePermit_only (r : PermitRecord) (s : State) : OnlyPorts s (raisePermit r s) := ⟨_, rfl⟩

/-- A batch changes the fault unit, by its reports in order, the ports' FAULT events and what is owed. -/
theorem takeBatch_only (rs : List Report) (s : State) :
    ∃ ports due, takeBatch rs s
      = ((s.withFaults (takeReports s.time.station s.faults rs)).withPorts ports).withDue due := by
  simp only [takeBatch]
  split
  · exact ⟨s.ports, s.due, rfl⟩
  · exact ⟨_, _, rfl⟩

/-- A batch leaves the fault unit as its reports leave it, report by report (R175). -/
@[simp] theorem takeBatch_faults (rs : List Report) (s : State) :
    (takeBatch rs s).faults = takeReports s.time.station s.faults rs := by
  simp only [takeBatch]
  split <;> rfl

/-- An append changes the record, the fault unit by its discard steps, the ports' events and what is
owed. -/
theorem append_only (e : Entry) (s : State) :
    ∃ record faults ports due,
      append e s = (((s.withRecord record).withFaults faults).withPorts ports).withDue due := by
  have hd : ∀ (n : Nat) (s : State), ∃ record faults ports due, discardSteps n s
      = (((s.withRecord record).withFaults faults).withPorts ports).withDue due := by
    intro n
    induction n with
    | zero => intro s; exact ⟨s.record, s.faults, s.ports, s.due, rfl⟩
    | succ n ih =>
      intro s
      obtain ⟨ports, due, hb⟩ :=
        takeBatch_only s.record.discard.2.1 (s.withRecord s.record.discard.1)
      simp only [discardSteps]
      split
      · exact ⟨_, _, _, _, hb⟩
      · obtain ⟨r, f, p, d, h⟩ :=
          ih (takeBatch s.record.discard.2.1 (s.withRecord s.record.discard.1))
        exact ⟨r, f, p, d, by rw [h, hb]; rfl⟩
  simp only [append]
  split
  · obtain ⟨r, f, p, d, h⟩ := hd (s.record.mapOut.length + 18) s
    rw [h]
    exact ⟨_, _, _, _, rfl⟩
  · exact ⟨s.record.placeOrRenumber e s.time.station, s.faults,
      (syncRecord (s.withRecord (s.record.placeOrRenumber e s.time.station))).ports, s.due, rfl⟩

/-- Bringing the counter to a reading changes the counter alone. -/
theorem reach_only (t : U32) (s : State) :
    ∃ elapsed, reach t s = s.withTime { s.time with elapsed := elapsed } := by
  unfold reach
  split
  · exact ⟨t, rfl⟩
  · exact ⟨s.time.elapsed, rfl⟩

/-- A change of the permit's state writes the record; a report that leaves the state as it was writes
nothing (R162). -/
theorem permitChange_record (st : PermitState) (cause : PermitCause) (s : State) :
    (permitChange st cause s).permit.record
      = if s.permit.record.state = st then s.permit.record
        else { state := st, cause := cause, time := s.time.station } := by
  have hf : ∀ (cs : List Chan) (s : State), (cs.foldl revisePreWarm s).permit = s.permit := by
    intro cs
    induction cs with
    | nil => intro s; rfl
    | cons c cs ih =>
      intro s
      rw [List.foldl_cons, ih]
      unfold revisePreWarm
      split <;> rfl
  have hd : ∀ s : State, (decideMode s).permit = s.permit := by
    intro s
    unfold decideMode
    split
    · rfl
    · simp only [placeDue, hf]; rfl
  unfold permitChange
  split
  · rfl
  · simp only [hd]; rfl

/-- A close makes an open run CLOSED with its outcome and leaves the run number (R157); a run that is not
OPEN is left as it is (R158). -/
theorem closeRun_run (o : RunOutcome) (s : State) :
    (closeRun o s).run
      = match s.run.openBody with
        | none => s.run
        | some b =>
          { s.run with body := some { b with closing := some (closingOf s.rating b o s.time.station) } } := by
  cases hb : s.run.openBody with
  | none => simp only [closeRun, hb]
  | some b =>
    obtain ⟨r, f, p, d, e⟩ := append_only
      (.run (runEntry s.run.number b (closingOf s.rating b o s.time.station)))
      (clearWorking (s.withRun
        { s.run with body := some { b with closing := some (closingOf s.rating b o s.time.station) } }))
    simp only [closeRun, hb]
    rw [e]
    rfl

/-- After a close no run is OPEN. -/
theorem closeRun_notOpen (o : RunOutcome) (s : State) : (closeRun o s).run.openBody = none := by
  rw [closeRun_run]
  split
  · assumption
  · rfl

end Sys2Proof.Machine
end

