-- ==== Sys2Proof/Laws/Record.lean ====
section
/-! SUPPORT. The record memory: reading after writing, and the canonical form that every operation keeps. -/

namespace Sys2Proof.Machine

section Sparse

variable {α : Type} [DecidableEq α]

/-- Reading a written key gives the value written; every other key reads as before. -/
theorem Sparse.read_write (d : α) (m : List (Nat × α)) (hm : Sparse.wf d m = true) (a b : Nat) (v : α) :
    Sparse.read d (Sparse.write d m a v) b = if b = a then v else Sparse.read d m b := by
  induction m with
  | nil =>
    by_cases hv : v = d <;> by_cases hb : b = a <;> simp [Sparse.write, Sparse.read, hv, hb]
  | cons e m ih =>
    obtain ⟨k, w⟩ := e
    simp only [Sparse.wf, Bool.and_eq_true, decide_eq_true_eq, List.all_eq_true] at hm
    obtain ⟨⟨hw, hall⟩, hm'⟩ := hm
    have absent : ∀ x : Nat, x ≤ k → Sparse.read d m x = d := by
      intro x hx
      clear ih hm' hw
      induction m with
      | nil => rfl
      | cons f m ih2 =>
        have hk := hall f List.mem_cons_self
        have hne : x ≠ f.1 := by omega
        simp only [Sparse.read, hne, if_false]
        exact ih2 fun g hg => hall g (List.mem_cons_of_mem _ hg)
    simp only [Sparse.write]
    by_cases h1 : a < k
    · by_cases hv : v = d
      · subst hv
        simp only [h1, if_true]
        by_cases hb : b = a
        · subst hb
          have hne : b ≠ k := by omega
          simp [Sparse.read, hne, absent b (by omega)]
        · simp [hb]
      · by_cases hb : b = a <;> simp [h1, hv, hb, Sparse.read]
    · by_cases h2 : a = k
      · subst h2
        by_cases hv : v = d
        · subst hv
          by_cases hb : b = a
          · subst hb; simp [absent b le_rfl]
          · simp [hb, Sparse.read]
        · by_cases hb : b = a <;> simp [hv, hb, Sparse.read]
      · simp only [h1, h2, if_false, Sparse.read, ih hm']
        by_cases hb : b = k
        · subst hb
          have hne : b ≠ a := fun h => h2 h.symm
          simp [hne]
        · simp [hb]

/-- The keys of a written list are the key written and keys that were there. -/
theorem Sparse.write_keys (d : α) (m : List (Nat × α)) (a : Nat) (v : α) :
    ∀ e ∈ Sparse.write d m a v, e.1 = a ∨ e ∈ m := by
  induction m with
  | nil => intro e; by_cases hv : v = d <;> simp_all [Sparse.write]
  | cons f m ih =>
    obtain ⟨k, w⟩ := f
    intro e he
    simp only [Sparse.write] at he
    split at he
    · split at he
      · exact .inr he
      · rcases List.mem_cons.mp he with rfl | he
        · exact .inl rfl
        · exact .inr he
    · split at he
      · split at he
        · exact .inr (List.mem_cons_of_mem _ he)
        · rcases List.mem_cons.mp he with rfl | he
          · exact .inl rfl
          · exact .inr (List.mem_cons_of_mem _ he)
      · rcases List.mem_cons.mp he with rfl | he
        · exact .inr List.mem_cons_self
        · rcases ih e he with h | h
          · exact .inl h
          · exact .inr (List.mem_cons_of_mem _ h)

/-- Writing keeps the canonical form. -/
theorem Sparse.write_wf (d : α) (m : List (Nat × α)) (hm : Sparse.wf d m = true) (a : Nat) (v : α) :
    Sparse.wf d (Sparse.write d m a v) = true := by
  induction m with
  | nil => by_cases hv : v = d <;> simp [Sparse.write, Sparse.wf, hv]
  | cons f m ih =>
    obtain ⟨k, w⟩ := f
    have hm0 := hm
    simp only [Sparse.wf, Bool.and_eq_true, decide_eq_true_eq, List.all_eq_true] at hm
    obtain ⟨⟨hw, hall⟩, hm'⟩ := hm
    simp only [Sparse.write]
    by_cases h1 : a < k
    · by_cases hv : v = d
      · simpa [h1, hv] using hm0
      · simp only [h1, hv, if_true, if_false, Sparse.wf, Bool.and_eq_true, decide_eq_true_eq,
          List.all_eq_true, List.mem_cons, forall_eq_or_imp, not_false_eq_true, ne_eq]
        exact ⟨⟨trivial, trivial, fun e he => by have := hall e he; omega⟩, ⟨⟨hw, hall⟩, hm'⟩⟩
    · by_cases h2 : a = k
      · subst h2
        by_cases hv : v = d
        · simpa [hv] using hm'
        · simp only [hv, lt_irrefl, if_false, if_true, Sparse.wf, Bool.and_eq_true, decide_eq_true_eq,
            List.all_eq_true, not_false_eq_true, ne_eq]
          exact ⟨⟨trivial, hall⟩, hm'⟩
      · simp only [h1, h2, if_false, Sparse.wf, Bool.and_eq_true, decide_eq_true_eq, List.all_eq_true]
        refine ⟨⟨hw, fun e he => ?_⟩, ih hm'⟩
        rcases Sparse.write_keys d m a v e he with h | h
        · omega
        · exact hall e h

/-- Dropping entries keeps the canonical form. -/
theorem Sparse.filter_wf (d : α) (p : Nat × α → Bool) (m : List (Nat × α)) (hm : Sparse.wf d m = true) :
    Sparse.wf d (m.filter p) = true := by
  induction m with
  | nil => rfl
  | cons f m ih =>
    obtain ⟨k, w⟩ := f
    simp only [Sparse.wf, Bool.and_eq_true, decide_eq_true_eq, List.all_eq_true] at hm
    obtain ⟨⟨hw, hall⟩, hm'⟩ := hm
    rw [List.filter_cons]
    split
    · simp only [Sparse.wf, Bool.and_eq_true, decide_eq_true_eq, List.all_eq_true]
      exact ⟨⟨hw, fun e he => hall e (List.mem_of_mem_filter he)⟩, ih hm'⟩
    · exact ih hm'

end Sparse

/-! ### The record's operations -/

/-- Writing a slot: that slot reads as written and every other slot as before. -/
theorem Record.slot_writeSlot (r : Record) (h : r.wf = true) (n m : Nat) (c : Slot) :
    (r.writeSlot n c).slot m = if m = n then c else r.slot m := by
  simp only [Record.wf, Bool.and_eq_true] at h
  exact Sparse.read_write _ _ h.1 n m c

/-- Writing a slot keeps the canonical form. -/
theorem Record.writeSlot_wf (r : Record) (h : r.wf = true) (n : Nat) (c : Slot) :
    (r.writeSlot n c).wf = true := by
  simp only [Record.wf, Bool.and_eq_true] at *
  refine ⟨Sparse.write_wf _ _ h.1 n c, ?_⟩
  simp only [Record.writeSlot]
  split
  · exact h.2
  · exact Sparse.write_wf _ _ h.2 n _

/-- What every record operation keeps: the canonical form and the bound of the map-out table (R69). -/
def Record.Sound (r : Record) : Prop := r.wf = true ∧ r.mapOut.length ≤ 16

theorem Record.Sound.writeSlot {r : Record} (h : r.Sound) (n : Nat) (c : Slot) : (r.writeSlot n c).Sound :=
  ⟨r.writeSlot_wf h.1 n c, h.2⟩

theorem Record.Sound.mapSlot {r : Record} (h : r.Sound) (n : Nat) (l : Option Nat)
    (hl : r.mapOut.length < 16) : (r.mapSlot n l).Sound :=
  ⟨h.1, by simp only [Record.mapSlot, List.length_append, List.length_singleton]; omega⟩

theorem Record.Sound.dropLost {r : Record} (h : r.Sound) (q : Nat) : (r.dropLost q).Sound :=
  ⟨h.1, by simpa [Record.dropLost] using h.2⟩

theorem Record.Sound.overwriteCheck {r : Record} (h : r.Sound) : r.overwriteCheck.1.Sound := by
  unfold Record.overwriteCheck
  dsimp only
  split
  · exact h
  · exact h
  · exact h
  · split
    · exact h.mapSlot _ _ ‹_›
    · exact h

theorem Record.Sound.discard {r : Record} (h : r.Sound) : r.discard.1.Sound := by
  unfold Record.discard
  dsimp only
  split
  · exact h.dropLost _
  · exact h.overwriteCheck

theorem Record.Sound.place {r : Record} (h : r.Sound) (e : Entry) : (r.place e).Sound :=
  h.writeSlot _ _

theorem Record.Sound.renumbered {r : Record} (h : r.Sound) : r.renumbered.Sound := by
  have h1 := h.1
  simp only [Record.wf, Bool.and_eq_true] at h1
  refine ⟨?_, by simpa [Record.renumbered] using h.2⟩
  simp only [Record.wf, Bool.and_eq_true]
  exact ⟨Sparse.filter_wf _ _ _ h1.1, h1.2⟩

theorem Record.Sound.placeOrRenumber {r : Record} (h : r.Sound) (e : Entry) (time : U32) :
    (r.placeOrRenumber e time).Sound := by
  unfold Record.placeOrRenumber
  dsimp only
  split
  · exact (h.place e).renumbered.place _
  · exact h.place e

theorem Record.Sound.readSequence {r : Record} (h : r.Sound) (q : Nat) : (r.readSequence q).1.Sound := by
  unfold Record.readSequence
  split
  · exact h
  · unfold Record.readSlot
    split
    · exact h
    · exact h.writeSlot _ _
    · exact h.writeSlot _ _
    · split
      · exact h.mapSlot _ _ ‹_›
      · exact h.writeSlot _ _

theorem Record.Sound.setCursor {r : Record} (h : r.Sound) (p : Port) (n : Nat) : (r.setCursor p n).Sound := by
  cases p <;> exact h

theorem Record.Sound.upset {r : Record} (h : r.Sound) (u : Nat × CellCondition) : (upset r u).Sound := by
  unfold Machine.upset
  split
  · have h1 := h.1
    simp only [Record.wf, Bool.and_eq_true] at h1
    refine ⟨?_, h.2⟩
    simp only [Record.wf, Bool.and_eq_true]
    exact ⟨h1.1, Sparse.write_wf _ _ h1.2 _ _⟩
  · exact h

@[simp] theorem takeBatch_record (rs : List Report) (s : State) : (takeBatch rs s).record = s.record := by
  simp only [takeBatch]
  split <;> rfl

@[simp] theorem syncRecord_record (s : State) : (syncRecord s).record = s.record := rfl

theorem discardSteps_sound (n : Nat) : ∀ s : State, s.record.Sound → (discardSteps n s).record.Sound := by
  induction n with
  | zero => intro s h; exact h
  | succ n ih =>
    intro s h
    have h1 : (takeBatch s.record.discard.2.1 (s.withRecord s.record.discard.1)).record.Sound := by
      rw [takeBatch_record]; exact h.discard
    simp only [discardSteps]
    split
    · exact h1
    · exact ih _ h1

/-- An append keeps the record sound. -/
theorem append_sound (e : Entry) (s : State) (h : s.record.Sound) : (append e s).record.Sound := by
  simp only [append]
  split
  · exact (discardSteps_sound _ s h).placeOrRenumber e _
  · exact h.placeOrRenumber e _

/-- An append to a record that is not full and gives no last sequence number (R74). -/
theorem append_record (e : Entry) (s : State) (hf : s.record.full = false)
    (hn : s.record.next + 1 ≠ 4294967296) :
    (append e s).record = s.record.place e := by
  have h1 : (s.record.place e).next ≠ 4294967296 := hn
  simp only [append, hf, Bool.false_eq_true, if_false, syncRecord_record, State.withRecord_record]
  simp only [Record.placeOrRenumber, h1, if_false]

end Sys2Proof.Machine
end

