-- ==== Sys2Proof/Tests/Slice0.lean ====
section
/-! SUPPORT. Tests: an ill-formed term for each check of WellFormed, worked examples of the spec, and for
each statement with hypotheses a state and operands that meet them, clause by clause. -/

namespace Sys2Proof.Tests

open Sys2Proof.Machine

/-! ### Well-formedness: each check refuses an ill-formed term -/

theorem test_wf_frame : Instr.wellFormed (.requestFrame .logger []) = false
    ∧ Instr.wellFormed (.requestFrame .logger [0xFF, 0x00]) = false
    ∧ Instr.wellFormed (.requestFrame .logger [0x10, 0x00, 0xF0]) = true := by decide

theorem test_wf_clocked : Instr.wellFormed (.fetch .logger 0) = false
    ∧ Instr.wellFormed (.poll .warning 0) = false ∧ Instr.wellFormed (.poll .warning 7) = true := by
  decide

theorem test_wf_points : Instr.wellFormed (.loadRating .logger 1 [{ stage := 0, discharge := 0 }]) = false
    ∧ Instr.wellFormed (.loadRating .logger 25 (List.replicate 25 { stage := 0, discharge := 0 }))
      = false := by decide

theorem test_wf_fraction : Instr.wellFormed (.position .cableway 0xFF) = false := by decide

theorem test_wf_upsets : Instr.wellFormed (.readRecords .logger [(4096, .soft)]) = false := by decide

theorem test_wf_restart : Instr.wellFormed (.stationRestart 0) = false
    ∧ Instr.wellFormed (.stationRestart 1001) = false := by decide

/-! ### Worked examples of the spec -/

/-- The NONE frame of R187: status NONE, length 0, check byte 0xF4. -/
theorem test_none_frame : responseFrame (plain .none) = [0x0C, 0x00, 0xF4] := by decide

/-- R57's example: a stage of 31,900 mm and a shift of +500 mm give 32,000 mm. -/
theorem test_effective_stage : effectiveStage 31900 500 = 32000 := by decide

/-- R30: a pass needs 1 valid reading for N of 1 or 2, 2 for 3 or 4, up to 8 for 15. -/
theorem test_needed : needed 1 = 1 ∧ needed 2 = 1 ∧ needed 3 = 2 ∧ needed 4 = 2 ∧ needed 15 = 8 := by
  decide

/-- R30: the lower of the two middle values of an even number. -/
theorem test_median : median [40, 10, 30, 20] = 20 ∧ median [3, 1, 2] = 2 := by decide

/-- R17: the position count wraps at its 24-bit ends. -/
theorem test_count_wraps : (0x7FFFFF#24 + 1).toInt = -8388608 := by decide

/-- R147: no pulses give 0, not a. -/
theorem test_dead_water : pointVelocity 15 260000 1 0 60000 = 0 := by decide

/-- Frames written out byte by byte from 11.2 and 11.4 pass the checks of R184 and are the commands they
stand for: GET_TIME, MOVE to 4,500 mm, SET_REPORTING ALL, and POSITION CARRY. -/
theorem test_written_frames :
  frameFault [0x10, 0x00, 0xF0] = none ∧ decodeRequest .logger 0x10 [] = some (.getTime .logger)
  ∧ frameFault [0x63, 0x04, 0x00, 0x00, 0x11, 0x94, 0xF4] = none
  ∧ decodeRequest .cableway 0x63 [0x00, 0x00, 0x11, 0x94] = some (.move .cableway 4500#32)
  ∧ frameFault [0x17, 0x01, 0x03, 0xE5] = none
  ∧ decodeRequest .warning 0x17 [0x03] = some (.setReporting .warning 0x03)
  ∧ frameFault [0x65, 0x01, 0xFF, 0x9B] = none
  ∧ decodeRequest .cableway 0x65 [0xFF] = some (.positionCarry .cableway) := by
  decide

/-- R115: minus 123 cm is the codes 10, blank, 1, 2, 3, each sent most significant bit first. -/
theorem test_display_transfer :
    (sendDisplay (.cm (-123)) State.reset).latch.bits
      = [true, false, true, false, true, true, true, true, false, false, false, true,
        false, false, true, false, false, false, true, true] := by decide

/-- R134: a REEL_FREE that waits while only the traverse coasts ends when its repeat watch expires. -/
theorem test_reel_free_ends : (expireRepeat
    (State.reset.withCableway
      { State.reset.cableway with
        traverseAxis := .coasting 0
        op := some { kind := .reelFree 500, phase := .waiting } })).cableway.op = none := by decide

/-! ### States for the witnesses -/

/-- State.reset with its port `p` in a phase. -/
def portAt (p : Port) (ph : PortPhase) : State :=
  onPort p (fun u => { u with phase := ph }) State.reset

/-- A channel in service. -/
def onChannel : Channel := { Channel.cold 0 with state := .on }

/-- CH0 in service. -/
def ch0On : State := setChan .ch0 onChannel State.reset

/-- CH2 FAILED. -/
def failed2 : State := setChan .ch2 { onChannel with state := .failed, missing := 3 } State.reset

/-- The configuration of a channel with a burst of one reading and a failure threshold. -/
def oneReading (f : Nat) : ChanConfig :=
  { ChanConfig.cold 0 with n := 1, f := f, gain := 1048576 }

/-- CH0 in a burst of one pass; without an acquisition in flight. -/
def bursting (n f : Nat) (pass : Pass) (low : Int) : State :=
  setChan .ch0
    { onChannel with
      config := { oneReading f with n := n, low := low }
      burst := some { pass := pass, readings := [], slotEnds := 100 } } State.reset

/-- An acquisition in which CH0 and CH1 handed these samples. -/
def handedOver (x y : Handed) : Acquisition :=
  { sampleTime := 3601, cause := .normal, participants := .all true, still := .all false
    handed := { PerChan.all none with c0 := some x, c1 := some y } }

/-- CH0 the primary, CH1 the check, an earlier value, and one entry read an hour before. -/
def pairedUnit : StageUnit :=
  { State.reset.stage with
    primary := some .ch0, check := some .ch1, earlier := some (5, .ch1)
    ring := [{ time := 1, value := some 5, quality := .good }] }

/-- A run that is OPEN, with a stack. -/
def openBody (stack : List StackItem) : RunBody :=
  { openTime := 0, a := 0, b := 1000, ppr := 1, unsteady := 10, openStage := 0, openStageTime := 0
    stack := stack, direction := .unset, closing := none }

/-- The cableway referenced and configured, the reel and the carriage at their limits' counts. -/
def referencedCable : Cableway :=
  { Cableway.reset { CableConfig.cold with span := 50000, dwell := 0 } .allOpen with referenced := true }

/-- The part over the water: the permit and a run OPEN, the cableway referenced. -/
def overWaterState (stack : List StackItem) : State :=
  { State.reset with
    cableway := referencedCable
    run := { number := 1, body := some (openBody stack) }
    permit := { State.reset.permit with record := { state := .open_, cause := .granted, time := 0 } } }

/-- The same with the cableway changed. -/
def withCable (f : Cableway → Cableway) (s : State) : State := s.withCableway (f s.cableway)

/-- An operation in flight. -/
def inFlight (k : OpKind) (ph : Phase) (s : State) : State :=
  withCable (fun c => { c with op := some { kind := k, phase := ph } }) s

/-- A sounding in deep water. -/
def deep : Sounding := { x := 10, ls := 100, lb := 2100, d := 2000 }

/-- An edge and a vertical of a stack. -/
def startEdge : StackItem :=
  { kind := .start, distance := -5, depth := 0, velocity := 0, low := false, saturated := false
    stage := none }

def endEdge : StackItem := { startEdge with kind := .finish, distance := 30 }

def vertical : StackItem := { startEdge with kind := .vertical .none, distance := 3, velocity := 7 }

/-- An observation at a fraction. -/
def observedAt (f : Nat) : Observation :=
  { fraction := f, depth := 1, pulses := 1, period := 10000, velocity := 5, low := false
    saturated := false }

/-- A permit in a state. -/
def permitAt (st : PermitState) (s : State) : State :=
  s.withPermit { s.permit with record := { s.permit.record with state := st } }

/-- A stage that has been read. -/
def goodStage (s : State) : State :=
  s.withStage
    { s.stage with
      record := { s.stage.record with value := some 1000, quality := .good, sampleTime := some 9 } }

/-- A record that counts 4,096 items, the oldest of them in the slot that the next append takes. -/
def fullRecord : Record := { State.reset.record with next := 4097, writePos := 4095 }

/-! ### Witnesses: the queue, the frames and the ports -/

theorem witness_warningSound : WarningSound State.reset.warning :=
  ⟨by decide, by decide, by decide, by decide, by decide, by decide⟩

/-- No enabled rule watches the fault word after a cold reset, and its record has room. -/
theorem witness_Unwatched : Unwatched State.reset.warning :=
  ⟨witness_warningSound, by decide⟩

theorem witness_HasRoom : State.reset.record.HasRoom 3 := ⟨by decide, by decide⟩

theorem witness_StepTakesFront :
    (State.reset.withPending [.coldReset]).pending = .coldReset :: [] := by decide

theorem witness_IdleStepCounts : State.reset.pending = [] ∧ State.reset.held = none
    ∧ (holdReset .pin State.reset).pending = [] ∧ (holdReset .pin State.reset).held ≠ none := by decide

theorem witness_RequestRoundTrip : Instr.wellFormed (.move .cableway 4500) = true
    ∧ Instr.port? (.move .cableway 4500) = some .cableway
    ∧ encodeRequest (.move .cableway 4500) = some (0x63, [0, 0, 0x11, 0x94]) := by decide

theorem witness_FrameTaken : Instr.wellFormed (.getTime .warning) = true
    ∧ Instr.port? (.getTime .warning) = some .warning
    ∧ encodeRequest (.getTime .warning) = some (0x10, []) ∧ codeAllows 0x10 .warning = true
    ∧ State.reset.held = none ∧ (State.reset.ports.get .warning).phase = .idle := by decide

/-- LENGTH by too few bytes, by a length of 201 and by a length that does not fit; CHECK; UNKNOWN; and the
three phases in which a frame is not heard. -/
theorem witness_FrameRefused :
    startsRequest [0x10] = true ∧ ([0x10] : List Byte).length < 3
    ∧ 200 < (([0x10, 201, 0] : List Byte).getD 1 0).toNat
    ∧ ([0x10, 1, 0] : List Byte).length ≠ (([0x10, 1, 0] : List Byte).getD 1 0).toNat + 3
    ∧ ([0x10, 0, 0] : List Byte).foldl (· + ·) 0 ≠ 0
    ∧ ([0x0F, 0, 0xF1] : List Byte).foldl (· + ·) 0 = 0 ∧ codePorts 0x0F = none
    ∧ (State.reset.ports.get .logger).phase = .idle
    ∧ ((portAt .logger (.halted .check)).ports.get .logger).phase ≠ .idle
    ∧ ((portAt .logger (.busy { command := none, answer := none })).ports.get .logger).phase ≠ .idle := by
  decide

theorem witness_JudgedAtThePort : Instr.port? (.home .warning) = some .warning
    ∧ State.reset.held = none ∧ permitted .warning (.home .warning) = false
    ∧ codeAllows 0x10 .logger = true ∧ decodeRequest .logger 0x10 [0] = none
    ∧ codePorts 0x63 ≠ none ∧ codeAllows 0x63 .logger = false ∧ ([0] : List Byte).length ≤ 200
    ∧ (State.reset.ports.get .logger).phase = .idle := by decide

theorem witness_AnswerPlacedOrDropped :
    ((portAt .logger (.busy { command := none, answer := some (plain .range) })).ports.get .logger).phase
      = .busy { command := none, answer := some (plain .range) }
    ∧ ((onPort .logger (fun u => { u with abandoned := [{ command := none, answer := some (plain .range) }] })
        State.reset).ports.get .logger).abandoned[0]?
      = some { command := none, answer := some (plain .range) } := by decide

theorem witness_FetchDelivers :
    deliversReset .warning (portAt .warning (.ready { command := none, answer := plain .ok })) = false
    ∧ ((portAt .warning (.ready { command := none, answer := plain .ok })).ports.get .warning).phase
      = .ready { command := none, answer := plain .ok }
    ∧ (portAt .warning (.ready { command := none, answer := plain .ok })).held = none
    ∧ deliversReset .logger State.reset = false ∧ (State.reset.ports.get .logger).phase = .idle := by
  decide

theorem witness_ClearTaken : State.reset.held = none ∧ State.reset.resetOrder = none := by decide

theorem witness_PollTells : State.reset.held = none ∧ 1 ≤ 7 := by decide

theorem witness_ReadsAnswerAndChangeNothing :
    (∀ c ∈ [Instr.getTime .cableway, .getChannel .logger 3, .getStage .warning, .getRating .logger,
        .getRecordStatus .cableway, .getRule .logger 15, .getWarning .warning, .getFaults .cableway,
        .getCableway .logger, .getRun .warning 39, .getRun .warning 0xFF],
      ∃ p, c.port? = some p ∧ permitted p c = true)
    ∧ State.reset.held = none ∧ State.reset.due = []
    ∧ (readPayload (.getChannel .logger 3) State.reset).isSome = true
    ∧ (readPayload (.getRule .logger 15) State.reset).isSome = true
    ∧ (readPayload (.getRun .warning 39) State.reset).isSome = true := by
  refine ⟨?_, by decide, by decide, by decide, by decide, by decide⟩
  intro c hc
  fin_cases hc <;> exact ⟨_, rfl, by decide⟩

theorem witness_GetEventsEmpties : Judged .cableway (.getEvents .cableway) State.reset
    ∧ (State.reset.ports.get .cableway).events.permit = false
    ∧ ((raisePermit State.reset.permit.record State.reset).ports.get .cableway).events.permit = true
    ∧ ((raisePermit State.reset.permit.record State.reset).ports.get .cableway).permitCopy
      = some State.reset.permit.record
    ∧ (overWaterState []).run.body = some (openBody [])
    ∧ (overWaterState []).working.observations.length ≤ 4 :=
  ⟨⟨rfl, by decide, rfl⟩, by decide, by decide, by decide, by decide, by decide⟩

theorem witness_PortSettings : Judged .warning (.setEventMask .warning 0x7F) State.reset
    ∧ (0x7F#8).getLsbD 7 = false ∧ Judged .warning (.setEventMask .warning 0x80) State.reset
    ∧ (0x80#8).getLsbD 7 = true ∧ Judged .warning (.setReporting .warning 3) State.reset
    ∧ (3#8).toNat ≤ 3 ∧ Judged .warning (.setReporting .warning 4) State.reset ∧ 3 < (4#8).toNat :=
  ⟨⟨rfl, by decide, rfl⟩, by decide, ⟨rfl, by decide, rfl⟩, by decide, ⟨rfl, by decide, rfl⟩, by decide,
    ⟨rfl, by decide, rfl⟩, by decide⟩

/-! ### Witnesses: the resets, time and the schedule -/

/-- A station reset that has been ordered, with its answer waiting to be fetched. -/
def ordered : State :=
  (portAt .logger (.ready { command := some (.stationReset .logger), answer := plain .ok })).withResetOrder
    (some 1000)

theorem witness_StationReset : Judged .logger (.stationReset .logger) State.reset
    ∧ State.reset.resetOrder = none ∧ ordered.held = none ∧ ordered.resetOrder ≠ none
    ∧ deliversReset .logger ordered = true :=
  ⟨⟨rfl, by decide, rfl⟩, rfl, rfl, by decide, by decide⟩

theorem witness_HeldThenRestarted : State.reset.held = none
    ∧ (holdReset .pin State.reset).held = some .pin
    ∧ (∀ r ∈ (holdReset .pin State.reset).warning.rules, r.quantity = .faults → r.enabled = false)
    ∧ (holdReset .pin State.reset).record.HasRoom 2
    ∧ (chan .ch2 failed2).state = .failed ∧ (chan .ch0 ch0On).state ≠ .disabled :=
  ⟨by decide, by decide, by decide, ⟨by decide, by decide⟩, by decide, by decide⟩

theorem witness_SetTimeSteps : Judged .logger (.setTime .logger 0) State.reset
    ∧ (0#32) = State.reset.time.station ∧ Judged .logger (.setTime .logger 1) State.reset
    ∧ (1#32) ≠ State.reset.time.station ∧ State.reset.record.full = false
    ∧ Unwatched State.reset.warning :=
  ⟨⟨rfl, by decide, rfl⟩, rfl, ⟨rfl, by decide, rfl⟩, by decide, by decide, witness_Unwatched⟩

theorem witness_SetScheduleReplaces : Judged .logger (.setSchedule .logger 3600 15 4) State.reset
    ∧ (3600#16).toNat ∈ [60, 120, 300, 600, 900, 1800, 3600] ∧ (15#16).toNat ∈ [15, 30, 60, 120, 300]
    ∧ (4#8).toNat ≤ 4 ∧ Judged .logger (.setSchedule .logger 60 120 5) State.reset
    ∧ ¬(120#16).toNat ≤ (60#16).toNat ∧ (nextMultiple 3600 4294967295).toNat = 0
    ∧ (nextMultiple 900 0).toNat = 900 :=
  ⟨⟨rfl, by decide, rfl⟩, by decide, by decide, by decide, ⟨rfl, by decide, rfl⟩, by decide, by decide,
    by decide⟩

/-- An acquisition in flight that awaits CH1. -/
def flying : State :=
  State.reset.withSchedule
    { State.reset.schedule with
      acq := some
        { sampleTime := 7, cause := .forced, participants := .all true
          still := { PerChan.all false with c1 := true }, handed := .all none } }

theorem witness_ForceSampleStartsOrJoins : Judged .logger (.forceSample .logger) flying
    ∧ flying.schedule.acq.isSome = true ∧ Judged .logger (.forceSample .logger) ch0On
    ∧ ch0On.schedule.acq = none ∧ InService (chan .ch0 ch0On)
    ∧ Judged .logger (.forceSample .logger) State.reset ∧ State.reset.schedule.acq = none
    ∧ (∀ c, ¬InService (chan c State.reset)) :=
  ⟨⟨rfl, by decide, rfl⟩, by decide, ⟨rfl, by decide, rfl⟩, by decide, ⟨by decide, by decide⟩,
    ⟨rfl, by decide, rfl⟩, by decide, fun c h => h.1 (by cases c <;> rfl)⟩

/-- What `StageUpdated` says under conditions: a permit not OPEN and a record with room, a reading, no reading,
a report that changes the word and none, and a rule that raises the level to the siren's. -/
theorem witness_StageUpdated :
    State.reset.permit.record.state ≠ .open_ ∧ State.reset.record.HasRoom 3
    ∧ (formStage (emptyAcquisition 0 .forced) State.reset.stage).record.quality = .none
    ∧ (formStage (handedOver (.valid 7) .missing) pairedUnit).record.value = some 7
    ∧ (formStage (handedOver .missing .missing) pairedUnit).record.quality = .held
    ∧ bitSet State.reset.faults.word .stageHeld = false ∧ bitSet 0x20#32 .stageHeld = true
    ∧ State.reset.warning.holdMin ≠ 0 ∧ State.reset.warning.level < 3
    ∧ State.reset.warning.sirenLevel ≠ 0 ∧ State.reset.warning.sirenLevel ≤ 3
    ∧ countingLevel [{ Rule.cold with state := .active, level := 3 }] = 3
    ∧ Unwatched State.reset.warning ∧ State.reset.warning.hold = none
    ∧ { State.reset.warning with holdMin := 0 }.holdMin = 0 ∧ countingLevel (List.replicate 16 Rule.cold) = 0 :=
  ⟨by decide, witness_HasRoom, by decide, by decide, by decide, by decide, by decide, by decide, by decide,
    by decide, by decide, by decide, witness_Unwatched, by decide, by decide, by decide⟩

/-- L 2 upheld by one rule on the quality, with a hold time of 0. -/
def upheld : State :=
  State.reset.withWarning
    { State.reset.warning with
      rules := { Rule.cold with
        enabled := true, quantity := .quality, condition := .ne, level := 2, state := .active } ::
        List.replicate 15 Rule.cold
      level := 2, target := 2, holdMin := 0, beacon := some { on := true, until_ := 100 } }

/-- A stage update whose round lets the rule go: `StageUpdated`'s premises, with L falling at once. -/
theorem witness_StageUpdated_falls : Unwatched upheld.warning ∧ upheld.warning.hold = none
    ∧ (settle (stageUpdate (emptyAcquisition 0 .forced) upheld)).warning.level = 0
    ∧ upheld.permit.record.state ≠ .open_ ∧ upheld.record.HasRoom 3 :=
  ⟨⟨⟨by decide, by decide, by decide, by decide, by decide, by decide⟩, by decide⟩, by decide, by decide,
    by decide, by decide, by decide⟩

/-- Station time one second before a due instant. -/
def beforeDue : State := ch0On.withTime { station := 899, elapsed := 898500, nextCount := 899500 }

theorem witness_StationTimeCounts : Runs ch0On
    ∧ (ch0On.time.station + 1).toNat % ch0On.schedule.interval ≠ 0 ∧ Runs beforeDue
    ∧ (beforeDue.time.station + 1).toNat % beforeDue.schedule.interval = 0
    ∧ beforeDue.schedule.acq = none ∧ InService (chan .ch0 beforeDue) ∧ PreWarmSound beforeDue
    ∧ (∀ c, ¬InService (chan c (State.reset.withTime beforeDue.time)))
    ∧ PreWarmSound (State.reset.withTime beforeDue.time)
    ∧ (flying.withTime beforeDue.time).schedule.acq.isSome = true ∧ Runs (flying.withTime beforeDue.time)
    ∧ (setPreWarm .ch0 true beforeDue).schedule.preWarm.get .ch0 = true
    ∧ (holdReset .pin State.reset).held ≠ none :=
  ⟨⟨rfl, rfl⟩, by decide, ⟨rfl, rfl⟩, by decide, by decide, ⟨by decide, by decide⟩,
    fun c h => by cases c <;> exact absurd h (by decide),
    fun c h => h.1 (by cases c <;> rfl), fun c h => by cases c <;> exact absurd h (by decide), by decide,
    ⟨rfl, rfl⟩, by decide, by decide⟩

/-! ### Witnesses: the channels -/

/-- A configuration at the ends of its ranges. -/
def edgeConfig : ChannelPayload :=
  { mode := 1, warmUp := 5, n := 7, gain := 0x80000000, offset := 32000, low := BitVec.ofInt 32 (-1000000)
    high := 1000000, f := 15, maxStep := 1 }

theorem witness_ConfigureChannelReplaces :
    Judged .logger (.configureChannel .logger (chanByte .ch2) edgeConfig) State.reset
    ∧ configFits .ch2 edgeConfig = true ∧ (chan .ch2 State.reset).state = .disabled
    ∧ (chan .ch0 ch0On).state ≠ .disabled ∧ configFits .ch0 edgeConfig = true
    ∧ configFits .ch2 { edgeConfig with n := 8 } = false ∧ 3 < (4#8).toNat
    ∧ Judged .logger (.configureChannel .logger 4 edgeConfig) State.reset :=
  ⟨⟨rfl, by decide, rfl⟩, by decide, by decide, by decide, by decide, by decide, by decide,
    ⟨rfl, by decide, rfl⟩⟩

theorem witness_ChannelServed : Judged .logger (.enableChannel .logger (chanByte .ch3)) State.reset
    ∧ (chan .ch3 State.reset).state = .disabled
    ∧ Judged .logger (.enableChannel .logger (chanByte .ch0)) ch0On ∧ (chan .ch0 ch0On).state ≠ .disabled
    ∧ Judged .logger (.restoreChannel .logger (chanByte .ch2)) failed2
    ∧ (chan .ch2 failed2).state = .failed ∧ failed2.schedule.preWarm.get .ch2 = false
    ∧ failed2.record.full = false ∧ (chan .ch0 ch0On).state ≠ .failed ∧ 3 < (4#8).toNat
    ∧ Judged .logger (.enableChannel .logger 4) State.reset
    ∧ Judged .logger (.restoreChannel .logger 4) State.reset :=
  ⟨⟨rfl, by decide, rfl⟩, by decide, ⟨rfl, by decide, rfl⟩, by decide, ⟨rfl, by decide, rfl⟩, by decide,
    by decide, by decide, by decide, by decide, ⟨rfl, by decide, rfl⟩, ⟨rfl, by decide, rfl⟩⟩

/-- CH1 in service and the last that the acquisition in flight awaits. -/
def lastAwaited : State := setChan .ch1 onChannel flying

theorem witness_DisableLeaves : Judged .logger (.disableChannel .logger (chanByte .ch0)) ch0On
    ∧ ch0On.stage.primary ≠ some .ch0 ∧ (chan .ch0 ch0On).state ≠ .disabled
    ∧ ch0On.schedule.acq = none ∧ (chan .ch1 ch0On).state = .disabled
    ∧ (ch0On.withStage { ch0On.stage with primary := some .ch0 }).stage.primary = some .ch0
    ∧ Judged .logger (.disableChannel .logger 4) ch0On ∧ 3 < (4#8).toNat
    ∧ Judged .logger (.disableChannel .logger (chanByte .ch1)) lastAwaited
    ∧ (chan .ch1 lastAwaited).state ≠ .disabled
    ∧ (∃ a, lastAwaited.schedule.acq = some a ∧ a.still.get .ch1 = true
      ∧ (∀ k, k ≠ .ch1 → a.still.get k = false) ∧ a.still.get .ch0 = false) :=
  ⟨⟨rfl, by decide, rfl⟩, by decide, by decide, by decide, by decide, by decide, ⟨rfl, by decide, rfl⟩,
    by decide, ⟨rfl, by decide, rfl⟩, by decide,
    ⟨_, rfl, by decide, fun k h => by cases k <;> first | rfl | exact absurd rfl h, by decide⟩⟩

theorem witness_SelectionsChange : Judged .logger (.selectPrimary .logger (chanByte .ch0)) ch0On
    ∧ (chan .ch0 ch0On).config.mode = .continuous ∧ (chan .ch0 ch0On).state = .on
    ∧ (chan .ch1 ch0On).state ≠ .on ∧ Judged .logger (.selectCheck .logger (chanByte .ch0)) ch0On
    ∧ ch0On.stage.primary ≠ some .ch0 ∧ (chan .ch1 ch0On).state = .disabled
    ∧ Judged .logger (.selectPrimary .logger 4) ch0On ∧ Judged .logger (.selectCheck .logger 0xFE) ch0On
    ∧ 3 < (0xFE#8).toNat ∧ (0xFE#8) ≠ 0xFF
    ∧ Judged .logger (.selectCheck .logger 0xFF) ch0On
    ∧ Judged .logger (.setCrosscheck .logger 1000 15 16) ch0On
    ∧ Judged .logger (.setCrosscheck .logger 1001 15 16) ch0On :=
  ⟨⟨rfl, by decide, rfl⟩, by decide, by decide, by decide, ⟨rfl, by decide, rfl⟩, by decide, by decide,
    ⟨rfl, by decide, rfl⟩, ⟨rfl, by decide, rfl⟩, by decide, by decide, ⟨rfl, by decide, rfl⟩,
    ⟨rfl, by decide, rfl⟩, ⟨rfl, by decide, rfl⟩⟩

/-- CH1 asleep, CH3 warming up, CH3 in a burst. -/
def asleep : State :=
  setChan .ch1 { onChannel with state := .sleeping, config := { oneReading 3 with mode := .switched } }
    State.reset

def warming : State :=
  setChan .ch3 { onChannel with state := .warming, warmUntil := some 5000 } State.reset

def awaitingReply : State :=
  setChan .ch3
    { onChannel with burst := some { pass := .first, readings := [], slotEnds := 100 } } State.reset

theorem witness_ChannelHappenings : Runs asleep ∧ (chan .ch1 asleep).state = .sleeping
    ∧ ahead (preWarmReading .ch1 asleep) asleep.time.elapsed = true ∧ Runs warming
    ∧ (chan .ch3 warming).state = .warming ∧ (chan .ch3 warming).warmUntil = some 5000
    ∧ Runs awaitingReply ∧ (chan .ch3 awaitingReply).burst.isSome = true
    ∧ awaitingReply.ranging.reply = none :=
  ⟨⟨rfl, rfl⟩, by decide, by decide, ⟨rfl, rfl⟩, by decide, by decide, ⟨rfl, rfl⟩, by decide, by decide⟩

/-- The acquisition in flight awaits the channels given. -/
def awaiting (still : PerChan Bool) (s : State) : State :=
  s.withSchedule
    { s.schedule with
      acq := some
        { sampleTime := 7, cause := .forced, participants := .all true, still := still
          handed := .all none } }

/-- A first reading of two, a good pass, a short first pass, and short retry passes below and at F; with no
acquisition, with one that awaits CH0 alone and with one that awaits CH1 too; and a check that takes CH0's
place. -/
theorem witness_ReadingJoins :
    Runs (bursting 2 3 .first (-32000)) ∧ (chan .ch0 (bursting 2 3 .first (-32000))).burst.isSome = true
    ∧ validValues [slotReading .ch0 10 (bursting 1 3 .first (-32000))] = [10]
    ∧ validValues [slotReading .ch0 10 (bursting 1 3 .first 11)] = []
    ∧ validValues [slotReading .ch0 10 (bursting 1 3 .retry 11)] = []
    ∧ (chan .ch0 (bursting 1 3 .retry 11)).missing + 1 < (chan .ch0 (bursting 1 3 .retry 11)).config.f
    ∧ (chan .ch0 (bursting 1 1 .retry 11)).config.f ≤ (chan .ch0 (bursting 1 1 .retry 11)).missing + 1
    ∧ (bursting 1 3 .first 11).schedule.acq = none
    ∧ Runs (awaiting { PerChan.all false with c0 := true } (bursting 1 1 .retry 11))
    ∧ (∀ k, k ≠ .ch0 → ({ PerChan.all false with c0 := true } : PerChan Bool).get k = false)
    ∧ ({ PerChan.all false with c0 := true, c1 := true } : PerChan Bool).get .ch1 = true
    ∧ pairedUnit.primary = some .ch0 ∧ pairedUnit.check = some .ch1
    ∧ (chan .ch1 (setChan .ch1 onChannel (bursting 1 1 .retry 11))).config.mode = .continuous
    ∧ Unwatched (bursting 1 1 .retry 11).warning ∧ (bursting 1 1 .retry 11).record.HasRoom 2 :=
  ⟨⟨rfl, rfl⟩, by decide, by decide, by decide, by decide, by decide, by decide, by decide, ⟨rfl, rfl⟩,
    fun k h => by cases k <;> first | rfl | exact absurd rfl h, by decide, by decide, by decide, by decide,
    witness_Unwatched, ⟨by decide, by decide⟩⟩

theorem witness_PassValue : ([3, 1, 2] : List Int) ≠ [] := by decide

/-! ### Witnesses: the station stage -/

/-- The four rows of R41 and both sides of the limit of R45 are met. -/
theorem witness_StageFormed :
    (formStage (handedOver (.valid 32001) (.valid 31901)) pairedUnit).disagreeCount = 0
    ∧ (formStage (handedOver (.valid 32001) (.valid 31900)) pairedUnit).disagreeCount = 1
    ∧ (formStage (handedOver (.valid 32001) .missing) pairedUnit).record.quality = .suspect
    ∧ (formStage (handedOver .missing (.valid 7)) pairedUnit).record.source = some .ch1
    ∧ (formStage (handedOver .missing .missing) pairedUnit).record.value = some 5
    ∧ (formStage (handedOver .missing .missing) State.reset.stage).record.quality = .none := by
  decide

/-- A rise of 2 mm in an hour, and a newest entry that was not read. -/
theorem witness_RateFormed :
    (formStage (handedOver (.valid 7) .missing) pairedUnit).record.rate = 2
    ∧ (formStage (handedOver (.valid 7) .missing) pairedUnit).record.rateValid = true
    ∧ pairedUnit.ring.length < 16
    ∧ (∀ e ∈ pairedUnit.ring, e.quality = .good ∨ e.quality = .suspect → e.value.isSome = true)
    ∧ (formStage (handedOver .missing .missing) pairedUnit).record.quality = .held
    ∧ (List.replicate 16 ({ time := 1, value := none, quality := .none } : RingEntry)).length = 16 := by
  decide

/-! ### Witnesses: the rating and the record -/

/-- Two points. -/
def twoPoints : List RatingPoint :=
  [{ stage := 0, discharge := 0 }, { stage := 1000, discharge := 5000 }]

theorem witness_LoadRatingJudged : Judged .logger (.loadRating .logger 2 twoPoints) State.reset
    ∧ loadFault 2 (tableOf twoPoints) = none ∧ loadFault 3 (tableOf twoPoints) = some 0
    ∧ loadFault 2 (tableOf [{ stage := 32001, discharge := 0 }, { stage := 0, discharge := 0 }]) = some 1
    ∧ loadFault 2 (tableOf [{ stage := 0, discharge := 0 }, { stage := 0, discharge := 0 }]) = some 2
    ∧ loadFault 2 (tableOf [{ stage := 0, discharge := 1 }, { stage := 1, discharge := 0 }]) = some 3 :=
  ⟨⟨rfl, by decide, rfl⟩, by decide, by decide, by decide, by decide, by decide⟩

/-- A closed run whose shift is available, of a generation. -/
def closedRun (g : Byte) : State :=
  State.reset.withRun
    { number := 1
      body := some
        { openBody [] with
          closing := some
            { time := 0, outcome := .complete, results := none, status := .available, shift := 5
              clamped := false, generation := g } } }

/-- A table with a flat segment and an inner point. -/
def table3 : List TablePoint :=
  [{ stage := -5, discharge := 2 }, { stage := 0, discharge := 2 }, { stage := 10, discharge := 9 }]

theorem witness_ShiftsInstalled : Judged .logger (.setShift .logger 0x7FFFFFFF) State.reset
    ∧ Judged .logger (.setShiftLimit .logger 2000) State.reset
    ∧ Judged .logger (.setShiftLimit .logger 2001) State.reset
    ∧ Judged .logger (.applyShift .logger) (closedRun 0) ∧ appliedShift (closedRun 0).run = some (5, 0)
    ∧ (0#8) = (closedRun 0).rating.generation ∧ (1#8) ≠ (closedRun 1).rating.generation
    ∧ State.reset.run.body = none :=
  ⟨⟨rfl, by decide, rfl⟩, ⟨rfl, by decide, rfl⟩, ⟨rfl, by decide, rfl⟩, ⟨rfl, by decide, rfl⟩, by decide,
    by decide, by decide, by decide⟩

/-- No table, a first point without flow, the rising segment after a flat one, and a discharge above the
table. -/
theorem witness_derivedShift :
    (deriveShift { State.reset.rating with table := some table3 } 9 3).shift = 7
    ∧ table3[1]? = some { stage := 0, discharge := 2 } ∧ table3[2]? = some { stage := 10, discharge := 9 }
    ∧ (deriveShift { State.reset.rating with table := some table3 } 10 3).status = .outOfRating
    ∧ State.reset.rating.table = none
    ∧ ([{ stage := 4, discharge := 0 }, { stage := 5, discharge := 1 }] : List TablePoint).head?
      = some { stage := 4, discharge := 0 } := by decide

theorem witness_RatedDischargeBounds : table3.head? = some { stage := -5, discharge := 2 }
    ∧ table3.getLast? = some { stage := 10, discharge := 9 } ∧ 2 ≤ table3.length
    ∧ table3.Pairwise (fun a b => a.stage < b.stage)
    ∧ table3.Pairwise (fun a b => a.discharge ≤ b.discharge)
    ∧ table3 = [{ stage := -5, discharge := 2 }]
      ++ { stage := 0, discharge := 2 } :: { stage := 10, discharge := 9 } :: []
    ∧ (rateStage table3 5).1 = 6 := by decide

theorem witness_AppendPlaces : RecordSound State.reset ∧ State.reset.record.next + 1 < 4294967296
    ∧ State.reset.record.full = false :=
  ⟨⟨by decide, by decide⟩, by decide, by decide⟩

/-- The full record's oldest slot under each condition, lost, and with the map-out table full. -/
theorem witness_AppendPlaces_full : RecordSound (State.reset.withRecord fullRecord)
    ∧ fullRecord.full = true ∧ fullRecord.lost fullRecord.oldest = false
    ∧ fullRecord.cell fullRecord.nextSlot = .clean
    ∧ fullRecord.Carries fullRecord.nextSlot fullRecord.oldest
    ∧ fullRecord.next + 1 < 4294967296
    ∧ (∀ k ∈ [CellCondition.correctable, .soft, .hard],
      { fullRecord with cells := [(0, k)] }.cell fullRecord.nextSlot = k)
    ∧ { fullRecord with mapOut := [{ slot := 9, lost := some 1 }] }.lost 1 = true
    ∧ { fullRecord with mapOut := [{ slot := 9, lost := some 1 }] }.full = true
    ∧ (List.replicate 16 ({ slot := 9, lost := none } : MapEntry)).length = 16 :=
  ⟨⟨by decide, by decide⟩, by decide, by decide, by decide, .inr ⟨_, rfl⟩, by decide, by decide, by decide,
    by decide, by decide⟩

theorem witness_AppendPlaces_renumber :
    RecordSound (State.reset.withRecord { fullRecord with next := 4294967295, oldest := 4294967295 })
    ∧ { fullRecord with next := 4294967295, oldest := 4294967295 }.full = false
    ∧ RecordSound (State.reset.withRecord { fullRecord with next := 4294967295, oldest := 4294963199 })
    ∧ { fullRecord with next := 4294967295, oldest := 4294963199 }.full = true
    ∧ (4294967295 + 1 : Nat) = 4294967296 :=
  ⟨⟨by decide, by decide⟩, by decide, ⟨by decide, by decide⟩, by decide, by decide⟩

/-- The last sequence of a full record: its oldest item is discarded, and the record renumbers itself. -/
theorem test_full_record_renumbers :
    (append (.channel 9 .ch0 .failed)
      (State.reset.withRecord
        { fullRecord with
          slots := [(0, .placeholder 4294963199)], next := 4294967295
          oldest := 4294963199 })).record.slots = [(0, .entry 1 (.restart 0 .renumber))] := by decide

theorem witness_RecordsRead : Judged .logger (.readRecords .logger []) State.reset
    ∧ State.reset.record.lost 1 = false
    ∧ State.reset.record.judge (State.reset.record.slotOf 1) 1 = .good
    ∧ State.reset.record.slot (State.reset.record.slotOf 1) = .entry 1 (.restart 0 .cold)
    ∧ State.reset.record.oldest ≤ State.reset.record.cursor .logger
    ∧ State.reset.record.cursor .logger + 1 = State.reset.record.next
    ∧ RecordSound State.reset ∧ Unwatched State.reset.warning
    ∧ State.reset.record.Carries (State.reset.record.slotOf 1) 1
    ∧ (∀ k ∈ [CellCondition.correctable, .soft, .hard],
      { State.reset.record with cells := [(0, k)] }.cell (State.reset.record.slotOf 1) = k)
    ∧ { State.reset.record with slots := [(0, .placeholder 1)] }.slot (State.reset.record.slotOf 1)
      = .placeholder 1
    ∧ { State.reset.record with mapOut := [{ slot := 9, lost := some 1 }] }.lost 1 = true :=
  ⟨⟨rfl, by decide, rfl⟩, by decide, by decide, by decide, by decide, by decide, ⟨by decide, by decide⟩,
    witness_Unwatched, .inr ⟨_, rfl⟩, by decide, by decide, by decide⟩

theorem witness_SeekClamps : Judged .warning (.seekRecords .warning 0) State.reset
    ∧ Judged .logger (.seekRecords .logger 0xFFFFFFFF) State.reset :=
  ⟨⟨rfl, by decide, rfl⟩, ⟨rfl, by decide, rfl⟩⟩

/-! ### Witnesses: the warning and the faults -/

/-- A rule at the ends of its lists. -/
def edgeRule : RulePayload :=
  { enabled := 1, quantity := 5, mask := 0xFFFFFFFF, set := 1, clear := 1, condition := 9, level := 4
    persistence := 15 }

theorem witness_RuleLoaded : Judged .logger (.loadRule .logger 15 edgeRule) State.reset
    ∧ (ruleOf edgeRule).isSome = true ∧ State.reset.warning.holdMin ≠ 0
    ∧ Judged .logger (.loadRule .logger 16 edgeRule) State.reset
    ∧ ruleOf { edgeRule with level := 5 } = none :=
  ⟨⟨rfl, by decide, rfl⟩, by decide, by decide, ⟨rfl, by decide, rfl⟩, by decide⟩

theorem witness_CompareOrders : Rule.cold.state = .inactive ∨ Rule.cold.state = .arming := by decide

/-- Every test of both thresholds comes out both ways. -/
theorem witness_RuleMoves : Rule.cold.count < Rule.cold.persistence
    ∧ Rule.cold.count + 1 = Rule.cold.persistence
    ∧ Rule.cold.count + 1 < { Rule.cold with persistence := 2 }.persistence
    ∧ { Rule.cold with state := .clearing }.state = .clearing
    ∧ Machine.compare .eq (0#32 &&& Rule.cold.mask) Rule.cold.set = true
    ∧ Machine.compare .eq (1#32 &&& Rule.cold.mask) Rule.cold.set = false := by decide

/-- A rise from reset, and a fall at once with a hold time of 0. -/
theorem witness_FloorMoves : Judged .warning (.raiseManual .warning 4) State.reset
    ∧ Judged .warning (.raiseManual .warning 0) State.reset
    ∧ Judged .warning (.clearManual .warning) State.reset ∧ Unwatched State.reset.warning
    ∧ State.reset.warning.level < max 4 (countingLevel State.reset.warning.rules)
    ∧ State.reset.record.full = false ∧ State.reset.permit.record.state ≠ .open_
    ∧ Judged .warning (.clearManual .warning)
      (State.reset.withWarning { State.reset.warning with level := 2, floor := 2, target := 2, holdMin := 0 }) :=
  ⟨⟨rfl, by decide, rfl⟩, ⟨rfl, by decide, rfl⟩, ⟨rfl, by decide, rfl⟩, witness_Unwatched, by decide,
    by decide, by decide, ⟨rfl, by decide, rfl⟩⟩

/-- The siren sounds at level 3, with the hold timer running toward a target of 0. -/
def sounding : State :=
  State.reset.withWarning
    { State.reset.warning with
      level := 3, siren := some 600000, hold := some 3600000
      beacon := some { on := true, until_ := 100 } }

theorem witness_SirenTurnsOff : Judged .warning (.ackSiren .warning) State.reset
    ∧ State.reset.warning.siren = none ∧ Judged .warning (.ackSiren .warning) sounding
    ∧ sounding.warning.siren = some 600000 ∧ sounding.record.full = false ∧ Runs sounding
    ∧ bitSet (sounding.withFaults { sounding.faults with word := 0x40000 }).faults.word .sirenTimeout
      = true
    ∧ bitSet sounding.faults.word .sirenTimeout = false ∧ Unwatched sounding.warning :=
  ⟨⟨rfl, by decide, rfl⟩, by decide, ⟨rfl, by decide, rfl⟩, by decide, by decide, ⟨rfl, rfl⟩, by decide,
    by decide, ⟨⟨by decide, by decide, by decide, by decide, by decide, by decide⟩, by decide⟩⟩

theorem witness_WarningTimers : Judged .logger (.setWarningConfig .logger 4 720 60) sounding
    ∧ Judged .logger (.setWarningConfig .logger 5 720 60) sounding ∧ Runs sounding
    ∧ sounding.warning.hold = some 3600000 ∧ sounding.record.full = false
    ∧ sounding.permit.record.state ≠ .open_
    ∧ sounding.warning.beacon = some { on := true, until_ := 100 }
    ∧ sounding.warning.target < sounding.warning.level ∧ Unwatched sounding.warning
    ∧ sounding.warning.target < sounding.warning.sirenLevel ∧ sounding.warning.siren ≠ none :=
  ⟨⟨rfl, by decide, rfl⟩, ⟨rfl, by decide, rfl⟩, ⟨rfl, rfl⟩, by decide, by decide, by decide, by decide,
    by decide, ⟨⟨by decide, by decide, by decide, by decide, by decide, by decide⟩, by decide⟩, by decide,
    by decide⟩

/-- A batch of a DEGRADED report after a NOTICE one, the first of them fresh. -/
theorem witness_BatchTaken :
    ([{ fault := .timeStep, arg := .none }, { fault := .cableStall, arg := .none }] : List Report)
      = [{ fault := .timeStep, arg := .none }] ++ [{ fault := .cableStall, arg := .none }]
    ∧ bitSet State.reset.faults.word .timeStep = false
    ∧ (takeBatch [{ fault := .timeStep, arg := .none }] State.reset).faults.detail.isSome = true
    ∧ State.reset.faults.thresholds.logger = .all := by
  decide

theorem witness_ClearFaultsClears : Judged .logger (.clearFaults .logger 0) State.reset
    ∧ State.reset.faults.word &&& 0 = 0 ∧ Judged .logger (.clearFaults .logger 0x100000) State.reset
    ∧ State.reset.faults.word &&& 0x100000 ≠ 0 ∧ State.reset.record.full = false
    ∧ State.reset.permit.record.state ≠ .open_ ∧ State.reset.faults.detail.isSome = true :=
  ⟨⟨rfl, by decide, rfl⟩, by decide, ⟨rfl, by decide, rfl⟩, by decide, by decide, by decide, by decide⟩

/-! ### Witnesses: the cableway -/

/-- A cableway configuration at the ends of its lists. -/
def edgeCable : CablePayload :=
  { span := 500000, traverseScale := 10000, reelScale := 1, maxReel := 2000, carry := 2000, hanger := 1000
    dwell := 60000, filterWidth := 8 }

/-- An OBSERVE that counts. -/
def counting : ObserveOp :=
  { period := 10000, phase := .count 10000, pulses := 65535, saturated := false }

theorem witness_CablewayConfigured :
    Judged .cableway (.setCablewayConfig .cableway edgeCable) State.reset
    ∧ (cableConfigOf edgeCable).fits = true ∧ configRefusal (cableConfigOf edgeCable) State.reset = none
    ∧ configRefusal (cableConfigOf { edgeCable with maxReel := 1999 }) State.reset = some .range
    ∧ configRefusal (cableConfigOf edgeCable) (overWaterState []) = some .state
    ∧ configRefusal (cableConfigOf edgeCable) (inFlight (.observe counting) .waiting State.reset)
      = some .busy :=
  ⟨⟨rfl, by decide, rfl⟩, by decide, by decide, by decide, by decide, by decide⟩

/-- One axis coasting. -/
def coasting (c : Cableway) : Cableway := { c with reelAxis := .coasting 0 }

theorem witness_OperationsDrive_home : Judged .cableway (.home .cableway) State.reset
    ∧ State.reset.cableway.drive = none ∧ homeGate State.reset = true ∧ State.reset.cableway.quiet = true
    ∧ State.reset.cableway.pins.top = false
    ∧ (withCable (fun c => { c with pins := { c.pins with top := true, home := true } })
        State.reset).cableway.pins.home = true
    ∧ (withCable coasting State.reset).cableway.quiet = false
    ∧ homeGate (permitAt .halted State.reset) = true ∧ homeGate (overWaterState []) = false
    ∧ (inFlight .carry .driving State.reset).cableway.op ≠ none :=
  ⟨⟨rfl, by decide, rfl⟩, by decide, by decide, by decide, by decide, by decide, by decide, by decide,
    by decide, by decide⟩

/-- A MOVE outward, inward, to where the carriage is, and one whose target lies beyond the span; a SOUND. -/
theorem witness_OperationsDrive_over :
    Judged .cableway (.move .cableway 50000) (overWaterState [])
    ∧ moveGate (overWaterState []) = true ∧ (overWaterState []).cableway.x = 0
    ∧ (withCable (fun c => { c with traverseCount := 10 }) (overWaterState [])).cableway.x = 1
    ∧ (overWaterState []).cableway.loadTrip.passed = false ∧ (overWaterState []).cableway.quiet = true
    ∧ (overWaterState []).cableway.pins.far = false ∧ (overWaterState []).cableway.drive = none
    ∧ Judged .cableway (.move .cableway 50001) (overWaterState [])
    ∧ moveGate State.reset = false ∧ Judged .cableway (.sound .cableway) (overWaterState [])
    ∧ soundGate (overWaterState []) = true
    ∧ (overWaterState []).cableway.reel < (overWaterState []).cableway.config.maxReel :=
  ⟨⟨rfl, by decide, rfl⟩, by decide, by decide, by decide, by decide, by decide, by decide, by decide,
    ⟨rfl, by decide, rfl⟩, by decide, ⟨rfl, by decide, rfl⟩, by decide, by decide⟩

/-- Over the water with a sounding held and the reel at a length of `count` tenths of a millimetre. -/
def sounded (count : U32) : State :=
  withCable (fun c => { c with reelCount := count })
    ((overWaterState [startEdge]).withWorking { sounding := some deep, observations := [] })

/-- POSITION down, up and in place, without a sounding, and in water not deeper than the hanger offset;
CARRY above and at the carry length; REEL_FREE. -/
theorem witness_OperationsDrive_reel :
    Judged .cableway (.position .cableway 95) (sounded 0)
    ∧ (positionOp 95 150 deep).target = 2100 ∧ (sounded 0).cableway.reel = 0
    ∧ (sounded 30000).cableway.reel = 3000 ∧ (sounded 21000).cableway.reel = 2100
    ∧ (sounded 0).cableway.bottom.passed = false ∧ (sounded 0).cableway.pins.top = false
    ∧ positionCheck (overWaterState []) = some .missing
    ∧ positionCheck ((sounded 0).withWorking { sounding := some { deep with d := 150 }, observations := [] })
      = some .range
    ∧ Judged .cableway (.position .cableway 96) (sounded 0)
    ∧ Judged .cableway (.positionCarry .cableway) (sounded 30000)
    ∧ ((sounded 30000).cableway.config.carry : Int) < (sounded 30000).cableway.reel
    ∧ (sounded 5000).cableway.reel ≤ (sounded 5000).cableway.config.carry
    ∧ Judged .cableway (.reelFree .cableway) (permitAt .halted State.reset)
    ∧ reelFreeGate (withCable (fun c => { c with loadTrip := { passed := true, candidate := none } })
        (permitAt .halted State.reset)) = true :=
  ⟨⟨rfl, by decide, rfl⟩, by decide, by decide, by decide, by decide, by decide, by decide, by decide,
    by decide, ⟨rfl, by decide, rfl⟩, ⟨rfl, by decide, rfl⟩, by decide, by decide, ⟨rfl, by decide, rfl⟩,
    by decide⟩

/-- The limits asserted toward which a first drive would move, the reel at the maximum, and REEL_FREE repeated
while it drives. -/
theorem witness_OperationsDrive_limits :
    (withCable (fun c => { c with pins := { c.pins with far := true } })
        (overWaterState [])).cableway.pins.far = true
    ∧ (withCable (fun c => { c with traverseCount := 10, pins := { c.pins with home := true } })
        (overWaterState [])).cableway.x = 1
    ∧ (withCable (fun c => { c with pins := { c.pins with top := true } }) (sounded 30000)).cableway.drive
      = none
    ∧ ((sounded 100000).cableway.config.maxReel : Int) ≤ (sounded 100000).cableway.reel
    ∧ (withCable (fun c => { c with bottom := { passed := true, candidate := none } })
        (sounded 0)).cableway.bottom.passed = true
    ∧ Judged .cableway (.reelFree .cableway)
      (withCable (fun c => { c with drive := some { dir := .reelUp, fast := false, since := 0 } })
        (inFlight (.reelFree 500) .driving (permitAt .halted State.reset))) :=
  ⟨by decide, by decide, by decide, by decide, by decide, ⟨rfl, by decide, rfl⟩⟩

/-- The meter placed. -/
def placed : State :=
  withCable (fun c => { c with placement := some { fraction := 60, depth := 1200, low := false } })
    (overWaterState [startEdge])

theorem witness_ObserveRuns : Judged .cableway (.observe .cableway 0) placed
    ∧ overWater placed = true ∧ placed.cableway.placement ≠ none ∧ placed.cableway.op = none
    ∧ overWater State.reset = false ∧ (overWaterState []).cableway.placement = none
    ∧ Runs (inFlight (.observe { counting with phase := .dwell 100 }) .waiting placed)
    ∧ Runs (inFlight (.observe counting) .waiting placed) ∧ placed.cableway.drive = none
    ∧ placed.run.openBody = some (openBody [startEdge]) :=
  ⟨⟨rfl, by decide, rfl⟩, by decide, by decide, by decide, by decide, by decide, ⟨rfl, rfl⟩, ⟨rfl, rfl⟩,
    by decide, by decide⟩

/-- An operation that waits for its axis, a POSITION with its stop length, and a retract. -/
def settling (k : OpKind) (a : Axis) : State :=
  withCable (·.setAxis a (.coasting 0)) (inFlight k .settling (overWaterState [startEdge]))

theorem witness_OperationsEnd :
    Judged .cableway (.abort .cableway) (inFlight .carry .driving (overWaterState []))
    ∧ (withCable (fun c => { c with retract := some { step := .reel, phase := .driving } })
        (permitAt .standingDown State.reset)).cableway.retract ≠ none
    ∧ Judged .cableway (.abort .cableway) State.reset ∧ State.reset.cableway.retract = none
    ∧ Runs (settling (.move 0) .traverse) ∧ (settling (.move 0) .traverse).cableway.axis .traverse = .coasting 0
    ∧ ((settling (.move 0) .traverse).cableway.axis .reel).isCoasting = false
    ∧ Axis.traverse ≠ Axis.reel
    ∧ (settling (.sound (some 1) (some 2)) .reel).cableway.op
      = some { kind := .sound (some 1) (some 2), phase := .settling }
    ∧ (settling (.position { positionOp 60 150 deep with stop := some 9 }) .reel).cableway.op.isSome = true
    ∧ (withCable (fun c => { c with drive := some { dir := .reelUp, fast := false, since := 0 } })
        (inFlight (.reelFree 500) .driving State.reset)).cableway.drive
      = some { dir := .reelUp, fast := false, since := 0 } :=
  ⟨⟨rfl, by decide, rfl⟩, by decide, ⟨rfl, by decide, rfl⟩, by decide, ⟨rfl, rfl⟩, by decide, by decide,
    by decide, by decide, by decide, by decide⟩

/-- A drive that is on. -/
def driven (d : Direction) (fast : Bool) (s : State) : State :=
  withCable
    (fun c => { c.setAxis d.axis .driven with drive := some { dir := d, fast := fast, since := 0 } }) s

/-- A retract in a phase, the permit STANDING_DOWN. -/
def retracting (st : HomeStep) (ph : Phase) : State :=
  withCable (fun c => { c with retract := some { step := st, phase := ph } }) (permitAt .standingDown State.reset)

/-- A limit aimed for by HOME, MOVE, CARRY, REEL_FREE and the retract; what waits for an axis; and the repeat
watch of a REEL_FREE that waits. -/
theorem witness_OperationsEnd_steps :
    Runs (driven .reelUp true (inFlight (.home .reel false) .driving State.reset))
    ∧ Direction.reelUp.limit = some .top ∧ Direction.traverseIn.limit = some .home
    ∧ State.reset.cableway.pins.limit .top = false ∧ State.reset.cableway.pins.limit .home = false
    ∧ (driven .traverseIn true (inFlight (.move 0) .driving State.reset)).cableway.op
      = some { kind := .move 0, phase := .driving }
    ∧ (driven .reelUp true (retracting .reel .driving)).cableway.op = none
    ∧ (retracting .traverse .settling).cableway.retract = some { step := .traverse, phase := .settling }
    ∧ (settling (.home .traverse true) .traverse).cableway.op
      = some { kind := .home .traverse true, phase := .settling }
    ∧ (settling (.home .reel false) .reel).cableway.pins.home = false
    ∧ (settling (.home .reel false) .reel).cableway.loadTrip.passed = false
    ∧ (settling .carry .reel).cableway.drive = none
    ∧ (∀ n, (settling (.home .traverse true) .traverse).cableway.axis .reel = .settled n →
      |((settling (.home .traverse true) .traverse).cableway.count .reel).toInt - n.toInt| ≤ 20)
    ∧ ((withCable (·.setAxis .traverse (.coasting 0)) (settling (.reelFree 500) .reel)).cableway.axis
        .traverse).isCoasting = true
    ∧ (inFlight (.reelFree 500) .waiting State.reset).cableway.reelAxis.isCoasting = false
    ∧ (withCable coasting (inFlight (.reelFree 500) .waiting State.reset)).cableway.reelAxis.isCoasting
      = true
    ∧ (withCable coasting (inFlight (.move 7) .waiting (overWaterState []))).cableway.x < 7 := by
  refine ⟨⟨rfl, rfl⟩, by decide, by decide, by decide, by decide, by decide, by decide, by decide, by decide,
    by decide, by decide, by decide, ?_, by decide, by decide, by decide, by decide⟩
  intro n h
  have e : AxisState.settled 0 = AxisState.settled n := h
  cases e
  decide

/-- The meter closed, with and without a candidate. -/
def meterAt (f : Filter) (width : Nat) : State :=
  withCable (fun c => { c with meter := f, config := { c.config with filterWidth := width } }) State.reset

theorem witness_InputsFiltered : Runs (meterAt { passed := true, candidate := none } 0)
    ∧ false ≠ ((meterAt { passed := true, candidate := none } 0).cableway.filter .meter).passed
    ∧ (meterAt { passed := true, candidate := none } 0).cableway.config.width .meter = 0
    ∧ (meterAt { passed := false, candidate := some 3 } 8).cableway.config.width .meter ≠ 0
    ∧ ((meterAt { passed := false, candidate := some 3 } 8).cableway.filter .meter).candidate = some 3
    ∧ (meterAt { passed := false, candidate := some 3 } 8).cableway.op = none
    ∧ (inFlight (.observe counting) .waiting
        (meterAt { passed := false, candidate := some 3 } 8)).cableway.op
      = some { kind := .observe counting, phase := .waiting }
    ∧ (holdReset .pin State.reset).held ≠ none :=
  ⟨⟨rfl, rfl⟩, by decide, by decide, by decide, by decide, by decide, by decide, by decide⟩

/-- A contact with width 0 that asserts during OBSERVE's count, and a SOUND with its surface mark that waits for
the traverse. -/
theorem witness_InputsFiltered_width0 :
    Runs (inFlight (.observe counting) .waiting (meterAt { passed := false, candidate := none } 0))
    ∧ (meterAt { passed := false, candidate := none } 0).cableway.config.width .meter = 0
    ∧ true ≠ (meterAt { passed := false, candidate := none } 0).cableway.meter.passed
    ∧ counting.phase = .count 10000 ∧ Contact.bottom ≠ .loadTrip
    ∧ (inFlight (.sound (some 1) none) .waiting (withCable coasting State.reset)).cableway.quiet = false
    ∧ (inFlight (.sound (some 1) none) .waiting (withCable coasting State.reset)).cableway.drive = none :=
  ⟨⟨rfl, rfl⟩, by decide, by decide, by decide, by decide, by decide, by decide⟩

/-- A bottom contact with width 0 ends SOUND's way down at its first difference. -/
theorem test_bottom_contact_width0 :
    (changeInput .bottom true
      (driven .reelDown false (inFlight (.sound (some 1) none) .driving
        (meterAt { passed := false, candidate := none } 0)))).cableway.op
      = some { kind := .sound (some 1) (some 0), phase := .settling } := by decide

/-- A surface and a bottom contact that have held while SOUND and POSITION reel DOWN. -/
theorem witness_InputsFiltered_contacts :
    Runs (driven .reelDown true (inFlight (.sound none none) .driving (overWaterState [])))
    ∧ (driven .reelDown true (inFlight (.sound none none) .driving (overWaterState []))).cableway.drive
      = some { dir := .reelDown, fast := true, since := 0 }
    ∧ Direction.reelDown.axis = .reel
    ∧ (OpKind.sound (some 1) none) ≠ .sound none none ∧ (OpKind.sound none none) ≠ .sound (some 1) none
    ∧ (withCable (·.setFilter .bottom { passed := false, candidate := some 5 })
        (overWaterState [])).cableway.bottom.candidate = some 5 :=
  ⟨⟨rfl, rfl⟩, by decide, by decide, by decide, by decide, by decide⟩

/-- A MOVE that drives out. -/
def driving : State :=
  withCable (fun c => { c with drive := some { dir := .traverseOut, fast := true, since := 0 } })
    (inFlight (.move 50000) .driving (overWaterState []))

theorem witness_WatchesHalt : Runs driving
    ∧ driving.cableway.drive = some { dir := .traverseOut, fast := true, since := 0 }
    ∧ driving.cableway.op = some { kind := .move 50000, phase := .driving }
    ∧ driving.cableway.pins.far = false ∧ Runs State.reset ∧ State.reset.cableway.drive = none
    ∧ driving.cableway.loadTrip.passed = false
    ∧ (withCable (fun c => { c with loadTrip := { passed := false, candidate := some 1 } })
        driving).cableway.loadTrip.candidate ≠ none
    ∧ driving.permit.record.state = .open_ ∧ driving.cableway.axis .reel = .settled 0
    ∧ |((driving.cableway.count .reel) + 1).toInt - (0#32).toInt| ≤ 20
    ∧ (20 : Int) < |(20#32 + 1).toInt - (0#32).toInt|
    ∧ (withCable coasting State.reset).cableway.axis .reel = .coasting 0 :=
  ⟨⟨rfl, rfl⟩, by decide, by decide, by decide, ⟨rfl, rfl⟩, by decide, by decide, by decide, by decide,
    by decide, by decide, by decide, by decide⟩

/-- Limits that stop a step that does not aim for them, the permit's other states, and an axis that is driven
short of its target, to it, and to the maximum reel length. -/
theorem witness_WatchesHalt_steps :
    Direction.traverseOut.limit = some .far ∧ driving.cableway.pins.limit .far = false
    ∧ (50000 : Int) ≠ 0 ∧ (permitAt .standingDown driving).permit.record.state = .standingDown
    ∧ (permitAt .closed driving).permit.record.state = .closed
    ∧ (driven .traverseOut true driving).cableway.axis .traverse = .driven
    ∧ Runs (driven .traverseOut true driving) ∧ Direction.traverseOut.axis = .traverse
    ∧ (driven .traverseOut true driving).cableway.count .traverse ≠ 2147483647#32
    ∧ ((driven .traverseOut true driving).cableway.setCount .traverse 1).x = 0
    ∧ ((driven .reelDown true (sounded 99999)).cableway.setCount .reel 100000).reel = 10000
    ∧ ((driven .reelUp true (sounded 5001)).cableway.setCount .reel 5000).reel = 500
    ∧ (driven .reelUp true (retracting .reel .driving)).cableway.loadTrip.passed = false :=
  ⟨by decide, by decide, by decide, by decide, by decide, by decide, ⟨rfl, rfl⟩, by decide, by decide,
    by decide, by decide, by decide, by decide⟩

/-! ### Witnesses: runs and the permit -/

/-- A meter rating at the ends of its ranges. -/
def edgeMeter : OpenRunPayload := { a := 1000, b := 2000000, ppr := 20, unsteady := 1000 }

/-- The part ready for a run. -/
def ready : State := (goodStage State.reset).withCableway referencedCable

/-- The grant, each of its seven refusals, BUSY and RANGE. -/
theorem witness_RunOpens : Judged .cableway (.openRun .cableway edgeMeter) ready
    ∧ meterFits edgeMeter = true ∧ meterFits { edgeMeter with ppr := 0 } = false
    ∧ grantFault ready = none ∧ grantFault (permitAt .halted ready) = some 0
    ∧ grantFault State.reset = some 1
    ∧ grantFault (withCable (fun c => { c with loadTrip := { passed := true, candidate := none } }) ready)
      = some 2
    ∧ grantFault (State.reset.withCableway referencedCable) = some 3
    ∧ grantFault (ready.withWarning { ready.warning with level := 3 }) = some 4
    ∧ grantFault (ready.withPermit { ready.permit with rate := 1 }) = some 5
    ∧ grantFault (ready.withPermit { ready.permit with stage := some 1000 }) = some 6
    ∧ (inFlight .carry .driving ready).cableway.op ≠ none :=
  ⟨⟨rfl, by decide, rfl⟩, by decide, by decide, by decide, by decide, by decide, by decide, by decide,
    by decide, by decide, by decide, by decide⟩

/-- An open run over a stack, the working vertical with what a TWO_POINT vertical needs. -/
def gauging (stack : List StackItem) : State :=
  (overWaterState stack).withWorking
    { sounding := some deep, observations := [observedAt 20, observedAt 60, observedAt 80] }

theorem witness_StackItems : Judged .cableway (.addEdge .cableway 0 30000) (gauging [])
    ∧ (gauging []).run.openBody = some (openBody []) ∧ (gauging []).cableway.op = none
    ∧ State.reset.run.openBody = none ∧ (inFlight .carry .driving (gauging [])).cableway.op ≠ none
    ∧ Judged .cableway (.addEdge .cableway 1 30000) (gauging [startEdge])
    ∧ [startEdge].getLast? = some startEdge ∧ startEdge.kind ≠ .finish
    ∧ liesBeyond (openBody [startEdge]) (gauging [startEdge]).cableway.x = true
    ∧ liesBeyond (openBody [{ startEdge with distance := 0 }]) (gauging []).cableway.x = false
    ∧ endEdge.kind = .finish ∧ Judged .cableway (.acceptVertical .cableway 1) (gauging [startEdge])
    ∧ liesBeyond (openBody [startEdge]) deep.x = true
    ∧ (gauging [startEdge]).working.newestAt 20 = some (observedAt 20)
    ∧ (gauging [startEdge]).working.newestAt 80 = some (observedAt 80)
    ∧ (gauging [startEdge]).working.newestAt 60 = some (observedAt 60)
    ∧ Judged .cableway (.discardLast .cableway) (gauging [startEdge]) :=
  ⟨⟨rfl, by decide, rfl⟩, by decide, by decide, by decide, by decide, ⟨rfl, by decide, rfl⟩, by decide,
    by decide, by decide, by decide, by decide, ⟨rfl, by decide, rfl⟩, by decide, by decide, by decide,
    by decide, ⟨rfl, by decide, rfl⟩⟩

/-- The refusals of an item: a kind, a depth and a method out of range, a shut stack, a working vertical that
lacks what its method needs, and an x that does not lie beyond. -/
theorem witness_StackItems_refused : 1 < (2#8).toNat ∧ 30000 < (30001#16).toNat ∧ 2 < (3#8).toNat
    ∧ Judged .cableway (.addEdge .cableway 2 0) (gauging [])
    ∧ Judged .cableway (.acceptVertical .cableway 3) (gauging [])
    ∧ [startEdge, endEdge].getLast? = some endEdge
    ∧ (overWaterState [startEdge]).working.sounding = none
    ∧ ((gauging []).withWorking { sounding := some deep, observations := [] }).working.newestAt 60 = none
    ∧ liesBeyond (openBody [{ startEdge with distance := 10 }]) deep.x = false :=
  ⟨by decide, by decide, by decide, ⟨rfl, by decide, rfl⟩, ⟨rfl, by decide, rfl⟩, by decide, by decide,
    by decide, by decide⟩

/-- A stack that may close COMPLETE, and one for each condition that fails. -/
theorem witness_RunCloses : Judged .cableway (.closeRun .cableway 1) (gauging [])
    ∧ Judged .cableway (.closeRun .cableway 0) (gauging [startEdge, vertical, endEdge])
    ∧ (gauging []).run.openBody = some (openBody []) ∧ (gauging []).cableway.op = none
    ∧ (gauging []).permit.record.state = .open_
    ∧ completeFault [startEdge, vertical, endEdge] = none ∧ completeFault [] = some 0
    ∧ completeFault [startEdge] = some 1 ∧ completeFault [startEdge, endEdge] = some 2 :=
  ⟨⟨rfl, by decide, rfl⟩, ⟨rfl, by decide, rfl⟩, by decide, by decide, by decide, by decide, by decide,
    by decide, by decide⟩

/-- The mid-section of one vertical: 1,000 mm deep and 2,000 mm wide at 500 mm/s. -/
theorem witness_runResults :
    (runResults (openBody
      [{ startEdge with distance := 0 },
        { startEdge with kind := .vertical .onePoint, distance := 2000, depth := 1000, velocity := 500 },
        { startEdge with kind := .finish, distance := 4000 }])).q = 1000
    ∧ (runResults (openBody [startEdge, { vertical with depth := 2 }, endEdge])).area = 35
    ∧ (runResults (openBody [startEdge, vertical, endEdge])).area = 0 := by decide

theorem witness_StanddownSet :
    Judged .logger (.setStanddown .logger { level := 4, rate := 32767, stage := 0x8000 }) State.reset
    ∧ standdownFits { level := 4, rate := 32767, stage := 0x8000 } = true
    ∧ standdownFits { level := 4, rate := 32768, stage := 0x8000 } = false
    ∧ State.reset.permit.record.state ≠ .open_ ∧ (goodStage (overWaterState [])).permit.record.state = .open_
    ∧ standdownFits { level := 0, rate := 0, stage := 1000 } = true
    ∧ standCondition ((goodStage (overWaterState [])).withPermit
        { (overWaterState []).permit with level := 0, rate := 0, stage := some 1000 }) = some .stage
    ∧ (goodStage (overWaterState [])).run.openBody = some (openBody [])
    ∧ (goodStage (overWaterState [])).record.full = false
    ∧ (goodStage (overWaterState [])).cableway.quiet = true :=
  ⟨⟨rfl, by decide, rfl⟩, by decide, by decide, by decide, by decide, by decide, by decide, by decide,
    by decide, by decide⟩

/-- With no pulses, and with pulses whose quotient is an exact half. -/
theorem witness_PointVelocity : pointVelocity 15 260000 1 0 60000 = 0 ∧ (1 : Nat) ≠ 0
    ∧ pointVelocity 0 1 1 1 2 = 1 := by decide

/-- A step that answers a next state from a state that meets every invariant. -/
theorem witness_KeptByStep :
    FaultWordReserved State.reset ∧ ShiftWithinLimit State.reset ∧ LoadTripDrives State.reset
    ∧ (∃ t, step State.reset = .next t) := by
  refine ⟨by unfold FaultWordReserved; decide, by unfold ShiftWithinLimit; decide, ?_, ⟨_, rfl⟩⟩
  intro h
  exact absurd h (by decide)

/-- CH0 in service as the primary, in the pre-warm set. -/
def primaryOn : State :=
  setPreWarm .ch0 true (ch0On.withStage { ch0On.stage with primary := some .ch0, check := none })

theorem witness_StoredStateKept :
    SelectionsSound primaryOn ∧ PreWarmSound primaryOn ∧ RecordEventsStand primaryOn
    ∧ (∃ t, step primaryOn = .next t) := by
  refine ⟨⟨?_, ?_⟩, ?_, fun _ => ?_, ⟨_, rfl⟩⟩
  · intro c h
    have h' : c = .ch0 := by
      have e : primaryOn.stage.primary = some .ch0 := rfl
      rw [e] at h
      exact (Option.some.inj h).symm
    subst h'
    decide
  · intro c h
    exact absurd h (by decide +revert)
  · intro c
    cases c <;> decide
  · decide

theorem witness_WarningSoundKept : WarningSound State.reset.warning
    ∧ (∃ t, step State.reset = .next t) :=
  ⟨witness_warningSound, ⟨_, rfl⟩⟩

theorem witness_LoadTripDrivesKept : State.reset.cableway.loadTrip.passed = false
    ∧ (∃ t, step State.reset = .next t) :=
  ⟨rfl, ⟨_, rfl⟩⟩

theorem witness_PermitMeetsRunKept : PermitMeetsRun (overWaterState [])
    ∧ (∃ t, step (overWaterState []) = .next t) :=
  ⟨fun _ => by decide, ⟨_, rfl⟩⟩

end Sys2Proof.Tests
end

/-! CONFIGURE_CHANNEL (R20): the channel a payload byte names, the ranges of a configuration's fields,
and what the command gives. -/

namespace Sys2Proof.Machine

/-! ### A judged command -/

/-- A judged command whose step is `command` gives what its work answers. -/
theorem gives_of_work {p : Port} {c : Instr} {s u : State} {a : Answer} {work : State → State × Answer}
    (hj : Judged p c s) (he : exec c s = command p c work s) (hw : work s = (u, a)) :
    Gives p c s u a :=
  gives_of_exec (by rw [he, command_judged hj, hw])

/-! ### The channel that a payload byte names -/

@[simp] theorem chanOfByte_chanByte (c : Chan) : chanOfByte (chanByte c) = some c := by
  cases c <;> rfl

/-- No channel has a number above 3. -/
theorem chanOfByte_above {ch : Byte} (h : 3 < ch.toNat) : chanOfByte ch = none := by
  unfold chanOfByte
  split
  case h_5 => rfl
  all_goals omega

@[simp] theorem withChannel_chanByte (c : Chan) (work : Chan → State → State × Answer) (s : State) :
    withChannel (chanByte c) work s = work c s := by
  simp [withChannel]

theorem withChannel_above {ch : Byte} (h : 3 < ch.toNat) (work : Chan → State → State × Answer)
    (s : State) : withChannel ch work s = (s, plain .range) := by
  simp [withChannel, chanOfByte_above h]

/-! ### The codes of a configuration -/

/-- The power mode codes are 0 and 1. -/
theorem powerModeOf_cases (b : Byte) : b = 0 ∨ b = 1 ∨ (1 < b.toNat ∧ powerModeOf b = none) := by
  by_cases h0 : b = 0
  · exact .inl h0
  · by_cases h1 : b = 1
    · exact .inr (.inl h1)
    · exact .inr (.inr ⟨by bv_omega, by rw [powerModeOf, if_neg h0, if_neg h1]⟩)

theorem powerModeOf_isSome (b : Byte) : (powerModeOf b).isSome = true ↔ b.toNat ≤ 1 := by
  obtain rfl | rfl | ⟨hb, hnone⟩ := powerModeOf_cases b
  · decide
  · decide
  · simp [hnone, hb]

theorem powerModeOf_getD (b : Byte) :
    (powerModeOf b).getD .continuous = if b.toNat = 1 then .switched else .continuous := by
  obtain rfl | rfl | ⟨hb, hnone⟩ := powerModeOf_cases b
  · rfl
  · rfl
  · simp [hnone, hb.ne']

/-- The warm-up times of R20 as a table by code. -/
theorem warmUpMs_eq_table : ∀ k, warmUpMs k = [0, 100, 500, 2000, 5000, 10000].getD k 0
  | 0 | 1 | 2 | 3 | 4 | 5 => rfl
  | _ + 6 => rfl

/-! ### CONFIGURE_CHANNEL -/

/-- R20's ranges: every field, the window, and the length of warm-up and burst. -/
def ConfigInRange (c : Chan) (x : ChannelPayload) : Prop :=
  x.mode.toNat ≤ 1 ∧ x.warmUp.toNat ≤ 5 ∧ 1 ≤ x.n.toNat ∧ x.n.toNat ≤ 15
  ∧ -32000 ≤ x.offset.toInt ∧ x.offset.toInt ≤ 32000
  ∧ -1000000 ≤ x.low.toInt ∧ x.low.toInt ≤ x.high.toInt ∧ x.high.toInt ≤ 1000000
  ∧ 1 ≤ x.f.toNat ∧ x.f.toNat ≤ 15 ∧ (c = .ch2 → 1 ≤ x.maxStep.toNat)
  ∧ [0, 100, 500, 2000, 5000, 10000].getD x.warmUp.toNat 0 + x.n.toNat * 200 ≤ 11500

theorem configFits_iff (c : Chan) (x : ChannelPayload) : configFits c x = true ↔ ConfigInRange c x := by
  simp only [configFits, ConfigInRange, inRange, Bool.and_eq_true, Bool.or_eq_true, decide_eq_true_eq,
    powerModeOf_isSome, warmUpMs_eq_table, ne_eq, ← imp_iff_not_or]
  constructor
  · rintro ⟨⟨⟨⟨⟨⟨⟨⟨⟨⟨⟨mode, warmUp⟩, n1⟩, n2⟩, offset⟩, low⟩, high⟩, window⟩, f1⟩, f2⟩, step⟩, burst⟩
    exact ⟨mode, warmUp, n1, n2, offset.1, offset.2, low.1, window, high.2, f1, f2, step, burst⟩
  · rintro ⟨mode, warmUp, n1, n2, offset1, offset2, low, window, high, f1, f2, step, burst⟩
    exact ⟨⟨⟨⟨⟨⟨⟨⟨⟨⟨⟨mode, warmUp⟩, n1⟩, n2⟩, offset1, offset2⟩, low, by omega⟩, by omega, high⟩, window⟩,
      f1⟩, f2⟩, step⟩, burst⟩

/-- The configuration stored, with its power mode by code. -/
theorem configOf_eq (c : Chan) (x : ChannelPayload) :
    configOf c x =
      { mode := if x.mode.toNat = 1 then .switched else .continuous
        warmUp := x.warmUp.toNat, n := x.n.toNat, gain := x.gain.toInt, offset := x.offset.toInt
        low := x.low.toInt, high := x.high.toInt, f := x.f.toNat
        maxStep := if c = .ch2 then x.maxStep.toNat else 0 } := by
  rw [configOf, powerModeOf_getD]

theorem exec_configureChannel (p : Port) (ch : Byte) (x : ChannelPayload) (s : State) :
    exec (.configureChannel p ch x) s = execConfigureChannel p ch x s := rfl

section
variable {p : Port} {c : Chan} {x : ChannelPayload} {s : State}

/-- A DISABLED channel takes the configuration whole. -/
theorem configureChannel_accepts (hj : Judged p (.configureChannel p (chanByte c) x) s)
    (hx : ConfigInRange c x) (hd : (chan c s).state = .disabled) :
    Gives p (.configureChannel p (chanByte c) x) s
      (setChan c { chan c s with config := configOf c x } s) (plain .ok) :=
  gives_of_work hj (exec_configureChannel ..) (by simp [(configFits_iff c x).2 hx, hd])

theorem configureChannel_refuses_state (hj : Judged p (.configureChannel p (chanByte c) x) s)
    (hx : ConfigInRange c x) (hd : (chan c s).state ≠ .disabled) :
    Gives p (.configureChannel p (chanByte c) x) s s (plain .state) :=
  gives_of_work hj (exec_configureChannel ..) (by simp [(configFits_iff c x).2 hx, hd])

/-- The ranges are judged before the channel's state. -/
theorem configureChannel_refuses_range (hj : Judged p (.configureChannel p (chanByte c) x) s)
    (hx : ¬ConfigInRange c x) : Gives p (.configureChannel p (chanByte c) x) s s (plain .range) :=
  gives_of_work hj (exec_configureChannel ..) (by simp [mt (configFits_iff c x).1 hx])

theorem configureChannel_refuses_number {ch : Byte} (hj : Judged p (.configureChannel p ch x) s)
    (h : 3 < ch.toNat) : Gives p (.configureChannel p ch x) s s (plain .range) :=
  gives_of_work hj (exec_configureChannel ..) (withChannel_above h _ s)

end

/-- Settles O22: each clause is one outcome of the command, by the ranges and the channel's state. -/
theorem configureChannelReplaces : Obligations.ConfigureChannelReplaces := by
  intro ch x s hj
  refine ⟨?_, configureChannel_refuses_number hj⟩
  rintro c rfl
  refine ⟨fun hx hd => ?accepted, configureChannel_refuses_state hj, configureChannel_refuses_range hj⟩
  case accepted =>
    rw [← configOf_eq]
    exact configureChannel_accepts hj hx hd

end Sys2Proof.Machine

/-! The station stage and its rate of rise (R40 to R45, R49, R50): what each step of forming the stage
gives, and what the whole does. -/

namespace Sys2Proof.Machine

/-! ### Clamping and reading qualities -/

theorem clampInt_eq_max_min {lo hi : Int} (h : lo ≤ hi) (v : Int) :
    clampInt lo hi v = max lo (min hi v) := by
  unfold clampInt
  split
  · omega
  · split <;> omega

/-- The entries that the rate of rise uses are those that were read. -/
theorem unread_eq_false_iff (q : Quality) : unread q = false ↔ q = .good ∨ q = .suspect := by
  cases q <;> decide

/-! ### The readings handed and the row of R41 -/

theorem handedReading_eq_some_iff {a : Acquisition} {sel : Option Chan} {c : Chan} {v : Int} :
    handedReading a sel = some (v, c) ↔ sel = some c ∧ a.handed.get c = some (.valid v) := by
  cases sel with
  | none => simp [handedReading]
  | some k =>
    simp only [handedReading]
    split
    case h_1 w hw =>
      constructor
      · rintro ⟨⟩
        exact ⟨rfl, hw⟩
      · rintro ⟨⟨⟩, hv⟩
        rw [hw] at hv
        cases hv
        rfl
    all_goals
      rename_i hw
      refine ⟨nofun, ?_⟩
      rintro ⟨⟨⟩, hv⟩
      rw [hw] at hv
      cases hv

theorem handedReading_eq_none_iff {a : Acquisition} {sel : Option Chan} :
    handedReading a sel = none ↔ ∀ c v, ¬(sel = some c ∧ a.handed.get c = some (.valid v)) := by
  simp only [Option.eq_none_iff_forall_ne_some, Prod.forall, ne_eq, handedReading_eq_some_iff]
  exact forall_comm

/-- The row of R41's table that an acquisition meets. -/
def chosenStage (a : Acquisition) (u : StageUnit) : Chosen :=
  choose (handedReading a u.primary) (handedReading a u.check) u.earlier

section
variable {a : Acquisition} {u : StageUnit} {c : Chan} {v : Int}

theorem chosenStage_primary (hp : handedReading a u.primary = some (v, c)) :
    chosenStage a u = .read v c false := by
  simp only [chosenStage, hp, choose]

theorem chosenStage_check (hp : handedReading a u.primary = none)
    (hk : handedReading a u.check = some (v, c)) : chosenStage a u = .read v c true := by
  simp only [chosenStage, hp, hk, choose]

theorem chosenStage_held (hp : handedReading a u.primary = none) (hk : handedReading a u.check = none)
    (he : u.earlier = some (v, c)) : chosenStage a u = .held v c := by
  simp only [chosenStage, hp, hk, he, choose]

theorem chosenStage_nothing (hp : handedReading a u.primary = none) (hk : handedReading a u.check = none)
    (he : u.earlier = none) : chosenStage a u = .nothing := by
  simp only [chosenStage, hp, hk, he, choose]

end

/-! ### The cross-check (R45) -/

/-- The cross-check writes its count and its difference alone. -/
theorem crossCheck_frame (prim chk : Option (Int × Chan)) (u : StageUnit) :
    ∃ n d, crossCheck prim chk u = { u with disagreeCount := n, lastDiff := d } := by
  unfold crossCheck
  split <;> exact ⟨_, _, rfl⟩

theorem crossCheck_missing {prim chk : Option (Int × Chan)} (h : prim = none ∨ chk = none)
    (u : StageUnit) : crossCheck prim chk u = { u with lastDiff := none } := by
  obtain rfl | rfl := h
  · rfl
  · cases prim <;> rfl

/-! ### The stage formed -/

section
variable (a : Acquisition) (u : StageUnit)

theorem formStage_sampleTime : (formStage a u).record.sampleTime = some a.sampleTime := by
  show (formRecord (chosenStage a u) _ _ _).sampleTime = _
  cases chosenStage a u <;> rfl

theorem formStage_lastDiff : (formStage a u).lastDiff
    = (crossCheck (handedReading a u.primary) (handedReading a u.check) u).lastDiff := rfl

theorem formStage_disagreeCount : (formStage a u).disagreeCount
    = (crossCheck (handedReading a u.primary) (handedReading a u.check) u).disagreeCount := rfl

/-- Forming the stage leaves the selections and the settings alone. -/
theorem formStage_settings : (formStage a u).primary = u.primary ∧ (formStage a u).check = u.check
    ∧ (formStage a u).limit = u.limit ∧ (formStage a u).k = u.k ∧ (formStage a u).w = u.w := by
  obtain ⟨n, d, h⟩ := crossCheck_frame (handedReading a u.primary) (handedReading a u.check) u
  simp [formStage, h]

variable {a u} {c : Chan} {v : Int}

/-- The stage of a reading: the record's fields, the new earlier value, and no held-since time. -/
theorem formStage_read {sub : Bool} (h : chosenStage a u = .read v c sub) :
    let t := formStage a u
    let v' := clampInt (-32000) 32000 v
    let disagree := decide (u.k ≤ t.disagreeCount)
    t.record.value = some v' ∧ t.record.source = some c ∧ t.record.substituted = sub
    ∧ t.record.clamped = decide (v' ≠ v) ∧ t.record.disagree = disagree
    ∧ t.record.quality = (if sub = true ∨ v' ≠ v ∨ disagree = true then .suspect else .good)
    ∧ t.earlier = some (v', c) ∧ t.heldSince = none := by
  unfold chosenStage at h
  simp only [formStage, h, formRecord, Bool.or_eq_true, decide_eq_true_eq, or_assoc, and_self]

/-- The stage of an earlier value that is held: the held-since time stands in a run of HELD updates. -/
theorem formStage_held (h : chosenStage a u = .held v c) :
    let t := formStage a u
    t.record.value = some v ∧ t.record.source = some c ∧ t.record.quality = .held
    ∧ t.record.substituted = false ∧ t.record.clamped = false
    ∧ t.record.disagree = decide (u.k ≤ t.disagreeCount) ∧ t.earlier = u.earlier
    ∧ t.heldSince = (if u.record.quality = .held then u.heldSince else some a.sampleTime) := by
  unfold chosenStage at h
  simp only [formStage, h, formRecord, and_self]

theorem formStage_nothing (h : chosenStage a u = .nothing) :
    let t := formStage a u
    t.record.value = none ∧ t.record.source = none ∧ t.record.quality = .none
    ∧ t.record.substituted = false ∧ t.record.clamped = false ∧ t.record.disagree = false
    ∧ t.earlier = u.earlier ∧ t.heldSince = none := by
  unfold chosenStage at h
  simp only [formStage, h, formRecord, and_self]

/-- With no reading the earlier value stands, whether it is held or absent. -/
theorem formStage_earlier_missing (hp : handedReading a u.primary = none)
    (hk : handedReading a u.check = none) : (formStage a u).earlier = u.earlier := by
  cases he : u.earlier with
  | none =>
    obtain ⟨-, -, -, -, -, -, earlier, -⟩ := formStage_nothing (chosenStage_nothing hp hk he)
    rw [earlier, he]
  | some x =>
    obtain ⟨-, -, -, -, -, -, earlier, -⟩ := formStage_held (chosenStage_held hp hk he)
    rw [earlier, he]

/-- With both readings the count rises beyond the limit and is 0 within it. -/
theorem formStage_both {k : Chan} {w : Int} (hp : handedReading a u.primary = some (v, c))
    (hk : handedReading a u.check = some (w, k)) :
    (formStage a u).lastDiff = some (v - w)
    ∧ (formStage a u).disagreeCount
      = if (u.limit : Int) < |v - w| then min 15 (u.disagreeCount + 1) else 0 := by
  rw [formStage_lastDiff, formStage_disagreeCount, hp, hk]
  exact ⟨rfl, rfl⟩

theorem formStage_oneMissing
    (h : handedReading a u.primary = none ∨ handedReading a u.check = none) :
    (formStage a u).lastDiff = none ∧ (formStage a u).disagreeCount = u.disagreeCount := by
  rw [formStage_lastDiff, formStage_disagreeCount, crossCheck_missing h]
  exact ⟨rfl, rfl⟩

end

/-- Settles O29: each clause is one row of R41's table, or one case of the cross-check. -/
theorem stageFormed : Obligations.StageFormed := by
  intro a u t x reads missing inStageRange disagree isRead
  have hsome {sel c v} : reads sel c v → handedReading a sel = some (v, c) :=
    handedReading_eq_some_iff.2
  have hnone {sel} : missing sel → handedReading a sel = none := handedReading_eq_none_iff.2
  have hread {c v sub} (h : chosenStage a u = .read v c sub) : isRead c v sub := by
    have hformed := formStage_read h
    rw [clampInt_eq_max_min (by decide)] at hformed
    exact hformed
  refine ⟨formStage_sampleTime a u, fun c v hp => hread (chosenStage_primary (hsome hp)),
    fun c v hp hk => hread (chosenStage_check (hnone hp) (hsome hk)),
    fun hp hk => formStage_earlier_missing (hnone hp) (hnone hk),
    fun c v hp hk he => ?held, fun hp hk he => ?nothing, fun c v k w hp hk => ?both,
    fun h => formStage_oneMissing (h.imp hnone hnone), formStage_settings a u⟩
  case held =>
    obtain ⟨value, source, quality, sub, clamped, hdisagree, -, since⟩ :=
      formStage_held (chosenStage_held (hnone hp) (hnone hk) he)
    exact ⟨value, source, quality, sub, clamped, hdisagree, fun h => since.trans (if_pos h),
      fun h => since.trans (if_neg h)⟩
  case nothing =>
    obtain ⟨value, source, quality, sub, clamped, hdisagree, -, since⟩ :=
      formStage_nothing (chosenStage_nothing (hnone hp) (hnone hk) he)
    exact ⟨value, source, quality, sub, clamped, hdisagree, since⟩
  case both =>
    obtain ⟨diff, count⟩ := formStage_both (hsome hp) (hsome hk)
    exact ⟨diff, fun h => count.trans (if_pos h), fun h => count.trans (if_neg (not_lt.2 h))⟩

/-! ### The history ring (R49) -/

/-- The entry that the stage formed adds to the ring. -/
def newestEntry (a : Acquisition) (u : StageUnit) : RingEntry :=
  { time := a.sampleTime, value := (formStage a u).record.value
    quality := (formStage a u).record.quality }

theorem formStage_ring (a : Acquisition) (u : StageUnit) :
    (formStage a u).ring = ringPush u.ring (newestEntry a u) := rfl

theorem ringPush_of_lt {ring : List RingEntry} (h : ring.length < 16) (e : RingEntry) :
    ringPush ring e = ring ++ [e] := by
  rw [ringPush, if_neg (not_le.2 h)]

theorem ringPush_full {ring : List RingEntry} (h : ring.length = 16) (e : RingEntry) :
    ringPush ring e = ring.tail ++ [e] := by
  rw [ringPush, if_pos h.ge, h, List.drop_one]

@[simp] theorem getLast?_ringPush (ring : List RingEntry) (e : RingEntry) :
    (ringPush ring e).getLast? = some e := by
  simp [ringPush]

theorem mem_of_mem_ringPush {ring : List RingEntry} {e x : RingEntry} (h : x ∈ ringPush ring e) :
    x ∈ ring ∨ x = e := by
  rw [ringPush, List.mem_append, List.mem_singleton] at h
  refine h.imp_left fun hx => ?_
  split at hx
  · exact List.mem_of_mem_drop hx
  · exact hx

/-- A stage that was read has its value. -/
theorem newestEntry_value_isSome {a : Acquisition} {u : StageUnit}
    (h : unread (newestEntry a u).quality = false) : (newestEntry a u).value.isSome = true := by
  cases hc : chosenStage a u with
  | read v c sub =>
    obtain ⟨value, -⟩ := formStage_read hc
    rw [newestEntry, value, Option.isSome_some]
  | held v c =>
    obtain ⟨value, -⟩ := formStage_held hc
    rw [newestEntry, value, Option.isSome_some]
  | nothing =>
    obtain ⟨-, -, quality, -⟩ := formStage_nothing hc
    rw [newestEntry, quality] at h
    cases h

/-! ### The rate of rise (R50) -/

theorem formStage_rate (a : Acquisition) (u : StageUnit) :
    ((formStage a u).record.rate, (formStage a u).record.rateValid)
      = computeRate u.w (formStage a u).ring u.record.rate := rfl

section
variable {w : Nat} {ring : List RingEntry} {newest : RingEntry} {previous : Int}

/-- With a newest entry that was not read the rate stands. -/
theorem computeRate_unread (hl : ring.getLast? = some newest) (hn : unread newest.quality = true) :
    computeRate w ring previous = (previous, false) := by
  simp only [computeRate, hl, hn]
  cases newest.value <;> rfl

/-- The rate since `oldest`, the first entry of the last `w` that was read. -/
theorem computeRate_read {before later : List RingEntry} {oldest : RingEntry} {v v₀ : Int}
    (hl : ring.getLast? = some newest) (hn : unread newest.quality = false)
    (hv : newest.value = some v) (hw : ring.drop (ring.length - w) = before ++ oldest :: later)
    (hb : ∀ e ∈ before, unread e.quality = true) (ho : unread oldest.quality = false)
    (hv₀ : oldest.value = some v₀) :
    computeRate w ring previous =
      if (newest.time - oldest.time).toNat = 0 then (previous, false)
      else (clampInt (-32767) 32767 (roundTowardZero ((v - v₀) * 3600)
        (newest.time - oldest.time).toNat), true) := by
  have hfind : (ring.drop (ring.length - w)).find? (fun e => !unread e.quality && e.value.isSome)
      = some oldest := by
    rw [hw, List.find?_append, List.find?_eq_none.2 fun e he => by simp [hb e he]]
    simp [ho, hv₀]
  simp only [computeRate, hl, hn, hv, hfind, hv₀, Option.getD_some]

end

/-- Settles O30: the ring's clauses are those of a push, and the rate's are the cases of `computeRate` on
the ring formed, whose last entry is the newest. -/
theorem rateFormed : Obligations.RateFormed := by
  intro a u t x usable newest
  have hlast : t.ring.getLast? = some newest := getLast?_ringPush u.ring _
  have hrate : (x.rate, x.rateValid) = computeRate u.w t.ring u.record.rate := formStage_rate a u
  have husable {e} : usable e ↔ unread e.quality = false := (unread_eq_false_iff e.quality).symm
  have hunusable {e} : ¬usable e → unread e.quality = true := by simp [husable]
  refine ⟨fun h => ringPush_of_lt h _, fun h => ringPush_full h _, fun hn => ?unread,
    fun before oldest later hvalues hw hb ho hn => ?read⟩
  case unread =>
    rw [computeRate_unread hlast (hunusable hn)] at hrate
    exact Prod.mk.inj hrate
  case read =>
    have hmem : oldest ∈ t.ring := List.mem_of_mem_drop <| by rw [hw]; exact List.mem_append_cons_self
    have hsome : oldest.value.isSome = true := by
      obtain hring | rfl := mem_of_mem_ringPush hmem
      · exact hvalues oldest hring ho
      · exact newestEntry_value_isSome (husable.1 ho)
    obtain ⟨v₀, hv₀⟩ := Option.isSome_iff_exists.1 hsome
    obtain ⟨v, hv⟩ := Option.isSome_iff_exists.1 (newestEntry_value_isSome (husable.1 hn))
    rw [computeRate_read hlast (husable.1 hn) hv hw (fun e he => hunusable (hb e he)) (husable.1 ho) hv₀]
      at hrate
    refine ⟨fun hs => ?sameTime, fun hs v' w' hv' hw' => ?later⟩
    case sameTime =>
      rw [if_pos hs] at hrate
      exact Prod.mk.inj hrate
    case later =>
      obtain rfl : v = v' := Option.some.inj (hv.symm.trans hv')
      obtain rfl : v₀ = w' := Option.some.inj (hv₀.symm.trans hw')
      rw [if_neg hs, clampInt_eq_max_min (by decide)] at hrate
      exact (Prod.mk.inj hrate).symm

end Sys2Proof.Machine

/-! SEEK_RECORDS (R87): the clamped number, a reader's cursor after it is moved, and the RECORD event that
follows the cursor (R78). -/

namespace Sys2Proof.Machine

/-- Between natural bounds the clamp of a natural number is again one. -/
theorem toNat_clampInt (lo hi v : Nat) :
    (clampInt lo hi v).toNat = if v < lo then lo else if hi < v then hi else v := by
  simp only [clampInt, Nat.cast_lt]
  split
  · rfl
  · split <;> rfl

/-! ### A reader's cursor and its RECORD event -/

section
variable {p : Port}

@[simp] theorem Record.next_setCursor (r : Record) (p : Port) (n : Nat) :
    (r.setCursor p n).next = r.next := by
  cases p <;> rfl

/-- Every port but the cableway's has a cursor to move. -/
theorem Record.cursor_setCursor (hp : p ≠ .cableway) (r : Record) (n : Nat) :
    (r.setCursor p n).cursor p = n := by
  cases p with
  | logger => rfl
  | warning => rfl
  | cableway => exact absurd rfl hp

theorem syncRecord_only (s : State) : OnlyPorts s (syncRecord s) := ⟨_, rfl⟩

theorem syncRecord_event (hp : p ≠ .cableway) (s : State) :
    ((syncRecord s).ports.get p).events.record = decide (s.record.cursor p < s.record.next) := by
  cases p with
  | logger => rfl
  | warning => rfl
  | cableway => exact absurd rfl hp

end

/-! ### SEEK_RECORDS -/

theorem exec_seekRecords (p : Port) (q : U32) (s : State) :
    exec (.seekRecords p q) s = execSeekRecords p q s := rfl

/-- The command moves the asking port's cursor to the clamped number, brings the RECORD events up to date
and answers that number. -/
theorem seekRecords_gives {p : Port} {q : U32} {s : State} {cursor : Nat}
    (hj : Judged p (.seekRecords p q) s)
    (hc : (clampInt s.record.oldest s.record.next q.toNat).toNat = cursor) :
    Gives p (.seekRecords p q) s (syncRecord (s.withRecord (s.record.setCursor p cursor)))
      (okWith (u32 cursor)) :=
  gives_of_work hj (exec_seekRecords ..) (by rw [hc])

/-- Settles O36: the step moves the cursor to the clamped number and then forms the RECORD events from it,
in the ports alone. -/
theorem seekClamps : Obligations.SeekClamps := by
  intro p q s hp hj r cursor
  have hc : (clampInt r.oldest r.next q.toNat).toNat = cursor := toNat_clampInt ..
  have hcursor : (r.setCursor p cursor).cursor p = cursor := r.cursor_setCursor hp cursor
  refine ⟨_, seekRecords_gives hj hc, syncRecord_only _, hcursor, ?event⟩
  case event =>
    rw [syncRecord_event hp, State.withRecord_record, hcursor, Record.next_setCursor]

end Sys2Proof.Machine

/-! The comparison of a warning rule (R96, R97): what its four flags say of the two patterns, and the order
that each condition reads from them. Then the evaluation of a rule and the move of its state and count (R98,
R99). -/

namespace Sys2Proof.Machine

/-! ### The flags of a comparison (R96) -/

section
variable (q t : U32)

theorem compareFlags_z : (compareFlags q t).z = true ↔ q = t := by
  have hd : q - t = 0 ↔ q = t := sub_eq_zero
  simpa [compareFlags] using hd

theorem compareFlags_c : (compareFlags q t).c = true ↔ q.toNat < t.toNat := decide_eq_true_iff

theorem compareFlags_s : (compareFlags q t).s = decide ((q - t).toInt < 0) :=
  BitVec.msb_eq_toInt (x := q - t)

theorem compareFlags_v :
    (compareFlags q t).v = true ↔ q.msb ≠ t.msb ∧ (q - t).msb ≠ q.msb := by
  simp [compareFlags]

/-- V marks a signed difference that does not fit. -/
theorem compareFlags_v_eq_ssubOverflow : (compareFlags q t).v = q.ssubOverflow t := by
  have table : ∀ a b d : Bool, ((a != b) && (d != a)) = (!a && b && d || a && !b && !d) := by decide
  rw [BitVec.ssubOverflow_eq]
  exact table q.msb t.msb (q - t).msb

/-- S differs from V just when the signed difference is below 0: where it fits, S is its sign; where it does
not, the patterns have opposite signs and S is the sign of the threshold. -/
theorem compareFlags_s_ne_v :
    (compareFlags q t).s ≠ (compareFlags q t).v ↔ q.toInt < t.toInt := by
  cases hv : (compareFlags q t).v with
  | false =>
    have hfits : ¬q.ssubOverflow t = true := by simp [← compareFlags_v_eq_ssubOverflow, hv]
    rw [compareFlags_s, BitVec.toInt_sub_of_not_ssubOverflow hfits]
    simp
  | true =>
    obtain ⟨hqt, hd⟩ := (compareFlags_v q t).1 hv
    simp only [BitVec.msb_eq_toInt, ne_eq, decide_eq_decide] at hqt hd
    rw [compareFlags_s, ne_eq, decide_eq_true_iff]
    omega

/-! ### The conditions as orders (R97) -/

/-- The order of the two patterns that a condition names. -/
def Condition.Orders : Condition → U32 → U32 → Prop
  | .eq, q, t => q = t
  | .ne, q, t => q ≠ t
  | .gt, q, t => t.toInt < q.toInt
  | .ge, q, t => t.toInt ≤ q.toInt
  | .lt, q, t => q.toInt < t.toInt
  | .le, q, t => q.toInt ≤ t.toInt
  | .ugt, q, t => t.toNat < q.toNat
  | .uge, q, t => t.toNat ≤ q.toNat
  | .ult, q, t => q.toNat < t.toNat
  | .ule, q, t => q.toNat ≤ t.toNat

/-- A condition by the flags, as R97 tabulates it. -/
def Condition.ByFlags : Condition → CompareFlags → Prop
  | .eq, f => f.z = true
  | .ne, f => f.z = false
  | .gt, f => f.z = false ∧ f.s = f.v
  | .ge, f => f.s = f.v
  | .lt, f => f.s ≠ f.v
  | .le, f => f.z = true ∨ f.s ≠ f.v
  | .ugt, f => f.c = false ∧ f.z = false
  | .uge, f => f.c = false
  | .ult, f => f.c = true
  | .ule, f => f.c = true ∨ f.z = true

theorem compare_iff_byFlags (k : Condition) :
    compare k q t = true ↔ k.ByFlags (compareFlags q t) := by
  cases k <;> simp [compare, conditionHolds, Condition.ByFlags]

/-- R97's table gives each condition the order it names. -/
theorem byFlags_iff_orders (k : Condition) :
    k.ByFlags (compareFlags q t) ↔ k.Orders q t := by
  have hz := compareFlags_z q t
  have hc := compareFlags_c q t
  have hs := compareFlags_s_ne_v q t
  have hint : q = t ↔ q.toInt = t.toInt := BitVec.toInt_inj.symm
  have hnat : q = t ↔ q.toNat = t.toNat := BitVec.toNat_inj.symm
  cases k with
  | eq => exact hz
  | ne => rw [Condition.ByFlags, ← Bool.not_eq_true, hz, Condition.Orders]
  | lt => exact hs
  | ge => rw [Condition.ByFlags, ← not_ne_iff, hs, Condition.Orders, not_lt]
  | gt =>
    rw [Condition.ByFlags, ← Bool.not_eq_true, ← not_ne_iff (a := (compareFlags q t).s), hz, hs,
      hint, Condition.Orders]
    omega
  | le =>
    rw [Condition.ByFlags, hz, hs, hint, Condition.Orders]
    omega
  | ult => exact hc
  | uge => rw [Condition.ByFlags, ← Bool.not_eq_true, hc, Condition.Orders, not_lt]
  | ugt =>
    rw [Condition.ByFlags, ← Bool.not_eq_true, ← Bool.not_eq_true, hc, hz, hnat, Condition.Orders]
    omega
  | ule =>
    rw [Condition.ByFlags, hc, hz, hnat, Condition.Orders]
    omega

theorem compare_iff_orders (k : Condition) : compare k q t = true ↔ k.Orders q t :=
  (compare_iff_byFlags q t k).trans (byFlags_iff_orders q t k)

end

/-! ### The evaluation of a rule (R98, R99) -/

theorem RuleState.testsSet_iff {st : RuleState} : st.testsSet = true ↔ st = .inactive ∨ st = .arming := by
  cases st <;> decide

theorem RuleState.testsSet_eq_false_iff {st : RuleState} :
    st.testsSet = false ↔ st = .active ∨ st = .clearing := by
  cases st <;> decide

theorem Rule.threshold_set {r : Rule} (h : r.state.testsSet = true) : r.threshold = r.set := if_pos h

theorem Rule.threshold_clear {r : Rule} (h : r.state.testsSet = false) : r.threshold = r.clear := by
  rw [Rule.threshold, h, if_neg Bool.false_ne_true]

section
variable (r : Rule) (q time : U32)

/-- The last evaluation of a rule that is not skipped. -/
theorem Rule.evaluate_last :
    (r.evaluate (some q) false time).last
      = some
        { outcome := if compare r.condition (q &&& r.mask) r.threshold then .isTrue else .isFalse
          testedSet := r.state.testsSet, masked := some (q &&& r.mask), time := time } := rfl

/-- The state and count of a rule that is not skipped are those of its move. -/
theorem Rule.evaluate_move :
    ((r.evaluate (some q) false time).state, (r.evaluate (some q) false time).count)
      = ruleMove r.state r.count r.persistence
          (compare r.condition (q &&& r.mask) r.threshold) := rfl

theorem Rule.evaluate_frame :
    r.evaluate (some q) false time
      = { r with
          state := (r.evaluate (some q) false time).state
          count := (r.evaluate (some q) false time).count
          last := (r.evaluate (some q) false time).last } := rfl

end

section
variable {st : RuleState} {count persistence : Nat} {holds : Bool}

/-- The move by the test of the set threshold (R98). -/
theorem ruleMove_set (h : st.testsSet = true) :
    ruleMove st count persistence holds
      = if holds then (if persistence ≤ count + 1 then (.active, 0) else (.arming, count + 1))
        else (.inactive, 0) := if_pos h

/-- The move by the test of the clear threshold (R99). -/
theorem ruleMove_clear (h : st.testsSet = false) :
    ruleMove st count persistence holds
      = if holds then (.active, 0)
        else (if persistence ≤ count + 1 then (.inactive, 0) else (.clearing, count + 1)) := by
  rw [ruleMove, h, if_neg Bool.false_ne_true]

end

/-- Settles O38: the flags' meanings, R97's table, its orders, and the evaluation written for the threshold
that the rule's state tests. -/
theorem compareOrders : Obligations.CompareOrders := by
  refine ⟨fun q t => ?flags, fun r q time => ⟨fun hs => ?set, fun hs => ?clear⟩⟩
  case flags =>
    have byFlags := compare_iff_byFlags q t
    have orders := compare_iff_orders q t
    exact ⟨decide_eq_true_iff, Iff.rfl, compareFlags_v q t, compareFlags_c q t,
      byFlags .eq, byFlags .ne, byFlags .gt, byFlags .ge, byFlags .lt, byFlags .le,
      byFlags .ugt, byFlags .uge, byFlags .ult, byFlags .ule,
      orders .eq, orders .ne, orders .gt, orders .ge, orders .lt, orders .le,
      orders .ugt, orders .uge, orders .ult, orders .ule⟩
  case set =>
    have htests := RuleState.testsSet_iff.2 hs
    rw [Rule.evaluate_last, Rule.threshold_set htests, htests]
  case clear =>
    have htests := Bool.eq_false_iff.2 (RuleState.testsSet_iff.not.2 hs)
    rw [Rule.evaluate_last, Rule.threshold_clear htests, htests]

/-- Settles O39: the state and count after an evaluation are those of `ruleMove` by the threshold that the
rule's state tests, row by row of R98 and R99. -/
theorem ruleMoves : Obligations.RuleMoves := by
  intro r q time _ t m holds
  have hmove : (t.state, t.count) = ruleMove r.state r.count r.persistence (holds r.threshold) :=
    r.evaluate_move q time
  refine ⟨r.evaluate_frame q time, fun hs => ?set, fun hc => ?clear⟩
  case set =>
    have htests := RuleState.testsSet_iff.2 hs
    rw [Rule.threshold_set htests, ruleMove_set htests] at hmove
    refine ⟨fun h hlt => ?arming, fun h heq => ?active, fun h => ?inactive⟩
    case arming => simpa [h, hlt.not_ge] using hmove
    case active => simpa [h, heq.ge] using hmove
    case inactive => simpa [h] using hmove
  case clear =>
    have htests := RuleState.testsSet_eq_false_iff.2 hc
    rw [Rule.threshold_clear htests, ruleMove_clear htests] at hmove
    refine ⟨fun h hlt => ?clearing, fun h heq => ?inactive, fun h => ?active⟩
    case clearing => simpa [h, hlt.not_ge] using hmove
    case inactive => simpa [h, heq.ge] using hmove
    case active => simpa [h] using hmove

end Sys2Proof.Machine

/-! The ATTN line of a port (R193): the two grounds on which it is asserted, the port state and the pending
events that the mask enables. -/

namespace Sys2Proof.Machine

/-- An event set and a mask meet when one of the seven events stands in both. -/
theorem EventSet.meets_iff (x m : EventSet) :
    x.meets m = true ↔
      (x.sample = true ∧ m.sample = true) ∨ (x.level = true ∧ m.level = true)
      ∨ (x.fault = true ∧ m.fault = true) ∨ (x.record = true ∧ m.record = true)
      ∨ (x.opDone = true ∧ m.opDone = true) ∨ (x.permit = true ∧ m.permit = true)
      ∨ (x.siren = true ∧ m.siren = true) := by
  simp only [EventSet.meets, Bool.or_eq_true, Bool.and_eq_true, or_assoc]

section
variable {s : State} {p : Port}

theorem attn_of_ready {r : Response} (h : (s.ports.get p).phase = .ready r) : attn s p = true := by
  simp [attn, h]

/-- In every state but READY, HALTED among them, the line follows the enabled pending events alone. -/
theorem attn_of_not_ready (h : ∀ r, (s.ports.get p).phase ≠ .ready r) :
    attn s p = (s.ports.get p).events.meets (s.ports.get p).mask := by
  cases hph : (s.ports.get p).phase with
  | idle => simp [attn, hph]
  | busy c => simp [attn, hph]
  | ready r => exact absurd hph (h r)
  | halted why => simp [attn, hph]

end

/-- Settles O11: in READY the line is asserted whatever is pending, and elsewhere it is the meeting of the
pending-event set and the mask. -/
theorem attentionLine : Obligations.AttentionLine := by
  intro p s
  by_cases hready : ∃ r, (s.ports.get p).phase = .ready r
  case pos =>
    obtain ⟨r, hr⟩ := hready
    exact iff_of_true (attn_of_ready hr) (.inl ⟨r, hr⟩)
  case neg =>
    rw [attn_of_not_ready (not_exists.1 hready), EventSet.meets_iff, or_iff_right hready]

end Sys2Proof.Machine

/-! What every step keeps: the invariants of `Safety.lean` as one family, so that each operation is said once
to keep them all. An operation that leaves one of them open until a later one restores it names it. -/

namespace Sys2Proof.Machine

/-! ### The family of invariants -/

/-- The names of what every step keeps. -/
inductive Invariant where
  | faultWord | shift | record | selections | preWarm | recordEvents | warning | drives | permit

/-- What each name stands for. -/
def Invariant.Holds : Invariant → State → Prop
  | .faultWord, s => FaultWordReserved s
  | .shift, s => ShiftWithinLimit s
  | .record, s => RecordSound s
  | .selections, s => SelectionsSound s
  | .preWarm, s => PreWarmSound s
  | .recordEvents, s => RecordEventsStand s
  | .warning, s => WarningSound s.warning
  | .drives, s => LoadTripDrives s
  | .permit, s => PermitMeetsRun s

/-- The load trip's rule for the cableway unit alone (R138). -/
def Cableway.TripSafe (c : Cableway) : Prop :=
  c.loadTrip.passed = true → ∀ d, c.drive = some d → d.dir = .reelUp ∧ d.fast = false

section
variable {i : Invariant} {s : State}

/-! ### Replacing one block -/

theorem Invariant.Holds.withTime (h : i.Holds s) (x : TimeBase) : i.Holds (s.withTime x) := by
  cases i <;> exact h

theorem Invariant.Holds.withEncoder (h : i.Holds s) (x : EncoderInput) : i.Holds (s.withEncoder x) := by
  cases i <;> exact h

theorem Invariant.Holds.withRanging (h : i.Holds s) (x : RangingLine) : i.Holds (s.withRanging x) := by
  cases i <;> exact h

theorem Invariant.Holds.withLatch (h : i.Holds s) (x : DisplayLatch) : i.Holds (s.withLatch x) := by
  cases i <;> exact h

theorem Invariant.Holds.withWorking (h : i.Holds s) (x : Working) : i.Holds (s.withWorking x) := by
  cases i <;> exact h

theorem Invariant.Holds.withResetOrder (h : i.Holds s) (x : Option U32) : i.Holds (s.withResetOrder x) := by
  cases i <;> exact h

theorem Invariant.Holds.withDue (h : i.Holds s) (x : List Work) : i.Holds (s.withDue x) := by
  cases i <;> exact h

theorem Invariant.Holds.withPending (h : i.Holds s) (x : List Instr) : i.Holds (s.withPending x) := by
  cases i <;> exact h

theorem Invariant.Holds.withSchedule (h : i.Holds s) {x : Schedule} (hx : x.preWarm = s.schedule.preWarm) :
    i.Holds (s.withSchedule x) := by
  cases i
  case preWarm => intro c hc; exact h c (by rwa [← hx])
  all_goals exact h

/-- The stage unit's invariant is that of the selections. -/
theorem Invariant.Holds.withSelections (h : i.Holds s) {x : StageUnit}
    (hx : SelectionsSound s → SelectionsSound (s.withStage x)) : i.Holds (s.withStage x) := by
  cases i
  case selections => exact hx h
  all_goals exact h

theorem Invariant.Holds.withStage (h : i.Holds s) {x : StageUnit} (hp : x.primary = s.stage.primary)
    (hc : x.check = s.stage.check) : i.Holds (s.withStage x) :=
  h.withSelections fun hs =>
    ⟨fun c e => hs.1 c (hp ▸ e), fun c e => ⟨hp ▸ (hs.2 c (hc ▸ e)).1, (hs.2 c (hc ▸ e)).2⟩⟩

theorem Invariant.Holds.withRating (h : i.Holds s) {x : Rating}
    (hx : ShiftWithinLimit s → -(x.shiftLimit : Int) ≤ x.shift ∧ x.shift ≤ x.shiftLimit) :
    i.Holds (s.withRating x) := by
  cases i
  case shift => exact hx h
  all_goals exact h

theorem Invariant.Holds.withWarning (h : i.Holds s) {x : Warning}
    (hx : i = .warning → WarningSound s.warning → WarningSound x) : i.Holds (s.withWarning x) := by
  cases i
  case warning => exact hx rfl h
  all_goals exact h

theorem Invariant.Holds.withFaults (h : i.Holds s) {x : FaultUnit}
    (hx : FaultWordReserved s → x.word &&& 0xFFE00000#32 = 0) : i.Holds (s.withFaults x) := by
  cases i
  case faultWord => exact hx h
  all_goals exact h

/-- The cableway unit's invariant is the load trip's rule. -/
theorem Invariant.Holds.withCableway (h : i.Holds s) {x : Cableway}
    (hx : s.cableway.TripSafe → x.TripSafe) : i.Holds (s.withCableway x) := by
  cases i
  case drives => exact hx h
  all_goals exact h

theorem Invariant.Holds.onCable (h : i.Holds s) {f : Cableway → Cableway}
    (hf : s.cableway.TripSafe → (f s.cableway).TripSafe) : i.Holds (onCable f s) :=
  h.withCableway hf

/-- The ports' invariant is that of the readers' RECORD events. -/
theorem Invariant.Holds.withPorts (h : i.Holds s) {x : PerPort PortUnit}
    (hx : i = .recordEvents → ∀ p, (x.get p).events.record = (s.ports.get p).events.record) :
    i.Holds (s.withPorts x) := by
  cases i
  case recordEvents =>
    intro hh
    have hl : x.logger.events.record = s.ports.logger.events.record := hx rfl .logger
    have hw : x.warning.events.record = s.ports.warning.events.record := hx rfl .warning
    exact ⟨by rw [State.withPorts_ports, hl]; exact (h hh).1, by rw [State.withPorts_ports, hw]; exact (h hh).2⟩
  all_goals exact h

/-- The record keeps its soundness, and its events while neither a cursor nor the next sequence moves. -/
theorem Invariant.Holds.withRecord (h : i.Holds s) {x : Record} (hx : s.record.Sound → x.Sound)
    (hn : i = .recordEvents → x.next = s.record.next ∧ x.loggerCursor = s.record.loggerCursor
      ∧ x.warningCursor = s.record.warningCursor) : i.Holds (s.withRecord x) := by
  cases i
  case record => exact hx h
  case recordEvents =>
    obtain ⟨h1, h2, h3⟩ := hn rfl
    intro hh
    simpa [h1, h2, h3] using h hh
  all_goals exact h

theorem Invariant.Holds.withRun (h : i.Holds s) {x : RunRecord}
    (hx : i = .permit → x.isOpen = s.run.isOpen) : i.Holds (s.withRun x) := by
  cases i
  case permit => intro hh; simpa [hx rfl] using h hh
  all_goals exact h

theorem Invariant.Holds.withPermit (h : i.Holds s) {x : Permit}
    (hx : i = .permit → (x.record.state = .open_ ↔ s.permit.record.state = .open_)) :
    i.Holds (s.withPermit x) := by
  cases i
  case permit => intro hh; simpa [hx rfl] using h hh
  all_goals exact h

/-- A channel record may be replaced when an enabled channel stays enabled in its power mode, and a powered
one stays powered unless it is in no pre-warm set. -/
theorem Invariant.Holds.setChan (h : i.Holds s) {c : Chan} {x : Channel}
    (hs : (chan c s).state ≠ .disabled → x.state ≠ .disabled ∧ x.config.mode = (chan c s).config.mode)
    (hw : s.schedule.preWarm.get c = true → (chan c s).state = .warming ∨ (chan c s).state = .on →
      x.state = .warming ∨ x.state = .on) : i.Holds (setChan c x s) := by
  have hother {k : Chan} (hk : k ≠ c) : chan k (Machine.setChan c x s) = chan k s :=
    PerChan.get_set_other _ hk _
  have hsame : chan c (Machine.setChan c x s) = x := PerChan.get_set_same ..
  cases i
  case selections =>
    refine ⟨fun k hk => ?_, fun k hk => ?_⟩
    · obtain ⟨h1, h2⟩ := h.1 k hk
      by_cases hkc : k = c
      · subst hkc
        rw [hsame]
        exact ⟨(hs h1).1, (hs h1).2.trans h2⟩
      · rw [hother hkc]
        exact ⟨h1, h2⟩
    · obtain ⟨h1, h2⟩ := h.2 k hk
      refine ⟨h1, ?_⟩
      by_cases hkc : k = c
      · subst hkc
        rw [hsame]
        exact (hs h2).1
      · rwa [hother hkc]
  case preWarm =>
    intro k hk
    by_cases hkc : k = c
    · subst hkc
      rw [hsame]
      exact hw hk (h k hk)
    · rw [hother hkc]
      exact h k hk
  all_goals exact h

/-- Any mark may leave the pre-warm set; one that enters it is that of a channel that is WARMING or ON. -/
theorem Invariant.Holds.setPreWarm (h : i.Holds s) {c : Chan} {b : Bool}
    (hb : b = true → (chan c s).state = .warming ∨ (chan c s).state = .on) :
    i.Holds (setPreWarm c b s) := by
  cases i
  case preWarm =>
    intro k hk
    change (s.schedule.preWarm.set c b).get k = true at hk
    by_cases hkc : k = c
    · subst hkc
      rw [PerChan.get_set_same] at hk
      exact hb hk
    · rw [PerChan.get_set_other _ hkc] at hk
      exact h k hk
  all_goals exact h

/-- A channel leaves its state and the pre-warm set in one. -/
theorem Invariant.Holds.leavePreWarm (h : i.Holds s) {c : Chan} {x : Channel}
    (hs : (chan c s).state ≠ .disabled → x.state ≠ .disabled ∧ x.config.mode = (chan c s).config.mode) :
    i.Holds (Machine.setPreWarm c false (Machine.setChan c x s)) := by
  have hcomm : Machine.setPreWarm c false (Machine.setChan c x s)
      = Machine.setChan c x (Machine.setPreWarm c false s) := rfl
  rw [hcomm]
  refine Invariant.Holds.setChan (h.setPreWarm (by simp)) hs fun hw => ?_
  simp [Machine.setPreWarm] at hw

/-! ### Time, events and answers -/

theorem Invariant.Holds.reach (h : i.Holds s) (t : U32) : i.Holds (reach t s) := by
  obtain ⟨x, hx⟩ := reach_only t s
  rw [hx]
  exact h.withTime _

theorem Invariant.Holds.raiseEvent (h : i.Holds s) {e : Event} (he : e ≠ .record) :
    i.Holds (raiseEvent e s) := by
  refine h.withPorts fun _ p => ?_
  rw [PerPort.get_map]
  split
  · cases e with
    | record => exact absurd rfl he
    | _ => rfl
  · rfl

theorem Invariant.Holds.raisePermit (h : i.Holds s) (r : PermitRecord) : i.Holds (raisePermit r s) := by
  refine h.withPorts fun _ p => ?_
  rw [PerPort.get_map]
  split <;> rfl

theorem PortUnit.answer_events (u : PortUnit) (c : Instr) (a : Answer) : (u.answer c a).events = u.events := by
  unfold PortUnit.answer
  dsimp only
  split
  · rfl
  · split
    · split <;> rfl
    all_goals rfl

/-- Changing one port but for its events. -/
theorem Invariant.Holds.onPort (h : i.Holds s) (p : Port) {f : PortUnit → PortUnit}
    (hf : i = .recordEvents → ∀ u, (f u).events.record = u.events.record) : i.Holds (onPort p f s) := by
  refine h.withPorts fun hi q => ?_
  by_cases hq : q = p
  · subst hq; rw [PerPort.get_set_same, hf hi]
  · rw [PerPort.get_set_other _ hq]

theorem Invariant.Holds.giveAnswer (h : i.Holds s) (p : Port) (c : Instr) (a : Answer) :
    i.Holds (giveAnswer p c a s) :=
  h.onPort p (f := fun u => u.answer c a) fun _ u => by rw [PortUnit.answer_events]

/-! ### Reports -/

/-- No fault's bit is a reserved one (R174). -/
theorem faultMask_reserved (f : StationFault) : faultMask f &&& 0xFFE00000#32 = 0 := by
  cases f with
  | channelFailed c => cases c <;> decide
  | _ => decide

theorem takeReports_reserved (time : U32) (rs : List Report) :
    ∀ f : FaultUnit, f.word &&& 0xFFE00000#32 = 0 → (takeReports time f rs).word &&& 0xFFE00000#32 = 0 := by
  induction rs with
  | nil => intro f h; exact h
  | cons r rs ih =>
    intro f h
    refine ih (takeReport time f r) ?_
    have hm := faultMask_reserved r.fault
    simp only [takeReport]
    rw [BitVec.and_comm, BitVec.and_or_distrib_left, BitVec.and_comm, h, BitVec.and_comm, hm]
    rfl

theorem Invariant.Holds.raiseFaultEvents (h : i.Holds s) (fs : List StationFault) :
    i.Holds (raiseFaultEvents fs s) := by
  refine h.withPorts fun _ p => ?_
  rw [PerPort.get_map]
  split <;> rfl

theorem Invariant.Holds.owe (h : i.Holds s) (w : List Work) : i.Holds (s.owe w) := h.withDue _

theorem Invariant.Holds.takeBatch (h : i.Holds s) (rs : List Report) : i.Holds (takeBatch rs s) := by
  have h1 := h.withFaults (takeReports_reserved s.time.station rs s.faults)
  simp only [Machine.takeBatch]
  split
  · exact h1
  · exact (h1.raiseFaultEvents _).owe _

/-! ### The record -/

/-- A discard moves neither a cursor nor the next sequence. -/
theorem Record.discard_frame (r : Record) : r.discard.1.next = r.next
    ∧ r.discard.1.loggerCursor = r.loggerCursor ∧ r.discard.1.warningCursor = r.warningCursor := by
  unfold Record.discard Record.overwriteCheck
  dsimp only
  split
  · exact ⟨rfl, rfl, rfl⟩
  · split
    · exact ⟨rfl, rfl, rfl⟩
    · exact ⟨rfl, rfl, rfl⟩
    · exact ⟨rfl, rfl, rfl⟩
    · split <;> exact ⟨rfl, rfl, rfl⟩

theorem Invariant.Holds.discardSteps (n : Nat) : ∀ {s : State}, i.Holds s → i.Holds (discardSteps n s) := by
  induction n with
  | zero => intro s h; exact h
  | succ n ih =>
    intro s h
    have h1 := (h.withRecord (fun hs => hs.discard) fun _ => s.record.discard_frame).takeBatch
      s.record.discard.2.1
    simp only [Machine.discardSteps]
    split
    · exact h1
    · exact ih h1

/-- The RECORD events are brought up to date. -/
theorem recordEvents_syncRecord (s : State) : Invariant.recordEvents.Holds (syncRecord s) :=
  fun _ => ⟨decide_eq_true_iff, decide_eq_true_iff⟩

/-- The RECORD events alone are what bringing them up to date changes. -/
theorem Invariant.Holds.syncRecord_of_ne (h : i.Holds s) (hi : i ≠ .recordEvents) :
    i.Holds (syncRecord s) := by
  cases i
  case recordEvents => exact absurd rfl hi
  all_goals exact h

theorem Invariant.Holds.syncRecord (h : i.Holds s) : i.Holds (syncRecord s) := by
  cases i
  case recordEvents => exact recordEvents_syncRecord s
  all_goals exact h

/-- An append makes the RECORD events stand whatever they were (R78). -/
theorem recordEvents_append (e : Entry) (s : State) : Invariant.recordEvents.Holds (append e s) :=
  recordEvents_syncRecord _

theorem Invariant.Holds.append (h : i.Holds s) (e : Entry) : i.Holds (append e s) := by
  by_cases hi : i = .recordEvents
  · subst hi; exact recordEvents_append e s
  · have place {t : State} (ht : i.Holds t) (time : U32) :
        i.Holds (Machine.syncRecord (t.withRecord (t.record.placeOrRenumber e time))) :=
      Invariant.Holds.syncRecord_of_ne
        (ht.withRecord (fun hs => hs.placeOrRenumber e _) fun he => absurd he hi) hi
    simp only [Machine.append]
    split
    · exact place (Invariant.Holds.discardSteps _ h) _
    · exact place h _

end

end Sys2Proof.Machine

namespace Sys2Proof.Machine

/-! ### What the schedule's decisions change -/

/-- The pre-warm set's revision changes the schedule and the channels alone. -/
theorem foldRevise_only (cs : List Chan) :
    ∀ s : State, ∃ x y, cs.foldl revisePreWarm s = (s.withSchedule x).withChans y := by
  induction cs with
  | nil => intro s; exact ⟨s.schedule, s.chans, rfl⟩
  | cons c cs ih =>
    intro s
    obtain ⟨x, y, hxy⟩ := ih (revisePreWarm s c)
    rw [List.foldl_cons, hxy]
    unfold revisePreWarm
    split <;> exact ⟨x, y, rfl⟩

/-- Placing the next due instant changes the schedule and the channels alone. -/
theorem placeDue_only (s : State) : ∃ x y, placeDue s = (s.withSchedule x).withChans y := by
  obtain ⟨x, y, h⟩ := foldRevise_only allChans
    (s.withSchedule { s.schedule with nextDue := nextMultiple s.schedule.interval s.time.station })
  exact ⟨x, y, h⟩

/-- Deciding the mode changes the schedule and the channels alone. -/
theorem decideMode_only (s : State) : ∃ x y, decideMode s = (s.withSchedule x).withChans y := by
  unfold decideMode
  split
  · exact ⟨s.schedule, s.chans, rfl⟩
  · obtain ⟨x, y, h⟩ := placeDue_only (s.withSchedule { s.schedule with mode := modeNow s })
    exact ⟨x, y, h⟩

/-- A change of the permit's state changes the permit, the ports' events, the schedule and the channels. -/
theorem permitChange_only (st : PermitState) (cause : PermitCause) (s : State) :
    ∃ permit ports x y, permitChange st cause s
      = (((s.withPermit permit).withPorts ports).withSchedule x).withChans y := by
  unfold permitChange
  split
  · exact ⟨s.permit, s.ports, s.schedule, s.chans, by simp⟩
  · obtain ⟨x, y, h⟩ := decideMode_only (raisePermit
      { state := st, cause := cause, time := s.time.station }
      (s.withPermit { s.permit with record := { state := st, cause := cause, time := s.time.station } }))
    exact ⟨{ s.permit with record := { state := st, cause := cause, time := s.time.station } }, _, x, y, h⟩

/-- A close of the run leaves the permit, the schedule, the channels, the warning and the held mark alone. -/
theorem closeRun_only (o : RunOutcome) (s : State) :
    ∃ run working cableway record faults ports due, closeRun o s
      = ((((((s.withRun run).withWorking working).withCableway cableway).withRecord record).withFaults
          faults).withPorts ports).withDue due := by
  unfold closeRun
  split
  · exact ⟨s.run, s.working, s.cableway, s.record, s.faults, s.ports, s.due, by simp⟩
  · rename_i b _
    obtain ⟨r, f, p, d, h⟩ := append_only
      (.run (runEntry s.run.number b (closingOf s.rating b o s.time.station)))
      (clearWorking (s.withRun
        { s.run with body := some { b with closing := some (closingOf s.rating b o s.time.station) } }))
    dsimp only
    rw [h]
    exact ⟨{ s.run with body := some { b with closing := some (closingOf s.rating b o s.time.station) } },
      .empty, { s.cableway with placement := none }, r, f, p, d, rfl⟩

section
variable (st : PermitState) (cause : PermitCause) (o : RunOutcome) (s : State)

@[simp] theorem permitChange_run : (permitChange st cause s).run = s.run := by
  obtain ⟨_, _, _, _, h⟩ := permitChange_only st cause s
  simp [h]

@[simp] theorem closeRun_permit : (closeRun o s).permit = s.permit := by
  obtain ⟨_, _, _, _, _, _, _, h⟩ := closeRun_only o s
  simp [h]

end

/-! ### What a change of L does to the warning unit -/

@[simp] theorem raiseEvent_warning (e : Event) (s : State) : (raiseEvent e s).warning = s.warning := rfl

@[simp] theorem append_warning (e : Entry) (s : State) : (append e s).warning = s.warning := by
  obtain ⟨_, _, _, _, h⟩ := append_only e s
  simp [h]

@[simp] theorem append_time (e : Entry) (s : State) : (append e s).time = s.time := by
  obtain ⟨_, _, _, _, h⟩ := append_only e s
  simp [h]

@[simp] theorem decideMode_warning (s : State) : (decideMode s).warning = s.warning := by
  obtain ⟨_, _, h⟩ := decideMode_only s
  simp [h]

@[simp] theorem decideMode_time (s : State) : (decideMode s).time = s.time := by
  obtain ⟨_, _, h⟩ := decideMode_only s
  simp [h]

@[simp] theorem owe_warning (s : State) (w : List Work) : (s.owe w).warning = s.warning := rfl

@[simp] theorem owe_time (s : State) (w : List Work) : (s.owe w).time = s.time := rfl

@[simp] theorem sirenOff_warning (s : State) :
    (sirenOff s).warning = { s.warning with siren := none } := by
  unfold sirenOff
  split
  · rfl
  · rename_i h
    rw [Bool.not_eq_true, Option.isSome_eq_false_iff, Option.isNone_iff_eq_none] at h
    rw [← h]

theorem sirenOnRise_warning (s : State) :
    (sirenOnRise s).warning
      = { s.warning with
          siren := if s.warning.sirenLevel ≠ 0 ∧ s.warning.sirenLevel ≤ s.warning.level then
              some (after s.time.elapsed (s.warning.sirenRun * 60000))
            else s.warning.siren } := by
  simp only [sirenOnRise]
  split
  · split <;> rfl
  · rfl

theorem sirenOnFall_warning (s : State) :
    (sirenOnFall s).warning
      = { s.warning with
          siren := if s.warning.level < s.warning.sirenLevel then none else s.warning.siren } := by
  unfold sirenOnFall
  split
  · exact sirenOff_warning s
  · rfl

/-- The siren after L has changed to `new` (R109, R112). -/
def Warning.sirenAfter (w : Warning) (new : Nat) (now : U32) : Option U32 :=
  if w.level < new then
    if w.sirenLevel ≠ 0 ∧ w.sirenLevel ≤ new then some (after now (w.sirenRun * 60000)) else w.siren
  else if new < w.sirenLevel then none else w.siren

/-- The warning unit after a change of L (R102, R105, R106). -/
theorem changeLevel_warning (new : Nat) (cause : WarningCause) (s : State) :
    (changeLevel new cause s).warning
      = { s.warning with
          level := new, hold := none, beacon := startBeacon new s.time.elapsed
          siren := s.warning.sirenAfter new s.time.elapsed } := by
  simp only [changeLevel, Warning.sirenAfter]
  split
  · simp [sirenOnRise_warning]
  · simp [sirenOnFall_warning]

theorem startBeacon_eq_none (level : Nat) (now : U32) : startBeacon level now = none ↔ level = 0 := by
  unfold startBeacon
  split <;> simp_all

/-- A siren that sounds after a change of L has a level to sound at. -/
theorem Warning.sirenAfter_sound {w : Warning} {new : Nat} {now : U32}
    (hs : w.siren.isSome → w.sirenLevel ≠ 0 ∧ w.sirenLevel ≤ w.level) :
    (w.sirenAfter new now).isSome → w.sirenLevel ≠ 0 ∧ w.sirenLevel ≤ new := by
  unfold Warning.sirenAfter
  split
  · rename_i hrise
    split
    · rename_i hl; exact fun _ => hl
    · exact fun h => ⟨(hs h).1, (hs h).2.trans hrise.le⟩
  · split
    · simp
    · rename_i hl; exact fun h => ⟨(hs h).1, not_lt.1 hl⟩

/-- L at the target, by a change of it: the warning unit is sound. -/
theorem warningSound_changeLevel {s : State} (cause : WarningCause) (hr : s.warning.rules.length = 16)
    (ht : s.warning.target = s.warning.formTarget)
    (hs : s.warning.siren.isSome → s.warning.sirenLevel ≠ 0 ∧ s.warning.sirenLevel ≤ s.warning.level) :
    WarningSound (changeLevel s.warning.target cause s).warning := by
  rw [changeLevel_warning]
  exact
    { rules := hr, target := ht, upheld := le_rfl, hold := by simp
      siren := Warning.sirenAfter_sound hs, beacon := startBeacon_eq_none _ _ }

/-- A level computation makes the warning unit sound when its siren and its beacon are (R101 to R104). -/
theorem warningSound_computeLevel {s : State} (b : Bool) (hr : s.warning.rules.length = 16)
    (hs : s.warning.siren.isSome → s.warning.sirenLevel ≠ 0 ∧ s.warning.sirenLevel ≤ s.warning.level)
    (hb : s.warning.beacon = none ↔ s.warning.level = 0) : WarningSound (computeLevel b s).warning := by
  rcases computeLevel_cases s b with ⟨c, -, -, h⟩ | ⟨hold, hle, hiff, h⟩ <;> rw [h]
  · exact warningSound_changeLevel (s := s.withWarning { s.warning with target := s.warning.formTarget })
      c hr rfl hs
  · exact { rules := hr, target := rfl, upheld := hle, hold := hiff, siren := hs, beacon := hb }

section
variable {i : Invariant} {s : State}

/-! ### The schedule's decisions keep the invariants -/

theorem Invariant.Holds.revisePreWarm (h : i.Holds s) (c : Chan) : i.Holds (revisePreWarm s c) := by
  unfold Machine.revisePreWarm
  split
  · exact h.leavePreWarm fun _ => ⟨by simp [Channel.unpower], rfl⟩
  · exact h

/-- What each channel's turn keeps, a round of the channels keeps. -/
theorem Invariant.Holds.foldl {α : Type} {f : State → α → State}
    (hf : ∀ {s : State} (c : α), i.Holds s → i.Holds (f s c)) (cs : List α) :
    ∀ {s : State}, i.Holds s → i.Holds (cs.foldl f s) := by
  induction cs with
  | nil => intro s h; exact h
  | cons c cs ih => intro s h; exact ih (hf c h)

theorem Invariant.Holds.placeDue (h : i.Holds s) : i.Holds (placeDue s) := by
  unfold Machine.placeDue
  exact   Invariant.Holds.foldl (f := Machine.revisePreWarm) (fun c hc => hc.revisePreWarm c) allChans
    (h.withSchedule (x := { s.schedule with nextDue := nextMultiple s.schedule.interval s.time.station }) rfl)

theorem Invariant.Holds.decideMode (h : i.Holds s) : i.Holds (decideMode s) := by
  unfold Machine.decideMode
  split
  · exact h
  · exact (h.withSchedule (x := { s.schedule with mode := modeNow s }) rfl).placeDue

/-! ### The permit and the run -/

/-- A change between states of the permit that are not OPEN. -/
theorem Invariant.Holds.permitChange (h : i.Holds s) {st : PermitState} (cause : PermitCause)
    (hst : i = .permit → st ≠ .open_ ∧ s.permit.record.state ≠ .open_) :
    i.Holds (permitChange st cause s) := by
  unfold Machine.permitChange
  split
  · exact h
  · refine ((h.withPermit fun hi => ?_).raisePermit _).decideMode
    simp [(hst hi).1, (hst hi).2]

theorem Invariant.Holds.clearWorking (h : i.Holds s) : i.Holds (clearWorking s) :=
  (h.withWorking _).withCableway fun hs => hs

/-- A close keeps all but the permit's invariant, which waits for the permit's change. -/
theorem Invariant.Holds.closeRun (h : i.Holds s) (hi : i ≠ .permit) (o : RunOutcome) :
    i.Holds (closeRun o s) := by
  unfold Machine.closeRun
  split
  · exact h
  · exact (Invariant.Holds.clearWorking (h.withRun fun e => absurd e hi)).append _

/-- Without an open run the permit's invariant says that the permit is not OPEN. -/
theorem permit_of_notOpen (hr : s.run.openBody = none) (hp : s.permit.record.state ≠ .open_) :
    Invariant.permit.Holds s :=
  fun _ => by simp [RunRecord.isOpen, hr, hp]

/-- A close with its change of the permit to a state that is not OPEN. -/
theorem Invariant.Holds.closeThenChange (h : i.Holds s) (o : RunOutcome) {st : PermitState}
    (cause : PermitCause) (hst : st ≠ .open_) : i.Holds (Machine.permitChange st cause (Machine.closeRun o s)) := by
  by_cases hi : i = .permit
  · subst hi
    refine permit_of_notOpen (by rw [permitChange_run, closeRun_notOpen]) ?_
    rw [permitChange_record]
    split
    · rename_i he; rwa [he]
    · exact hst
  · exact (h.closeRun hi o).permitChange cause fun e => absurd e hi

theorem Invariant.Holds.permitReport (h : i.Holds s) (f : HaltFault) : i.Holds (permitReport f s) := by
  unfold Machine.permitReport
  split
  · exact h.closeThenChange _ _ (by simp)
  · exact h.permitChange _ fun _ => ⟨by simp, by simp [*]⟩
  · split
    · exact h.permitChange _ fun _ => ⟨by simp, by simp [*]⟩
    · exact h
  · exact h

/-! ### The warning unit -/

/-- The warning unit's other parts may change freely for every invariant but its own. -/
theorem Invariant.Holds.withWarning_of_ne (h : i.Holds s) (hi : i ≠ .warning) (x : Warning) :
    i.Holds (s.withWarning x) :=
  h.withWarning fun e => absurd e hi

theorem Invariant.Holds.sirenOff (h : i.Holds s) (hi : i ≠ .warning) : i.Holds (sirenOff s) := by
  unfold Machine.sirenOff
  split
  · exact (h.withWarning_of_ne hi _).raiseEvent (by simp)
  · exact h

theorem Invariant.Holds.sirenOnRise (h : i.Holds s) (hi : i ≠ .warning) : i.Holds (sirenOnRise s) := by
  simp only [Machine.sirenOnRise]
  split
  · split
    · exact h.withWarning_of_ne hi _
    · exact (h.withWarning_of_ne hi _).raiseEvent (by simp)
  · exact h

theorem Invariant.Holds.sirenOnFall (h : i.Holds s) (hi : i ≠ .warning) : i.Holds (sirenOnFall s) := by
  unfold Machine.sirenOnFall
  split
  · exact h.sirenOff hi
  · exact h

theorem Invariant.Holds.changeLevel (h : i.Holds s) (hi : i ≠ .warning) (n : Nat) (c : WarningCause) :
    i.Holds (changeLevel n c s) := by
  have h1 := (((h.withWarning_of_ne hi { s.warning with
    level := n, hold := none, beacon := startBeacon n s.time.elapsed }).append
      (.warning s.time.station s.warning.level n c)).decideMode).owe [.permitTest]
  simp only [Machine.changeLevel]
  split
  · exact (h1.sirenOnRise hi).raiseEvent (by simp)
  · exact (h1.sirenOnFall hi).raiseEvent (by simp)

/-- A level computation on rules or a floor that may have changed. -/
theorem Invariant.Holds.computeLevel (h : i.Holds s) (b : Bool) {w : Warning}
    (hw : i = .warning → w.rules.length = 16 ∧ w.siren = s.warning.siren
      ∧ w.sirenLevel = s.warning.sirenLevel ∧ w.level = s.warning.level ∧ w.beacon = s.warning.beacon) :
    i.Holds (computeLevel b (s.withWarning w)) := by
  by_cases hi : i = .warning
  · obtain ⟨hr, h1, h2, h3, h4⟩ := hw hi
    subst hi
    refine warningSound_computeLevel b hr ?_ ?_
    · rw [State.withWarning_warning, h1, h2, h3]; exact h.siren
    · rw [State.withWarning_warning, h3, h4]; exact h.beacon
  · have h1 := h.withWarning_of_ne hi w
    rcases computeLevel_cases (s.withWarning w) b with ⟨c, -, -, e⟩ | ⟨hold, -, -, e⟩ <;> rw [e]
    · exact (h1.withWarning_of_ne hi _).changeLevel hi _ _
    · exact h1.withWarning_of_ne hi _

theorem Invariant.Holds.round (h : i.Holds s) (fault : Bool) (word : U32) :
    i.Holds (Machine.computeLevel true (evaluateRound fault word s)) :=
  h.computeLevel true fun hi => ⟨by subst hi; simpa using h.rules, rfl, rfl, rfl, rfl⟩

theorem Invariant.Holds.sendDisplay (h : i.Holds s) (content : DisplayContent) :
    i.Holds (sendDisplay content s) :=
  (h.withWarning (x := { s.warning with display := content }) fun _ hw =>
    ⟨hw.rules, hw.target, hw.upheld, hw.hold, hw.siren, hw.beacon⟩).withLatch _

end

end Sys2Proof.Machine

namespace Sys2Proof.Machine

section
variable {i : Invariant} {s : State}

/-! ### Channels and acquisitions -/

/-- A warmed channel is ON or WARMING, with its configuration. -/
theorem Channel.warm_state (x : Channel) (now : U32) :
    ((x.warm now).state = .warming ∨ (x.warm now).state = .on) ∧ (x.warm now).config = x.config := by
  unfold Channel.warm
  split <;> simp

theorem Channel.warm_ne_disabled (x : Channel) (now : U32) : (x.warm now).state ≠ .disabled := by
  rcases (x.warm_state now).1 with h | h <;> simp [h]

/-- A channel put into service is not DISABLED, with its configuration. -/
theorem Channel.serve_state (x : Channel) (now : U32) :
    (x.serve now).state ≠ .disabled ∧ (x.serve now).config = x.config := by
  unfold Channel.serve
  split
  · exact ⟨x.warm_ne_disabled now, (x.warm_state now).2⟩
  · exact ⟨by simp [Channel.unpower], rfl⟩

/-- A channel record of the same state and configuration. -/
theorem Invariant.Holds.setChan_same (h : i.Holds s) {c : Chan} {x : Channel}
    (hs : x.state = (chan c s).state) (hc : x.config = (chan c s).config) :
    i.Holds (Machine.setChan c x s) :=
  h.setChan (fun hd => ⟨by rwa [hs], by rw [hc]⟩) fun _ hw => by rwa [hs]

theorem Invariant.Holds.startSlot (h : i.Holds s) (c : Chan) : i.Holds (startSlot c s) := by
  cases c with
  | ch3 => exact h.withRanging _
  | _ => exact h

theorem Invariant.Holds.startPass (h : i.Holds s) (c : Chan) (pass : Pass) (now : U32) :
    i.Holds (startPass c pass now s) := by
  unfold Machine.startPass
  dsimp only
  exact Invariant.Holds.startSlot (h.setChan_same (by rfl) (by rfl)) c

theorem Invariant.Holds.burstIfAwaited (h : i.Holds s) (c : Chan) : i.Holds (burstIfAwaited c s) := by
  unfold Machine.burstIfAwaited
  split
  · exact h.startPass c _ _
  · exact h

theorem Invariant.Holds.takeIn (h : i.Holds s) (c : Chan) : i.Holds (takeIn s c) := by
  have h1 : i.Holds (Machine.setPreWarm c false s) := h.setPreWarm (by simp)
  simp only [Machine.takeIn]
  split
  · split
    · rename_i hsleep
      refine Invariant.Holds.burstIfAwaited (h1.setChan (fun _ => ?_) fun _ hw => ?_) c
      · exact ⟨Channel.warm_ne_disabled _ _, congrArg _ (Channel.warm_state _ _).2⟩
      · simp [hsleep] at hw
    · exact h1.burstIfAwaited c
  · exact h

theorem Invariant.Holds.startAcquisition (h : i.Holds s) (t : U32) (cause : Cause) :
    i.Holds (startAcquisition t cause s) := by
  unfold Machine.startAcquisition
  exact Invariant.Holds.foldl (f := Machine.takeIn) (fun c hc => hc.takeIn c) allChans
    (h.withSchedule (by rfl))

theorem Invariant.Holds.finishParticipant (h : i.Holds s) (c : Chan) (x : Handed) :
    i.Holds (finishParticipant c x s) := by
  unfold Machine.finishParticipant
  split
  · exact h
  · split
    · exact Invariant.Holds.owe (h.withSchedule (by rfl)) _
    · exact h

theorem Invariant.Holds.passOverChannel (h : i.Holds s) (c : Chan) : i.Holds (passOverChannel s c) := by
  unfold Machine.passOverChannel
  split
  · exact h
  · split
    · exact h.leavePreWarm fun _ => ⟨by simp [Channel.unpower], rfl⟩
    · exact h

theorem Invariant.Holds.dueInstant (h : i.Holds s) : i.Holds (dueInstant s) := by
  unfold Machine.dueInstant
  dsimp only
  refine Invariant.Holds.placeDue ?_
  split
  · exact Invariant.Holds.foldl (f := Machine.passOverChannel) (fun c hc => hc.passOverChannel c) allChans h
  · exact (h.startAcquisition _ _).owe _

theorem Invariant.Holds.noteReference (h : i.Holds s) (c : Chan) : i.Holds (noteReference c s) := by
  cases c with
  | ch2 => exact h.withEncoder _
  | _ => exact h

/-- A check that is promoted is CONTINUOUS and ON (R35). -/
theorem promotion_eq_some {c k : Chan} (h : promotion c s = some k) :
    (chan k s).config.mode = .continuous ∧ (chan k s).state = .on := by
  unfold promotion at h
  split at h
  · split at h
    · split at h
      · rename_i hk
        obtain rfl := Option.some.inj h
        exact hk
      · cases h
    · cases h
  · cases h

/-- A promoted check is fit to be the primary, and leaves no check behind (R35). -/
theorem Invariant.Holds.promote (h : i.Holds s) {c k : Chan} (hk : promotion c s = some k) :
    i.Holds (s.withStage { s.stage.rePair with primary := some k, check := none }) := by
  obtain ⟨hmode, hon⟩ := promotion_eq_some hk
  have hfit : (chan k s).state ≠ .disabled ∧ (chan k s).config.mode = .continuous := ⟨by simp [hon], hmode⟩
  refine h.withSelections fun _ => ⟨fun c' e => ?_, fun c' e => by cases e⟩
  obtain rfl := Option.some.inj e
  exact hfit

theorem Invariant.Holds.failChannel (h : i.Holds s) (c : Chan) : i.Holds (failChannel c s) := by
  have h1 := (h.leavePreWarm (c := c) (x := (chan c s).unpower .failed) fun _ =>
    ⟨by simp [Channel.unpower], rfl⟩).append (.channel s.time.station c .failed)
  simp only [Machine.failChannel]
  split
  · exact h1.takeBatch _
  · exact ((h1.promote ‹_›).append _).takeBatch _

theorem Invariant.Holds.endBurst (h : i.Holds s) (c : Chan) (b : Burst) (vs : List Int) (good : Bool) :
    i.Holds (endBurst c b vs good s) := by
  unfold Machine.endBurst
  extract_lets x time sample x1 handed
  split
  · refine Invariant.Holds.finishParticipant (Invariant.Holds.failChannel ?_ c) c _
    exact h.setChan_same (by rfl) (by rfl)
  · refine Invariant.Holds.finishParticipant ?_ c _
    split
    · exact h.setChan_same (by rfl) (by rfl)
    · exact h.leavePreWarm fun _ => ⟨by simp [Channel.unpower], rfl⟩

theorem Invariant.Holds.slotEnd (h : i.Holds s) (c : Chan) (count : U24) (b : Burst) :
    i.Holds (slotEnd c count b s) := by
  unfold Machine.slotEnd
  extract_lets r s1 readings x0 x vs s2
  have h1 : i.Holds s1 := (h.reach b.slotEnds).noteReference c
  have h2 : i.Holds (Machine.setChan c x s1) := h1.setChan_same (by rfl) (by rfl)
  clear_value s1
  split
  · refine Invariant.Holds.startSlot ?_ c
    exact h1.setChan_same (by rfl) (by rfl)
  · split
    · exact h2.endBurst c b vs true
    · split
      · exact h2.startPass c _ _
      · exact h2.endBurst c b vs false

/-! ### The cableway unit -/

/-- Without a drive the load trip's rule is met. -/
theorem Cableway.tripSafe_of_off {c : Cableway} (h : c.drive = none) : c.TripSafe :=
  fun _ d hd => by simp [h] at hd

/-- The load trip's rule is about the drive and the load trip's filter alone. -/
theorem Cableway.TripSafe.of_same {c x : Cableway} (h : c.TripSafe) (hd : x.drive = c.drive)
    (hl : x.loadTrip = c.loadTrip) : x.TripSafe := by
  unfold Cableway.TripSafe
  rwa [hd, hl]

@[simp] theorem Cableway.setAxis_drive (c : Cableway) (a : Axis) (x : AxisState) :
    (c.setAxis a x).drive = c.drive := by cases a <;> rfl

@[simp] theorem Cableway.setAxis_loadTrip (c : Cableway) (a : Axis) (x : AxisState) :
    (c.setAxis a x).loadTrip = c.loadTrip := by cases a <;> rfl

@[simp] theorem Cableway.setCount_drive (c : Cableway) (a : Axis) (n : U32) :
    (c.setCount a n).drive = c.drive := by cases a <;> rfl

@[simp] theorem Cableway.setCount_loadTrip (c : Cableway) (a : Axis) (n : U32) :
    (c.setCount a n).loadTrip = c.loadTrip := by cases a <;> rfl

@[simp] theorem Cableway.cut_drive (c : Cableway) (now : U32) : (c.cut now).drive = none := by
  unfold Cableway.cut
  split
  · assumption
  · rfl

theorem Cableway.TripSafe.zero {c : Cableway} (h : c.TripSafe) (a : Axis) : (c.zero a).TripSafe := by
  unfold Cableway.zero
  dsimp only
  split <;> exact h.of_same (by simp) (by simp)

theorem Cableway.TripSafe.energise {c : Cableway} (h : c.TripSafe) (dir : Direction) (fast : Bool)
    (now : U32) : (c.energise dir fast now).TripSafe := by
  unfold Cableway.energise
  split
  · rename_i hmay
    intro hl d hd
    obtain rfl := Option.some.inj hd
    simp only [Cableway.setAxis_loadTrip] at hl
    simpa [Cableway.mayDrive, hl] using hmay
  · exact h

theorem Cableway.TripSafe.speed {c : Cableway} (h : c.TripSafe) (fast : Bool) : (c.speed fast).TripSafe := by
  unfold Cableway.speed
  split
  · exact h
  · rename_i d hd
    intro hl d' hd'
    obtain rfl := Option.some.inj hd'
    refine ⟨(h hl d hd).1, ?_⟩
    dsimp only at hl
    simp only [Cableway.mayDrive, hl, (h hl d hd).1]
    cases fast <;> rfl

theorem Invariant.Holds.cutDrives (h : i.Holds s) : i.Holds (cutDrives s) :=
  h.onCable fun _ => Cableway.tripSafe_of_off (Cableway.cut_drive _ _)

theorem Invariant.Holds.endOp (h : i.Holds s) (o : OpOutcome) (r : OpResults) : i.Holds (endOp o r s) := by
  unfold Machine.endOp
  split
  · exact h
  · exact Invariant.Holds.raiseEvent (h.onCable fun hs => hs.of_same (by rfl) (by rfl)) (by simp)

theorem Invariant.Holds.endMotion (h : i.Holds s) (o : OpOutcome) : i.Holds (endMotion o s) :=
  (h.endOp o .none).onCable (f := fun c => { c with retract := none }) fun hs => hs.of_same (by rfl) (by rfl)

theorem Invariant.Holds.limitFault (h : i.Holds s) (l : Limit) : i.Holds (limitFault l s) :=
  ((h.cutDrives.endMotion .limit).takeBatch _).permitReport _

theorem Invariant.Holds.stallFault (h : i.Holds s) (a : Axis) : i.Holds (stallFault a s) :=
  ((h.cutDrives.endMotion .stall).takeBatch _).permitReport _

theorem Invariant.Holds.encoderFault (h : i.Holds s) (a : Axis) : i.Holds (encoderFault a s) :=
  (((h.cutDrives.onCable (f := fun c => { c with referenced := false, placement := none })
    fun hs => hs.of_same (by rfl) (by rfl)).endMotion .stall).takeBatch _).permitReport _

theorem Invariant.Holds.setOp (h : i.Holds s) (k : OpKind) (ph : Phase) : i.Holds (setOp k ph s) :=
  h.onCable fun hs => hs.of_same (by rfl) (by rfl)

theorem Invariant.Holds.setRetract (h : i.Holds s) (st : HomeStep) (ph : Phase) :
    i.Holds (setRetract st ph s) :=
  h.onCable fun hs => hs.of_same (by rfl) (by rfl)

theorem Invariant.Holds.beginReelHome (h : i.Holds s) : i.Holds (beginReelHome s).1 := by
  unfold Machine.beginReelHome
  split
  · exact h.onCable (f := (·.zero _)) fun hs => hs.zero _
  · exact h.onCable fun hs => hs.energise _ _ _

theorem Invariant.Holds.beginTraverseHome (h : i.Holds s) : i.Holds (beginTraverseHome s).1 := by
  unfold Machine.beginTraverseHome
  split
  · exact h.onCable (f := (·.zero _)) fun hs => hs.zero _
  · exact h.onCable fun hs => hs.energise _ _ _

theorem Invariant.Holds.watchDrift (h : i.Holds s) (a : Axis) : i.Holds (watchDrift a s) := by
  unfold Machine.watchDrift
  split
  · exact h.encoderFault a
  · exact h

theorem Invariant.Holds.finishHome (h : i.Holds s) (b : Bool) : i.Holds (finishHome b s) := by
  have h1 := (h.onCable (f := fun c => { c with referenced := true, lastSurface := none })
    fun hs => hs.of_same (by rfl) (by rfl)).endOp .done .none
  simp only [Machine.finishHome]
  refine Invariant.Holds.watchDrift (Invariant.Holds.watchDrift ?_ _) _
  split
  · rename_i hh
    exact h1.permitChange _ fun _ => ⟨by simp, by simp [hh.2]⟩
  · exact h1

theorem Invariant.Holds.homeTraverse (h : i.Holds s) (b : Bool) : i.Holds (homeTraverse b s) := by
  simp only [Machine.homeTraverse]
  split
  · exact h.beginTraverseHome.setOp _ _
  · exact h.beginTraverseHome.finishHome b

theorem Invariant.Holds.homeReel (h : i.Holds s) (b : Bool) : i.Holds (homeReel b s) := by
  simp only [Machine.homeReel]
  split
  · exact h.beginReelHome.setOp _ _
  · exact h.beginReelHome.homeTraverse b

theorem Invariant.Holds.finishRetract (h : i.Holds s) (cause : PermitCause) :
    i.Holds (finishRetract cause s) := by
  have h1 := h.onCable (f := fun c => { c with retract := none }) fun hs => hs.of_same (by rfl) (by rfl)
  simp only [Machine.finishRetract]
  split
  · rename_i hh
    exact h1.permitChange _ fun _ => ⟨by simp, by simp [hh]⟩
  · exact h1

theorem Invariant.Holds.retractTraverse (h : i.Holds s) : i.Holds (retractTraverse s) := by
  simp only [Machine.retractTraverse]
  split
  · exact h.beginTraverseHome.setRetract _ _
  · exact h.beginTraverseHome.finishRetract _

theorem Invariant.Holds.retractReel (h : i.Holds s) : i.Holds (retractReel s) := by
  simp only [Machine.retractReel]
  split
  · exact h.beginReelHome.setRetract _ _
  · exact h.beginReelHome.retractTraverse

theorem Invariant.Holds.startRetract (h : i.Holds s) : i.Holds (startRetract s) := by
  unfold Machine.startRetract
  split
  · exact h.retractReel
  · exact h.setRetract _ _

theorem Invariant.Holds.beginDrive (h : i.Holds s) (k : OpKind) (dir : Direction) (fast aimed : Bool)
    {atLimit : State → State} (hl : i.Holds (atLimit s)) : i.Holds (beginDrive k dir fast aimed atLimit s) := by
  have hdrive := (h.onCable (f := (·.energise dir fast s.time.elapsed)) fun hs => hs.energise _ _ _).setOp
    k .driving
  unfold Machine.beginDrive
  split
  · split
    · split
      · exact hl
      · exact h.limitFault _
    · exact hdrive
  · exact hdrive

theorem Invariant.Holds.beginMove (h : i.Holds s) (target : Int) : i.Holds (beginMove target s) := by
  have hend : i.Holds (finishMove s) := h.endOp _ _
  simp only [Machine.beginMove]
  split
  · exact hend
  · split <;> exact h.beginDrive _ _ _ _ hend

theorem Invariant.Holds.soundMax (h : i.Holds s) (ls : Option Int) : i.Holds (soundMax ls s) :=
  h.cutDrives.endOp _ _

theorem Invariant.Holds.beginSound (h : i.Holds s) (ls lb : Option Int) : i.Holds (beginSound ls lb s) := by
  unfold Machine.beginSound
  split
  · exact h.soundMax ls
  · exact h.beginDrive _ _ _ _ h

theorem Invariant.Holds.finishPosition (h : i.Holds s) (p : PositionOp) : i.Holds (finishPosition p s) := by
  unfold Machine.finishPosition
  exact Invariant.Holds.onCable (h.endOp _ _) fun hs => hs.of_same (by rfl) (by rfl)

theorem Invariant.Holds.beginPosition (h : i.Holds s) (p : PositionOp) : i.Holds (beginPosition p s) := by
  simp only [Machine.beginPosition]
  split
  · exact h.finishPosition _
  · split
    · split
      · exact h.finishPosition _
      · split
        · exact h.finishPosition _
        · exact h.beginDrive _ _ _ _ h
    · exact h.beginDrive _ _ _ _ h

theorem Invariant.Holds.finishCarry (h : i.Holds s) : i.Holds (finishCarry s) := by
  unfold Machine.finishCarry
  exact Invariant.Holds.onCable (h.endOp _ _) fun hs => hs.of_same (by rfl) (by rfl)

theorem Invariant.Holds.beginCarry (h : i.Holds s) : i.Holds (beginCarry s) := by
  simp only [Machine.beginCarry]
  split
  · exact h.finishCarry
  · exact h.beginDrive _ _ _ _ h.finishCarry

theorem Invariant.Holds.finishSound (h : i.Holds s) (ls lb : Int) : i.Holds (finishSound ls lb s) :=
  Invariant.Holds.withWorking (h.endOp _ _) _

theorem Invariant.Holds.beginOp (h : i.Holds s) (k : OpKind) : i.Holds (beginOp k s) := by
  unfold Machine.beginOp
  split
  · exact h.homeReel _
  · exact h.homeTraverse _
  · exact h.beginMove _
  · exact h.beginSound _ _
  · exact h.beginPosition _
  · exact h.beginCarry
  · exact h
  · exact h.beginDrive _ _ _ _ (h.endOp _ _)

theorem Invariant.Holds.settleOp (h : i.Holds s) (k : OpKind) : i.Holds (settleOp k s) := by
  unfold Machine.settleOp
  split
  · exact h.homeTraverse _
  · exact h.finishHome _
  · exact h.endOp _ _
  · exact h.finishSound _ _
  · exact h
  · exact h
  · exact h.finishPosition _
  · exact h.finishCarry
  · exact h
  · exact h.endOp _ _

theorem Invariant.Holds.resume (h : i.Holds s) : i.Holds (resume s) := by
  unfold Machine.resume
  split
  · split
    · split
      · exact h.beginOp _
      · exact h
      · exact h.settleOp _
    · split
      · split
        · exact h.retractReel
        · exact h.retractTraverse
        · exact h.retractTraverse
        · exact h.finishRetract _
        · exact h
      · exact h
  · exact h

theorem Invariant.Holds.cutAndSettle (h : i.Holds s) (k : OpKind) : i.Holds (cutAndSettle k s) :=
  (h.cutDrives.setOp k .settling).resume

theorem Invariant.Holds.acceptOp (h : i.Holds s) (k : OpKind) : i.Holds (acceptOp k s) :=
  (h.setOp k .waiting).resume

theorem Invariant.Holds.zero (h : i.Holds s) (a : Axis) : i.Holds (Machine.onCable (·.zero a) s) :=
  h.onCable fun hs => hs.zero a

theorem Invariant.Holds.limitMet (h : i.Holds s) (l : Limit) : i.Holds (limitMet l s) := by
  unfold Machine.limitMet
  split
  · split
    · exact (h.zero _).cutAndSettle _
    · exact (h.zero _).cutAndSettle _
    · split
      · exact h.cutAndSettle _
      · exact h.limitFault _
    · split
      · exact h.cutAndSettle _
      · exact h.limitFault _
    · exact h.cutAndSettle _
    · exact h.limitFault _
  · split
    · split
      · exact (h.zero _).cutDrives.setRetract _ _
      · exact (h.zero _).cutDrives.setRetract _ _
      · exact h.limitFault _
    · exact h.limitFault _

theorem Invariant.Holds.speed (h : i.Holds s) (fast : Bool) : i.Holds (Machine.onCable (·.speed fast) s) :=
  h.onCable fun hs => hs.speed fast

theorem Invariant.Holds.trackMotion (h : i.Holds s) : i.Holds (trackMotion s) := by
  simp only [Machine.trackMotion]
  split
  · exact h
  · split
    · split
      · exact h
      · exact h.speed _
      · split
        · exact h.cutAndSettle _
        · exact h.speed _
      · split
        · exact h.soundMax _
        · exact h.speed _
      · split
        · exact h.cutAndSettle _
        · exact h.speed _
      · split
        · exact h.cutAndSettle _
        · exact h.speed _
      · exact h
      · exact h
    · split
      · split
        · exact h
        · exact h.speed _
      · exact h

theorem Invariant.Holds.surfaceContact (h : i.Holds s) : i.Holds (surfaceContact s) := by
  unfold Machine.surfaceContact
  split
  · exact Invariant.Holds.onCable (h.setOp _ _) fun hs => (hs.speed false).of_same (by rfl) (by rfl)
  · exact h
  · exact h

theorem Invariant.Holds.bottomContact (h : i.Holds s) : i.Holds (bottomContact s) := by
  unfold Machine.bottomContact
  split
  · exact h.cutAndSettle _
  · split
    · split
      · exact h.cutAndSettle _
      · exact h
    · exact h
  · exact h
  · exact h

theorem Invariant.Holds.meterEdge (h : i.Holds s) : i.Holds (meterEdge s) := by
  unfold Machine.meterEdge
  split
  · exact h.setOp _ _
  · exact h
  · exact h

/-- A passed level of the load trip that asserts cuts the drives before anything else (R138). -/
theorem Invariant.Holds.passLevel (h : i.Holds s) (c : Contact) (level : Bool) :
    i.Holds (passLevel c level s) := by
  have hset : c ≠ .loadTrip ∨ level = false → i.Holds (Machine.onCable
      (·.setFilter c { passed := level, candidate := none }) s) := fun hc =>
    h.onCable fun hs => by
      cases c with
      | loadTrip =>
        intro hl
        simp_all [Cableway.setFilter]
      | _ => exact hs.of_same (by rfl) (by rfl)
  simp only [Machine.passLevel]
  split
  · cases c with
    | surface => exact (hset (by simp)).surfaceContact
    | bottom => exact (hset (by simp)).bottomContact
    | meter => exact (hset (by simp)).meterEdge
    | loadTrip =>
      have hcut : i.Holds (Machine.cutDrives (Machine.onCable
          (·.setFilter .loadTrip { passed := level, candidate := none }) s)) :=
        h.withCableway fun _ => Cableway.tripSafe_of_off (Cableway.cut_drive _ _)
      exact ((hcut.endMotion .loadTrip).takeBatch _).permitReport _
  · rename_i hl
    exact hset (.inr (by simpa using hl))

theorem Invariant.Holds.standDown (h : i.Holds s) (cond : StandCondition) : i.Holds (standDown cond s) :=
  (Invariant.Holds.closeThenChange ((h.cutDrives.endOp .stoodDown .none)) .abandonedFlood
    (.standDown cond) (by simp)).startRetract

theorem Invariant.Holds.permitTest (h : i.Holds s) : i.Holds (permitTest s) := by
  unfold Machine.permitTest
  split
  · split
    · exact h.standDown _
    · exact h
  · exact h

/-! ### The agenda -/

@[simp] theorem Rating.noted_shift (r : Rating) (d : DischargeResult) :
    (r.noted d).shift = r.shift ∧ (r.noted d).shiftLimit = r.shiftLimit := by
  unfold Rating.noted
  split <;> simp

theorem Invariant.Holds.noted (h : i.Holds s) (d : DischargeResult) :
    i.Holds (s.withRating (s.rating.noted d)) :=
  h.withRating fun hs => by simpa [ShiftWithinLimit] using hs

theorem Invariant.Holds.stageUpdate (h : i.Holds s) (a : Acquisition) : i.Holds (stageUpdate a s) := by
  obtain ⟨hp, hc, -⟩ := formStage_settings a s.stage
  unfold Machine.stageUpdate
  refine Invariant.Holds.raiseEvent (Invariant.Holds.owe (Invariant.Holds.sendDisplay ?_ _) _) (by simp)
  exact Invariant.Holds.noted (h.withStage (by exact hp) (by exact hc)) _

theorem Invariant.Holds.complete (h : i.Holds s) : i.Holds (complete s) := by
  unfold Machine.complete
  split
  · exact h
  · split
    · exact Invariant.Holds.stageUpdate (h.withSchedule (by rfl)) _
    · exact h

theorem Invariant.Holds.doWork (h : i.Holds s) (w : Work) : i.Holds (doWork w s) := by
  cases w with
  | batch rs => exact h.takeBatch rs
  | faultRound word => exact h.round true word
  | stageRound => exact h.round false _
  | permitTest => exact h.permitTest
  | sampleEntry time cause => exact h.append _
  | completion => exact h.complete

theorem Invariant.Holds.settle (h : i.Holds s) : i.Holds (settle s) :=
  settle_keeps i.Holds (fun _ ws h => h.withDue ws) (fun _ w h => h.doWork w) s h

end

end Sys2Proof.Machine

namespace Sys2Proof.Machine

/-! ### Commands and happenings -/

/-- What a block's work keeps, its command keeps. -/
theorem Invariant.Holds.command {i : Invariant} {s t : State} (h : i.Holds s) {p : Port} {c : Instr}
    {work : State → State × Answer} (he : command p c work s = .next t)
    (hw : i.Holds (work s).1) : i.Holds t := by
  unfold Machine.command at he
  split at he
  · cases he; exact h
  · split at he
    · cases he; exact hw.giveAnswer p c _
    · cases he; exact h.giveAnswer p c _

/-- What a happening's effect keeps, its step keeps. -/
theorem Invariant.Holds.event {i : Invariant} {s t : State} (h : i.Holds s) {f : State → State}
    (he : event f s = .next t) (hf : i.Holds (f s)) : i.Holds t := by
  unfold Machine.event at he
  split at he
  · cases he; exact h
  · cases he; exact hf.settle

section
variable {i : Invariant} {s : State}

/-! ### Resets -/

theorem countingLevel_atReset (rules : List Rule) : countingLevel (rules.map Rule.atReset) = 0 := by
  induction rules with
  | nil => rfl
  | cons r rs ih => simpa [countingLevel, Rule.counts, Rule.atReset, RuleState.testsSet] using ih

theorem warningSound_atReset {w : Warning} (h : w.rules.length = 16) : WarningSound w.atReset where
  rules := by simpa [Warning.atReset] using h
  target := by simp [Warning.atReset, Warning.formTarget, countingLevel_atReset]
  upheld := le_rfl
  hold := by simp [Warning.atReset]
  siren := by simp [Warning.atReset]
  beacon := by simp [Warning.atReset]

/-- A reset neither disables a channel nor brings one into service. -/
theorem Channel.atReset_state (x : Channel) :
    (x.atReset.state = .disabled ↔ x.state = .disabled) ∧ x.atReset.config = x.config := by
  refine ⟨?_, rfl⟩
  unfold Channel.atReset
  cases h : x.state <;> simp

theorem Channel.atRestart_state (x : Channel) :
    (x.atRestart.state = .disabled ↔ x.state = .disabled) ∧ x.atRestart.config = x.config := by
  unfold Channel.atRestart
  split
  · rename_i h
    exact ⟨iff_of_false (x.serve_state 0).1 (by simp [h]), (x.serve_state 0).2⟩
  · exact ⟨Iff.rfl, rfl⟩

/-- Every channel changed in one, none of them DISABLED anew, with no pre-warm set. -/
theorem Invariant.Holds.withChans (h : i.Holds s) {f : Channel → Channel}
    (hf : ∀ x, ((f x).state = .disabled ↔ x.state = .disabled) ∧ (f x).config = x.config)
    (hw : s.schedule.preWarm = .all false) : i.Holds (s.withChans (s.chans.map fun _ x => f x)) := by
  have hchan (k : Chan) : chan k (s.withChans (s.chans.map fun _ x => f x)) = f (chan k s) := by
    simp [chan]
  cases i
  case selections =>
    refine ⟨fun k hk => ?_, fun k hk => ⟨(h.2 k hk).1, ?_⟩⟩
    · rw [hchan, (hf _).2, ne_eq, (hf _).1]
      exact h.1 k hk
    · rw [hchan, ne_eq, (hf _).1]
      exact (h.2 k hk).2
  case preWarm =>
    intro k hk
    rw [State.withChans_schedule, hw] at hk
    cases k <;> cases hk
  all_goals exact h

/-- The invariants that a reset keeps block by block: the permit's and the RECORD events' wait for its end. -/
theorem Invariant.Holds.clearVolatile (h : i.Holds s) (hp : i ≠ .permit) (he : i ≠ .recordEvents) :
    i.Holds (clearVolatile s) := by
  cases i
  case faultWord => exact (by decide : (0#32 : U32) &&& 0xFFE00000#32 = 0)
  case shift => exact h
  case record => exact h
  case selections =>
    have hchans : SelectionsSound (s.withSchedule { s.schedule with preWarm := .all false }) := h
    exact Invariant.Holds.withChans (i := .selections) hchans Channel.atReset_state rfl
  case preWarm => intro c hc; cases c <;> cases hc
  case recordEvents => exact absurd rfl he
  case warning => exact warningSound_atReset h.rules
  case drives => exact Cableway.tripSafe_of_off (c := .reset s.cableway.config s.cableway.pins) rfl
  case permit => exact absurd rfl hp

/-- A held part owes the permit's and the RECORD events' invariants to its restart. -/
theorem Invariant.Holds.holdReset (h : i.Holds s) (src : ResetSource) : i.Holds (holdReset src s) := by
  by_cases hp : i = .permit
  · subst hp; intro hh; cases hh
  · by_cases he : i = .recordEvents
    · subst he; intro hh; cases hh
    · have h1 := h.clearVolatile hp he
      unfold Machine.holdReset
      cases i
      case permit => exact absurd rfl hp
      case recordEvents => exact absurd rfl he
      all_goals exact h1

/-- The state in which a restart's blocks have started, before RESTART is reported. -/
def startedBlocks (msToCount : Nat) (s : State) : State :=
  let s0 := (clearVolatile s).withHeld none
  let s1 := s0.withTime { s0.time with nextCount := BitVec.ofNat 32 msToCount }
  placeDue (s1.withChans (s1.chans.map fun _ x => x.atRestart))

/-- The state in which the RESTART entry is appended. -/
def restartEntered (src : ResetSource) (msToCount : Nat) (s : State) : State :=
  let s3 := takeBatch [{ fault := .restart, arg := .reset (.station src) }]
    (sendDisplay .dashes (startedBlocks msToCount s))
  append (.restart s3.time.station (.station src)) s3

theorem restart_eq (src : ResetSource) (msToCount : Nat) (s : State) :
    restart src msToCount s = settle (closeRun .abandonedReset (restartEntered src msToCount s)) := rfl

theorem Invariant.Holds.startedBlocks (h : i.Holds s) (hp : i ≠ .permit) (he : i ≠ .recordEvents)
    (ms : Nat) : i.Holds (startedBlocks ms s) := by
  have h0 : i.Holds ((Machine.clearVolatile s).withHeld none) := by
    have h1 := h.clearVolatile hp he
    cases i
    case permit => exact absurd rfl hp
    case recordEvents => exact absurd rfl he
    all_goals exact h1
  unfold Machine.startedBlocks
  exact Invariant.Holds.placeDue (Invariant.Holds.withChans (h0.withTime _) Channel.atRestart_state rfl)

@[simp] theorem placeDue_permit (s : State) : (placeDue s).permit = s.permit := by
  obtain ⟨_, _, h⟩ := placeDue_only s
  simp [h]

@[simp] theorem append_permit (e : Entry) (s : State) : (append e s).permit = s.permit := by
  obtain ⟨_, _, _, _, h⟩ := append_only e s
  simp [h]

@[simp] theorem takeBatch_permit (rs : List Report) (s : State) : (takeBatch rs s).permit = s.permit := by
  obtain ⟨_, _, h⟩ := takeBatch_only rs s
  simp [h]

theorem restartPermit_notOpen (b : Bool) (t : U32) : (restartPermit b t).state ≠ .open_ := by
  cases b <;> simp [restartPermit]

/-- The permit starts CLOSED or HALTED (R173). -/
theorem restartEntered_notOpen (src : ResetSource) (ms : Nat) (s : State) :
    (restartEntered src ms s).permit.record.state ≠ .open_ := by
  have hp : (restartEntered src ms s).permit.record
      = restartPermit s.cableway.pins.loadTrip s.time.station := by
    simp [restartEntered, sendDisplay, startedBlocks, clearVolatile]
  rw [hp]
  exact restartPermit_notOpen _ _

theorem Invariant.Holds.restart (h : i.Holds s) (src : ResetSource) (ms : Nat) : i.Holds (restart src ms s) := by
  rw [restart_eq]
  refine Invariant.Holds.settle ?_
  by_cases hp : i = .permit
  · subst hp
    refine permit_of_notOpen (closeRun_notOpen _ _) ?_
    rw [closeRun_permit]
    exact restartEntered_notOpen src ms s
  · refine Invariant.Holds.closeRun ?_ hp _
    by_cases he : i = .recordEvents
    · subst he; exact recordEvents_append _ _
    · exact (((h.startedBlocks hp he ms).sendDisplay _).takeBatch _).append _

theorem Invariant.Holds.commandReset (h : i.Holds s) : i.Holds (commandReset s) := h.restart _ _

/-- The part right after reset meets every invariant. -/
theorem Invariant.holds_reset : ∀ i : Invariant, i.Holds State.reset
  | .faultWord => by unfold Invariant.Holds FaultWordReserved; decide
  | .shift => by unfold Invariant.Holds ShiftWithinLimit; decide
  | .record => by unfold Invariant.Holds RecordSound; decide
  | .selections => ⟨fun c e => (by cases e), fun c e => (by cases e)⟩
  | .preWarm => fun c hc => by cases c <;> cases hc
  | .recordEvents => fun _ => by decide
  | .warning =>
    { rules := rfl, target := by decide, upheld := by decide, hold := by decide, siren := by decide
      beacon := by decide }
  | .drives => Cableway.tripSafe_of_off (c := .reset .cold .allOpen) rfl
  | .permit => permit_of_notOpen rfl (by decide)

/-- A cold reset is the state right after reset but for the pins and the slots that fail hard. -/
theorem Invariant.Holds.coldRestart (h : i.Holds s) : i.Holds (coldRestart s) := by
  cases i
  case record =>
    have hwf := h.1
    simp only [Record.wf, Bool.and_eq_true] at hwf
    refine ⟨?_, (Invariant.holds_reset .record).2⟩
    simp only [Record.wf, Bool.and_eq_true]
    exact ⟨rfl, Sparse.filter_wf _ _ _ hwf.2⟩
  case drives => exact Cableway.tripSafe_of_off (c := .reset .cold s.cableway.pins) rfl
  case permit => exact permit_of_notOpen rfl (restartPermit_notOpen _ _)
  case faultWord => exact Invariant.holds_reset .faultWord
  case shift => exact Invariant.holds_reset .shift
  case selections => exact Invariant.holds_reset .selections
  case preWarm => exact Invariant.holds_reset .preWarm
  case recordEvents => exact Invariant.holds_reset .recordEvents
  case warning => exact Invariant.holds_reset .warning

end

end Sys2Proof.Machine

namespace Sys2Proof.Machine

section
variable {i : Invariant} {s : State}

/-! ### Ports and records -/

theorem Invariant.Holds.endFrame (h : i.Holds s) (p : Port) (bytes : List Byte) :
    i.Holds (Machine.onPort p (Machine.endFrame p bytes) s) := by
  refine h.onPort p fun _ u => ?_
  unfold Machine.endFrame
  split
  · split <;> rfl
  all_goals rfl

theorem Invariant.Holds.shifted (h : i.Holds s) (p : Port) (bytes : List Byte) :
    i.Holds (shifted p bytes s) :=
  h.onPort p fun _ _ => rfl

theorem Invariant.Holds.fetchTransaction (h : i.Holds s) (p : Port) (n : Nat) :
    i.Holds (fetchTransaction p n s) := by
  have h1 := (h.shifted p (shiftOut (fetchReply (s.ports.get p)) n)).onPort p (f := PortUnit.fetched)
    fun _ u => by unfold PortUnit.fetched; split <;> rfl
  unfold Machine.fetchTransaction
  split
  · exact h
  · dsimp only
    split
    · exact h1.commandReset
    · exact h1

theorem Invariant.Holds.clearTransaction (h : i.Holds s) (p : Port) (n : Nat) :
    i.Holds (clearTransaction p n s) := by
  have h1 := (h.shifted p (List.replicate n 0)).onPort p (f := PortUnit.cleared) fun _ _ => rfl
  unfold Machine.clearTransaction
  dsimp only
  split
  · exact h1.commandReset
  · exact h1

theorem Invariant.Holds.pollTransaction (h : i.Holds s) (p : Port) (n : Nat) :
    i.Holds (pollTransaction p n s) := by
  unfold Machine.pollTransaction
  split
  · exact h
  · exact h.shifted p _

theorem Invariant.Holds.execRequestFrame (h : i.Holds s) {p : Port} {bytes : List Byte} {t : State}
    (he : execRequestFrame p bytes s = .next t) : i.Holds t := by
  unfold Machine.execRequestFrame at he
  split at he
  · cases he; exact h
  · split at he
    · cases he; exact h
    · split at he
      · cases he; exact h.pollTransaction p _
      · split at he
        · cases he; exact h.clearTransaction p _
        · split at he
          · cases he; exact h.fetchTransaction p _
          · cases he; exact (h.shifted p _).endFrame p _

theorem Invariant.Holds.placeOrDrop (h : i.Holds s) (p : Port) (source : Option Nat) :
    i.Holds (Machine.onPort p (fun u => match source with
      | none => u.placeAnswer
      | some i => u.dropAnswer i) s) := by
  refine h.onPort p fun _ u => ?_
  cases source with
  | none =>
    dsimp only
    unfold PortUnit.placeAnswer
    split
    · split <;> rfl
    all_goals rfl
  | some n =>
    dsimp only
    unfold PortUnit.dropAnswer
    split
    · split <;> rfl
    · rfl

/-- A reading moves the reader's cursor, and its RECORD event waits for the end of the reading. -/
theorem Invariant.Holds.readOn (hi : i ≠ .recordEvents) (p : Port) (n : Nat) :
    ∀ {s : State}, i.Holds s → i.Holds (readOn p n s).1 := by
  induction n with
  | zero => intro s h; exact h
  | succ n ih =>
    intro s h
    simp only [Machine.readOn]
    split
    · exact ih (Invariant.Holds.takeBatch
        (h.withRecord (fun hs => (hs.readSequence _).setCursor p _) fun e => absurd e hi) _)
    · exact h

theorem Record.Sound.upsets {r : Record} (us : List (Nat × CellCondition)) (h : r.Sound) :
    (us.foldl Machine.upset r).Sound := by
  induction us generalizing r with
  | nil => exact h
  | cons u us ih => exact ih (h.upset u)

theorem Invariant.Holds.readItems (h : i.Holds s) (p : Port) (us : List (Nat × CellCondition)) :
    i.Holds (Machine.syncRecord (Machine.readItems p (s.withRecord (us.foldl Machine.upset s.record))).1) := by
  by_cases hi : i = .recordEvents
  · subst hi; exact recordEvents_syncRecord _
  · refine Invariant.Holds.syncRecord ?_
    have h1 := h.withRecord (x := us.foldl Machine.upset s.record) (fun hs => hs.upsets us) fun e => absurd e hi
    simp only [Machine.readItems]
    split
    · exact Invariant.Holds.readOn hi p 7 (h1.withRecord (fun hs => hs.setCursor p _) fun e => absurd e hi)
    · exact h1.readOn hi p 8

theorem Invariant.Holds.seek (h : i.Holds s) (p : Port) (q : Nat) :
    i.Holds (Machine.syncRecord (s.withRecord (s.record.setCursor p q))) := by
  by_cases hi : i = .recordEvents
  · subst hi; exact recordEvents_syncRecord _
  · exact (h.withRecord (fun hs => hs.setCursor p q) fun e => absurd e hi).syncRecord

theorem Invariant.Holds.emptyEvents (h : i.Holds s) (p : Port) :
    i.Holds (Machine.syncRecord (Machine.onPort p (fun u => { u with events := .none, permitCopy := none }) s)) := by
  by_cases hi : i = .recordEvents
  · subst hi; exact recordEvents_syncRecord _
  · exact (h.onPort p fun e => absurd e hi).syncRecord

/-! ### Time and the schedule -/

theorem Invariant.Holds.changeTime (h : i.Holds s) (t : U32) : i.Holds (changeTime t s) := by
  have h1 : i.Holds (stepTime t s) := (h.withTime _).withSchedule (by rfl)
  unfold Machine.changeTime
  refine Invariant.Holds.placeDue ?_
  unfold emptyRing
  exact ((h1.append _).takeBatch _).withStage (by rfl) (by rfl)

theorem Invariant.Holds.setSchedule (h : i.Holds s) (n f l : Nat) : i.Holds (setSchedule n f l s) := by
  unfold Machine.setSchedule
  refine Invariant.Holds.placeDue (Invariant.Holds.withSchedule ?_ (by rfl))
  exact h.withSchedule (by rfl)

theorem Invariant.Holds.countTime (h : i.Holds s) : i.Holds (countTime s) := by
  unfold Machine.countTime
  extract_lets s1 _ s2
  have h2 : i.Holds s2 := (h.reach _).withTime _
  split
  · exact h2.dueInstant
  · exact h2

theorem Invariant.Holds.reachPreWarm (h : i.Holds s) (c : Chan) : i.Holds (reachPreWarm c s) := by
  have h1 := h.reach (preWarmReading c s)
  have hchan : chan c (Machine.reach (preWarmReading c s) s) = chan c s := by
    obtain ⟨x, hx⟩ := reach_only (preWarmReading c s) s
    rw [hx]; rfl
  unfold Machine.reachPreWarm
  dsimp only
  split
  · rename_i hsleep
    refine Invariant.Holds.setPreWarm (h1.setChan (fun _ => ?_) fun _ hw => ?_) fun _ => ?_
    · exact ⟨Channel.warm_ne_disabled _ _, congrArg _ (Channel.warm_state _ _).2⟩
    · simp [hchan, hsleep.1] at hw
    · rw [show chan c (Machine.setChan c ((chan c (Machine.reach (preWarmReading c s) s)).warm
        (Machine.reach (preWarmReading c s) s).time.elapsed) (Machine.reach (preWarmReading c s) s)) = _
        from PerChan.get_set_same ..]
      exact (Channel.warm_state _ _).1
  · exact h

/-! ### Channels and selections -/

/-- A DISABLED channel is no selected primary, no check, and in no pre-warm set. -/
theorem Invariant.Holds.setChan_disabled (h : i.Holds s) {c : Chan} (x : Channel)
    (hd : (chan c s).state = .disabled) : i.Holds (Machine.setChan c x s) :=
  h.setChan (fun hn => absurd hd hn) fun _ hw => by simp [hd] at hw

theorem Invariant.Holds.dropReference (h : i.Holds s) (c : Chan) : i.Holds (dropReference c s) := by
  cases c with
  | ch2 => exact h.withEncoder _
  | _ => exact h

theorem Invariant.Holds.restoreChannel (h : i.Holds s) {c : Chan} (hf : (chan c s).state = .failed) :
    i.Holds (restoreChannel c s) := by
  unfold Machine.restoreChannel
  refine Invariant.Holds.append (Invariant.Holds.dropReference (h.setChan (fun _ => ?_) fun _ hw => ?_) c) _
  · exact ⟨((chan c s).serve_state _).1, congrArg _ ((chan c s).serve_state _).2⟩
  · simp [hf] at hw

theorem Invariant.Holds.leaveAcquisition (h : i.Holds s) (c : Chan) : i.Holds (leaveAcquisition c s) := by
  unfold Machine.leaveAcquisition
  split
  · exact h
  · rename_i a _
    have h1 := h.withSchedule (x := { s.schedule with
      acq := some { a with still := a.still.set c false, handed := a.handed.set c none } }) rfl
    dsimp only
    split
    · exact h1.owe _
    · exact h1

/-- The channel disabled is not the primary, and a check no longer (R24). -/
theorem Invariant.Holds.disableChannel (h : i.Holds s) {c : Chan} (hp : s.stage.primary ≠ some c) :
    i.Holds (disableChannel c s) := by
  unfold Machine.disableChannel
  extract_lets _ s1 _ s2
  refine Invariant.Holds.leaveAcquisition ?_ c
  have hother {k : Chan} (hk : k ≠ c) : chan k s1 = chan k s := PerChan.get_set_other _ hk _
  cases i
  case selections =>
    have hprimary : ∀ k, s.stage.primary = some k →
        (chan k s1).state ≠ .disabled ∧ (chan k s1).config.mode = .continuous := fun k hk => by
      rw [hother fun e => hp (e ▸ hk)]
      exact h.1 k hk
    unfold s2
    split
    · exact ⟨hprimary, fun k hk => by cases hk⟩
    · rename_i hcheck
      refine ⟨hprimary, fun k hk => ?_⟩
      rw [hother fun e => hcheck (e ▸ hk)]
      exact h.2 k hk
  case preWarm =>
    have h1 : PreWarmSound s1 := fun k hk => by
      by_cases hkc : k = c
      · subst hkc
        change (s.schedule.preWarm.set k false).get k = true at hk
        rw [PerChan.get_set_same] at hk
        cases hk
      · rw [hother hkc]
        change (s.schedule.preWarm.set c false).get k = true at hk
        rw [PerChan.get_set_other _ hkc] at hk
        exact h k hk
    unfold s2
    split <;> exact h1
  all_goals
    unfold s2
    split <;> exact h

theorem Invariant.Holds.selectPrimary (h : i.Holds s) {c : Chan}
    (hc : (chan c s).config.mode = .continuous ∧ (chan c s).state = .on) : i.Holds (selectPrimary c s) := by
  unfold Machine.selectPrimary
  split
  · exact h
  · refine h.withSelections fun hs => ⟨fun k hk => ?_, fun k hk => ?_⟩
    · obtain rfl := Option.some.inj hk
      exact ⟨ne_of_eq_of_ne hc.2 (by simp), hc.1⟩
    · rw [State.withStage_stage] at hk ⊢
      dsimp only at hk ⊢
      split at hk
      · cases hk
      · rename_i hne
        exact ⟨fun e => hne (by rw [hk, ← Option.some.inj e]), (hs.2 k hk).2⟩

theorem Invariant.Holds.selectCheck (h : i.Holds s) {sel : Option Chan}
    (hc : ∀ c, sel = some c → s.stage.primary ≠ some c ∧ (chan c s).state ≠ .disabled) :
    i.Holds (selectCheck sel s) := by
  unfold Machine.selectCheck
  split
  · exact h
  · exact h.withSelections fun hs => ⟨fun k hk => hs.1 k hk, fun k hk => hc k hk⟩

theorem Invariant.Holds.expireWarmUp (h : i.Holds s) (c : Chan) : i.Holds (expireWarmUp c s) := by
  simp only [Machine.expireWarmUp]
  split
  · rename_i t hstate _
    have hchan : chan c (Machine.reach t s) = chan c s := by
      obtain ⟨x, hx⟩ := reach_only t s
      rw [hx]; rfl
    refine Invariant.Holds.burstIfAwaited ((h.reach t).setChan (fun _ => ⟨by simp, ?_⟩) fun _ _ => .inr rfl) c
    rw [hchan]
  all_goals exact h

theorem Invariant.Holds.stepQuadrature (h : i.Holds s) (up : Bool) : i.Holds (stepQuadrature up s) := by
  unfold Machine.stepQuadrature
  split
  · exact h.withEncoder _
  · exact h

theorem Invariant.Holds.keepReply (h : i.Holds s) (r : RangingFrame) : i.Holds (keepReply r s) := by
  unfold Machine.keepReply
  split
  · split
    · exact h
    · exact h.withRanging _
  all_goals exact h

/-! ### The rating -/

theorem Invariant.Holds.recompute (h : i.Holds s) : i.Holds (recompute s) := by
  unfold Machine.recompute
  exact Invariant.Holds.takeBatch (Invariant.Holds.withStage (h.noted _) (by rfl) (by rfl)) _

/-- A clamped shift lies within its limit (R62). -/
theorem clampShift_within (limit : Nat) (v : Int) :
    -(limit : Int) ≤ clampShift limit v ∧ clampShift limit v ≤ limit := by
  unfold clampShift clampInt
  split
  · omega
  · split <;> omega

theorem Invariant.Holds.installShift (h : i.Holds s) (v : Int) : i.Holds (installShift v s) :=
  h.withRating fun _ => clampShift_within _ v

theorem Invariant.Holds.setShiftLimit (h : i.Holds s) (limit : Nat) : i.Holds (setShiftLimit limit s) := by
  have h1 := h.withRating (x := { s.rating with
    shiftLimit := limit, shift := clampShift limit s.rating.shift }) fun _ => clampShift_within limit _
  unfold Machine.setShiftLimit
  dsimp only
  split
  · exact h1
  · exact h1.recompute

theorem Invariant.Holds.loadRating (h : i.Holds s) (t : List TablePoint) : i.Holds (loadRating t s) := by
  unfold Machine.loadRating
  exact Invariant.Holds.recompute (h.withRating fun hs => ⟨by dsimp only; omega, by dsimp only; omega⟩)

/-! ### The warning and the faults -/

theorem Invariant.Holds.setWarningConfig (h : i.Holds s) (level hold run : Nat) :
    i.Holds (setWarningConfig level hold run s) := by
  by_cases hi : i = .warning
  · subst hi
    unfold Machine.setWarningConfig
    dsimp only
    split
    · refine cast (congrArg WarningSound (sirenOff_warning _).symm) ?_
      exact { rules := h.rules, target := h.target, upheld := h.upheld, hold := h.hold
              siren := by simp, beacon := h.beacon }
    · rename_i hl
      exact { rules := h.rules, target := h.target, upheld := h.upheld, hold := h.hold
              siren := fun _ => ⟨fun e => hl (.inl e), not_lt.1 fun e => hl (.inr e)⟩, beacon := h.beacon }
  · have h1 := h.withWarning_of_ne hi { s.warning with sirenLevel := level, holdMin := hold, sirenRun := run }
    unfold Machine.setWarningConfig
    dsimp only
    split
    · exact h1.sirenOff hi
    · exact h1

theorem Invariant.Holds.loadRule (h : i.Holds s) (n : Nat) (r : Rule) : i.Holds (loadRule n r s) :=
  h.computeLevel false fun hi => ⟨by subst hi; simpa using h.rules, rfl, rfl, rfl, rfl⟩

theorem Invariant.Holds.setFloor (h : i.Holds s) (level : Nat) : i.Holds (setFloor level s).1 :=
  Invariant.Holds.settle
    (h.computeLevel false fun hi => ⟨by subst hi; exact h.rules, rfl, rfl, rfl, rfl⟩)

/-- Turning the siren OFF keeps the warning unit sound. -/
theorem WarningSound.quiet {w : Warning} (h : WarningSound w) : WarningSound { w with siren := none } :=
  { rules := h.rules, target := h.target, upheld := h.upheld, hold := h.hold, siren := by simp
    beacon := h.beacon }

theorem Invariant.Holds.ackSiren (h : i.Holds s) : i.Holds (ackSiren s) := by
  unfold Machine.ackSiren
  exact Invariant.Holds.raiseEvent (Invariant.Holds.append (h.withWarning fun _ hw => hw.quiet) _) (by simp)

theorem Invariant.Holds.expireSiren (h : i.Holds s) : i.Holds (expireSiren s) := by
  unfold Machine.expireSiren
  split
  · exact Invariant.Holds.raiseEvent
      (Invariant.Holds.takeBatch ((h.reach _).withWarning fun _ hw => hw.quiet) _) (by simp)
  · exact h

@[simp] theorem reach_warning (t : U32) (s : State) : (reach t s).warning = s.warning := by
  obtain ⟨x, hx⟩ := reach_only t s
  simp [hx]

theorem Invariant.Holds.expireHold (h : i.Holds s) : i.Holds (expireHold s) := by
  unfold Machine.expireHold
  split
  · by_cases hi : i = .warning
    · subst hi
      rw [← reach_warning]
      exact warningSound_changeLevel _ (h.reach _).rules (h.reach _).target (h.reach _).siren
    · exact (h.reach _).changeLevel hi _ _
  · exact h

theorem Invariant.Holds.turnBeacon (h : i.Holds s) : i.Holds (turnBeacon s) := by
  unfold Machine.turnBeacon
  split
  · rename_i b hb
    refine (h.reach _).withWarning fun _ hw =>
      { rules := hw.rules, target := hw.target, upheld := hw.upheld, hold := hw.hold, siren := hw.siren
        beacon := ?_ }
    have hon := hw.beacon
    rw [reach_warning, hb] at hon
    rw [reach_warning]
    simpa using hon
  · exact h

/-- A cleared word has the reserved bits that it had (R177). -/
theorem Invariant.Holds.clearFaults (h : i.Holds s) (mask : U32) : i.Holds (clearFaults mask s) := by
  have h1 := h.withFaults (x := s.faults.clear mask) fun hr => by
    have hr : s.faults.word &&& 0xFFE00000#32 = 0 := hr
    simp only [FaultUnit.clear]
    rw [BitVec.and_assoc, BitVec.and_comm (~~~mask), ← BitVec.and_assoc, hr]
    exact BitVec.zero_and
  unfold Machine.clearFaults
  dsimp only
  split
  · exact h
  · exact h1.owe _

/-! ### The cableway's commands and inputs -/

/-- What an accepted operation's start keeps, judging the operation keeps. -/
theorem Invariant.Holds.operate (h : i.Holds s) {fit : Bool} {gate : State → Bool}
    {own : State → Option Status} {accept : State → State} (ha : i.Holds (accept s)) :
    i.Holds (operate fit gate own accept s).1 := by
  unfold Machine.operate
  split
  · exact h
  · split
    · exact h
    · split
      · exact h
      · split
        · exact h
        · exact ha.settle

theorem Invariant.Holds.passHeld (h : i.Holds s) (c : Contact) : i.Holds (passHeld s c) := by
  unfold Machine.passHeld
  dsimp only
  split
  · split
    · exact h
    · exact h.passLevel c _
  · exact h

theorem Invariant.Holds.setCableConfig (h : i.Holds s) (x : CableConfig) : i.Holds (setCableConfig x s) := by
  unfold Machine.setCableConfig
  refine Invariant.Holds.foldl (f := Machine.passHeld) (fun c hc => hc.passHeld c) _ ?_
  exact h.onCable fun hs => hs.of_same rfl rfl

theorem Invariant.Holds.abortMotion (h : i.Holds s) : i.Holds (abortMotion s).1 := by
  unfold Machine.abortMotion
  split
  · exact h.cutDrives.endOp _ _
  · split
    · exact h.cutDrives.finishRetract _
    · exact h

theorem Invariant.Holds.repeatReelFree (h : i.Holds s) {t : State} (ht : repeatReelFree s = some t) :
    i.Holds t := by
  unfold Machine.repeatReelFree at ht
  split at ht
  · cases ht; exact h.setOp _ _
  all_goals cases ht

/-- A level at a pin is no part of any invariant. -/
theorem Invariant.Holds.pins (h : i.Holds s) (f : Pins → Pins) :
    i.Holds (Machine.onCable (fun c => { c with pins := f c.pins }) s) :=
  h.onCable fun hs => hs.of_same rfl rfl

/-- A filter's candidate is no part of any invariant. -/
theorem Invariant.Holds.candidate (h : i.Holds s) (c : Contact) (t : Option U32) :
    i.Holds (Machine.onCable (·.setFilter c { s.cableway.filter c with candidate := t }) s) := by
  refine h.onCable fun hs => ?_
  cases c <;> exact hs

theorem Invariant.Holds.changeInput (h : i.Holds s) (c : Contact) (b : Bool) : i.Holds (changeInput c b s) := by
  unfold Machine.changeInput
  extract_lets s1 f
  have h1 : i.Holds s1 := h.pins fun x => x.setContact c b
  split
  · exact h1.candidate c none
  · split
    · exact h1.passLevel c b
    · exact h1.candidate c _

theorem Invariant.Holds.passFilter (h : i.Holds s) (c : Contact) : i.Holds (passFilter c s) := by
  unfold Machine.passFilter
  dsimp only
  split
  · exact (h.reach _).passLevel c _
  · exact h

theorem Invariant.Holds.changeLimit (h : i.Holds s) (l : Limit) (b : Bool) : i.Holds (changeLimit l b s) := by
  unfold Machine.changeLimit
  extract_lets s1
  have h1 : i.Holds s1 := h.pins fun x => x.setLimit l b
  split
  · split
    · exact h1.limitMet l
    · exact h1
  · exact h1

/-- The stall watch's start is no part of the load trip's rule. -/
theorem Cableway.TripSafe.watch {c : Cableway} (h : c.TripSafe) (a : Axis) (now : U32) :
    Cableway.TripSafe
      { c with drive := c.drive.map fun d => if d.dir.axis = a then { d with since := now } else d } := by
  intro hl d hd
  obtain ⟨d', hd', rfl⟩ := Option.map_eq_some_iff.1 hd
  split <;> exact h hl d' hd'

theorem Invariant.Holds.countChanged (h : i.Holds s) (a : Axis) : i.Holds (countChanged a s) := by
  unfold Machine.countChanged
  dsimp only
  split
  · exact Invariant.Holds.trackMotion (h.withCableway fun hs => hs.watch a _)
  · exact h.onCable (f := (·.setAxis a _)) fun hs => hs.of_same (by simp) (by simp)
  · split
    · exact h.encoderFault a
    · exact h

theorem Invariant.Holds.stepEncoder (h : i.Holds s) (a : Axis) (m : EncoderMove) :
    i.Holds (stepEncoder a m s) := by
  have hcount (n : U32) : i.Holds (Machine.onCable (fun c => c.setCount a n) s) :=
    h.onCable fun hs => hs.of_same (by simp) (by simp)
  cases m with
  | impossible => exact h.encoderFault a
  | up => exact Invariant.Holds.countChanged (hcount _) a
  | down => exact Invariant.Holds.countChanged (hcount _) a

theorem Invariant.Holds.expireStall (h : i.Holds s) : i.Holds (expireStall s) := by
  unfold Machine.expireStall
  split
  · exact (h.reach _).stallFault _
  · exact h

theorem Invariant.Holds.settleAxis (h : i.Holds s) (a : Axis) : i.Holds (settleAxis a s) := by
  unfold Machine.settleAxis
  split
  · exact Invariant.Holds.resume ((h.reach _).onCable fun hs => hs.of_same (by simp) (by simp))
  all_goals exact h

theorem Invariant.Holds.expireRepeat (h : i.Holds s) : i.Holds (expireRepeat s) := by
  unfold Machine.expireRepeat
  split
  · split
    · exact (h.reach _).cutAndSettle _
    · exact (h.reach _).cutAndSettle _
    · exact h
  all_goals exact h

theorem Invariant.Holds.endDwell (h : i.Holds s) : i.Holds (endDwell s) := by
  unfold Machine.endDwell
  split
  · exact (h.reach _).setOp _ _
  all_goals exact h

theorem Invariant.Holds.handObservation (h : i.Holds s) (n t : Nat) (b : Bool) :
    i.Holds (handObservation n t b s) := by
  unfold Machine.handObservation
  split
  · exact h.withWorking _
  all_goals exact h

theorem Invariant.Holds.endCount (h : i.Holds s) : i.Holds (endCount s) := by
  unfold Machine.endCount
  split
  · exact ((h.reach _).endOp _ _).handObservation _ _ _
  all_goals exact h

theorem Invariant.Holds.setStanddown (h : i.Holds s) (x : StanddownPayload) : i.Holds (setStanddown x s) := by
  unfold Machine.setStanddown
  exact Invariant.Holds.permitTest (h.withPermit fun _ => Iff.rfl)

/-! ### The run -/

/-- The run and the permit open together (R165). -/
theorem Invariant.Holds.grantRun (h : i.Holds s) (m : OpenRunPayload) :
    i.Holds (grantRun m s) := by
  by_cases hi : i = .permit
  · subst hi
    have hstate : (Machine.grantRun m s).permit.record.state = .open_ := by
      unfold Machine.grantRun
      rw [permitChange_record]
      split
      · assumption
      · rfl
    have hrun : (Machine.grantRun m s).run.isOpen = true := by
      unfold Machine.grantRun
      rw [permitChange_run]
      rfl
    exact fun _ => iff_of_true hstate hrun
  · unfold Machine.grantRun
    refine Invariant.Holds.permitChange ?_ _ fun e => absurd e hi
    exact (h.withRun fun e => absurd e hi).clearWorking

/-- What the work on an open run keeps, the run command keeps. -/
theorem Invariant.Holds.onOpenRun (h : i.Holds s) {work : RunBody → State → State × Answer}
    (hw : ∀ b, s.run.openBody = some b → i.Holds (work b s).1) : i.Holds (onOpenRun work s).1 := by
  unfold Machine.onOpenRun
  split
  · exact h
  · split
    · exact h
    · exact hw _ ‹_›

/-- An open run's body is one without a closing. -/
theorem RunRecord.openBody_eq_some {r : RunRecord} {b : RunBody} :
    r.openBody = some b ↔ r.body = some b ∧ b.closing = none := by
  unfold RunRecord.openBody
  cases hb : r.body with
  | none => simp
  | some x =>
    dsimp only
    split
    · rename_i hc
      rw [Option.isNone_iff_eq_none] at hc
      constructor
      · intro h; cases h; exact ⟨rfl, hc⟩
      · exact fun h => h.1
    · rename_i hc
      refine iff_of_false (by simp) ?_
      rintro ⟨h, hn⟩
      cases h
      simp [hn] at hc

/-- An open run whose body changes without a close stays open. -/
theorem Invariant.Holds.withBody (h : i.Holds s) {b b' : RunBody} (hb : s.run.openBody = some b)
    (hc : b'.closing = b.closing) : i.Holds (withBody b' s) := by
  refine h.withRun fun _ => ?_
  have hopen : ({ s.run with body := some b' } : RunRecord).openBody = some b' :=
    RunRecord.openBody_eq_some.2 ⟨rfl, hc.trans (RunRecord.openBody_eq_some.1 hb).2⟩
  simp [RunRecord.isOpen, hopen, hb]

theorem Invariant.Holds.closeByCommand (h : i.Holds s) (o : RunOutcome) : i.Holds (closeByCommand o s) :=
  h.closeThenChange o _ (by simp)

end

end Sys2Proof.Machine

namespace Sys2Proof.Machine

/-! ### Every step -/

section
variable {i : Invariant} {s t : State}

/-- A command whose work does not change the state keeps everything. -/
theorem Invariant.Holds.reads (h : i.Holds s) {p : Port} {c : Instr} {a : State → Answer}
    (he : Machine.command p c (fun s => (s, a s)) s = .next t) : i.Holds t :=
  h.command he h

/-- A command that names a channel keeps what its work on a channel keeps. -/
theorem Invariant.Holds.withChannel (h : i.Holds s) {ch : Byte} {work : Chan → State → State × Answer}
    (hw : ∀ c, i.Holds (work c s).1) : i.Holds (withChannel ch work s).1 := by
  unfold Machine.withChannel
  split
  · exact hw _
  · exact h

/-- Work that is done only where a check allows it. -/
theorem Invariant.Holds.ite {c : Prop} [Decidable c] {x y : State × Answer} (hx : c → i.Holds x.1)
    (hy : ¬c → i.Holds y.1) : i.Holds (if c then x else y).1 := by
  split
  · exact hx ‹_›
  · exact hy ‹_›

theorem Invariant.Holds.execCommandAnswer (h : i.Holds s) {p : Port} {source : Option Nat}
    (he : Machine.execCommandAnswer p source s = .next t) : i.Holds t := by
  unfold Machine.execCommandAnswer at he
  split at he
  · cases he; exact h
  · cases he; exact h.placeOrDrop p source

theorem Invariant.Holds.execFetch (h : i.Holds s) {p : Port} {n : Nat}
    (he : Machine.execFetch p n s = .next t) : i.Holds t := by
  unfold Machine.execFetch at he
  split at he
  · cases he; exact h
  · cases he; exact h.fetchTransaction p n

theorem Invariant.Holds.execClear (h : i.Holds s) {p : Port}
    (he : Machine.execClear p s = .next t) : i.Holds t := by
  unfold Machine.execClear at he
  split at he
  · cases he; exact h
  · cases he; exact h.clearTransaction p 1

theorem Invariant.Holds.execPoll (h : i.Holds s) {p : Port} {n : Nat}
    (he : Machine.execPoll p n s = .next t) : i.Holds t := by
  unfold Machine.execPoll at he
  split at he
  · cases he; exact h
  · cases he; exact h.pollTransaction p n

theorem Invariant.Holds.execGetTime (h : i.Holds s) {p : Port}
    (he : Machine.execGetTime p s = .next t) : i.Holds t :=
  h.reads he

theorem Invariant.Holds.execSetTime (h : i.Holds s) {p : Port} {time : U32}
    (he : Machine.execSetTime p time s = .next t) : i.Holds t :=
  h.command he (.ite (fun _ => h) fun _ => (h.changeTime time).settle)

theorem Invariant.Holds.execSetSchedule (h : i.Holds s) {p : Port} {n : U16} {f : U16} {l : Byte}
    (he : Machine.execSetSchedule p n f l s = .next t) : i.Holds t :=
  h.command he (.ite (fun _ => h.setSchedule _ _ _) fun _ => h)

theorem Invariant.Holds.execForceSample (h : i.Holds s) {p : Port}
    (he : Machine.execForceSample p s = .next t) : i.Holds t := by
  refine h.command he ?_
  split
  · exact h
  · exact ((h.startAcquisition _ _).owe _).settle

theorem Invariant.Holds.execStationReset (h : i.Holds s) {p : Port}
    (he : Machine.execStationReset p s = .next t) : i.Holds t :=
  h.command he (h.withResetOrder _)

theorem Invariant.Holds.execStationResetTimeout (h : i.Holds s)
    (he : Machine.execStationResetTimeout s = .next t) : i.Holds t := by
  unfold Machine.execStationResetTimeout at he
  split at he
  · cases he; exact (h.reach _).commandReset
  · cases he; exact h
  · cases he; exact h

theorem Invariant.Holds.execGetEvents (h : i.Holds s) {p : Port}
    (he : Machine.execGetEvents p s = .next t) : i.Holds t :=
  h.command he (h.emptyEvents p)

theorem Invariant.Holds.execSetEventMask (h : i.Holds s) {p : Port} {mask : Byte}
    (he : Machine.execSetEventMask p mask s = .next t) : i.Holds t :=
  h.command he (.ite (fun _ => h) fun _ =>
    h.onPort p (f := fun u => { u with mask := eventSetOf mask }) fun _ _ => rfl)

theorem Invariant.Holds.execSetReporting (h : i.Holds s) {p : Port} {threshold : Byte}
    (he : Machine.execSetReporting p threshold s = .next t) : i.Holds t := by
  refine h.command he ?_
  split
  · exact h
  · exact h.withFaults fun hr => hr

theorem Invariant.Holds.execConfigureChannel (h : i.Holds s) {p : Port} {ch : Byte} {config : ChannelPayload}
    (he : Machine.execConfigureChannel p ch config s = .next t) : i.Holds t :=
  h.command he (h.withChannel fun _ =>
    .ite (fun _ => .ite (fun hd => h.setChan_disabled _ hd) fun _ => h) fun _ => h)

theorem Invariant.Holds.execEnableChannel (h : i.Holds s) {p : Port} {ch : Byte}
    (he : Machine.execEnableChannel p ch s = .next t) : i.Holds t :=
  h.command he (h.withChannel fun c =>
    .ite (fun hd => (h.setChan_disabled _ hd).dropReference c) fun _ => h)

theorem Invariant.Holds.execDisableChannel (h : i.Holds s) {p : Port} {ch : Byte}
    (he : Machine.execDisableChannel p ch s = .next t) : i.Holds t :=
  h.command he (h.withChannel fun _ =>
    .ite (fun _ => h) fun hp => .ite (fun _ => h) fun _ => (h.disableChannel hp).settle)

theorem Invariant.Holds.execRestoreChannel (h : i.Holds s) {p : Port} {ch : Byte}
    (he : Machine.execRestoreChannel p ch s = .next t) : i.Holds t :=
  h.command he (h.withChannel fun _ =>
    .ite (fun hf => (h.restoreChannel hf).settle) fun _ => h)

theorem Invariant.Holds.execSelectPrimary (h : i.Holds s) {p : Port} {ch : Byte}
    (he : Machine.execSelectPrimary p ch s = .next t) : i.Holds t :=
  h.command he (h.withChannel fun _ => .ite (fun hc => h.selectPrimary hc) fun _ => h)

theorem Invariant.Holds.execSelectCheck (h : i.Holds s) {p : Port} {ch : Byte}
    (he : Machine.execSelectCheck p ch s = .next t) : i.Holds t :=
  h.command he (.ite (fun _ => h.selectCheck (by simp)) fun _ => h.withChannel fun c =>
    .ite (fun _ => h) fun hp => .ite (fun _ => h) fun hd =>
      h.selectCheck fun k hk => Option.some.inj hk ▸ ⟨hp, hd⟩)

theorem Invariant.Holds.execSetCrosscheck (h : i.Holds s) {p : Port} {limit : U16} {k : Byte} {w : Byte}
    (he : Machine.execSetCrosscheck p limit k w s = .next t) : i.Holds t :=
  h.command he (.ite (fun _ => h.withStage (by rfl) (by rfl)) fun _ => h)

theorem Invariant.Holds.execGetChannel (h : i.Holds s) {p : Port} {ch : Byte}
    (he : Machine.execGetChannel p ch s = .next t) : i.Holds t :=
  h.command he (h.withChannel fun _ => h)

theorem Invariant.Holds.execGetStage (h : i.Holds s) {p : Port}
    (he : Machine.execGetStage p s = .next t) : i.Holds t :=
  h.reads he

theorem Invariant.Holds.execLoadRating (h : i.Holds s) {p : Port} {n : Byte} {points : List RatingPoint}
    (he : Machine.execLoadRating p n points s = .next t) : i.Holds t := by
  refine h.command he ?_
  split
  · exact h
  · exact (h.loadRating _).settle

theorem Invariant.Holds.execGetRating (h : i.Holds s) {p : Port}
    (he : Machine.execGetRating p s = .next t) : i.Holds t :=
  h.reads he

theorem Invariant.Holds.execSetShift (h : i.Holds s) {p : Port} {shift : U32}
    (he : Machine.execSetShift p shift s = .next t) : i.Holds t :=
  h.command he (h.installShift _).recompute.settle

theorem Invariant.Holds.execApplyShift (h : i.Holds s) {p : Port}
    (he : Machine.execApplyShift p s = .next t) : i.Holds t := by
  refine h.command he ?_
  split
  · exact h
  · exact .ite (fun _ => h) fun _ => (h.installShift _).recompute.settle

theorem Invariant.Holds.execSetShiftLimit (h : i.Holds s) {p : Port} {limit : U16}
    (he : Machine.execSetShiftLimit p limit s = .next t) : i.Holds t :=
  h.command he (.ite (fun _ => (h.setShiftLimit _).settle) fun _ => h)

theorem Invariant.Holds.execReadRecords (h : i.Holds s) {p : Port} {upsets : List (Nat × CellCondition)}
    (he : Machine.execReadRecords p upsets s = .next t) : i.Holds t :=
  h.command he (h.readItems p upsets).settle

theorem Invariant.Holds.execSeekRecords (h : i.Holds s) {p : Port} {q : U32}
    (he : Machine.execSeekRecords p q s = .next t) : i.Holds t :=
  h.command he (h.seek p _)

theorem Invariant.Holds.execGetRecordStatus (h : i.Holds s) {p : Port}
    (he : Machine.execGetRecordStatus p s = .next t) : i.Holds t :=
  h.reads he

theorem Invariant.Holds.execLoadRule (h : i.Holds s) {p : Port} {n : Byte} {r : RulePayload}
    (he : Machine.execLoadRule p n r s = .next t) : i.Holds t := by
  refine h.command he ?_
  split
  · exact .ite (fun _ => (h.loadRule _ _).settle) fun _ => h
  · exact h

theorem Invariant.Holds.execGetRule (h : i.Holds s) {p : Port} {n : Byte}
    (he : Machine.execGetRule p n s = .next t) : i.Holds t := by
  refine h.command he ?_
  split <;> exact h

theorem Invariant.Holds.execSetWarningConfig (h : i.Holds s) {p : Port} {l : Byte} {hold : U16} {run : Byte}
    (he : Machine.execSetWarningConfig p l hold run s = .next t) : i.Holds t :=
  h.command he (.ite (fun _ => h.setWarningConfig _ _ _) fun _ => h)

theorem Invariant.Holds.execGetWarning (h : i.Holds s) {p : Port}
    (he : Machine.execGetWarning p s = .next t) : i.Holds t :=
  h.reads he

theorem Invariant.Holds.execAckSiren (h : i.Holds s) {p : Port}
    (he : Machine.execAckSiren p s = .next t) : i.Holds t :=
  h.command he (.ite (fun _ => h.ackSiren.settle) fun _ => h)

theorem Invariant.Holds.execRaiseManual (h : i.Holds s) {p : Port} {l : Byte}
    (he : Machine.execRaiseManual p l s = .next t) : i.Holds t :=
  h.command he (.ite (fun _ => h.setFloor _) fun _ => h)

theorem Invariant.Holds.execClearManual (h : i.Holds s) {p : Port}
    (he : Machine.execClearManual p s = .next t) : i.Holds t :=
  h.command he (h.setFloor 0)

theorem Invariant.Holds.execGetFaults (h : i.Holds s) {p : Port}
    (he : Machine.execGetFaults p s = .next t) : i.Holds t :=
  h.reads he

theorem Invariant.Holds.execClearFaults (h : i.Holds s) {p : Port} {mask : U32}
    (he : Machine.execClearFaults p mask s = .next t) : i.Holds t :=
  h.command he (h.clearFaults mask).settle

theorem Invariant.Holds.execHoldExpiry (h : i.Holds s)
    (he : Machine.execHoldExpiry s = .next t) : i.Holds t :=
  h.event he h.expireHold

theorem Invariant.Holds.execSirenTimeout (h : i.Holds s)
    (he : Machine.execSirenTimeout s = .next t) : i.Holds t :=
  h.event he h.expireSiren

theorem Invariant.Holds.execBeaconPhaseEnd (h : i.Holds s)
    (he : Machine.execBeaconPhaseEnd s = .next t) : i.Holds t :=
  h.event he h.turnBeacon

theorem Invariant.Holds.execSetCablewayConfig (h : i.Holds s) {p : Port} {config : CablePayload}
    (he : Machine.execSetCablewayConfig p config s = .next t) : i.Holds t := by
  refine h.command he ?_
  split
  · exact h
  · exact (h.setCableConfig _).settle

theorem Invariant.Holds.execGetCableway (h : i.Holds s) {p : Port}
    (he : Machine.execGetCableway p s = .next t) : i.Holds t :=
  h.reads he

theorem Invariant.Holds.execHome (h : i.Holds s) {p : Port}
    (he : Machine.execHome p s = .next t) : i.Holds t :=
  h.command he (h.operate (h.acceptOp _))

theorem Invariant.Holds.execMove (h : i.Holds s) {p : Port} {target : U32}
    (he : Machine.execMove p target s = .next t) : i.Holds t :=
  h.command he (h.operate (h.clearWorking.acceptOp _))

theorem Invariant.Holds.execSound (h : i.Holds s) {p : Port}
    (he : Machine.execSound p s = .next t) : i.Holds t :=
  h.command he (h.operate (Invariant.Holds.acceptOp
    (h.onCable (f := fun c => { c with placement := none }) fun hs => hs.of_same rfl rfl) _))

theorem Invariant.Holds.execPosition (h : i.Holds s) {p : Port} {fraction : Byte}
    (he : Machine.execPosition p fraction s = .next t) : i.Holds t := by
  refine h.command he (h.operate ?_)
  split
  · exact h.acceptOp _
  · exact h

theorem Invariant.Holds.execPositionCarry (h : i.Holds s) {p : Port}
    (he : Machine.execPositionCarry p s = .next t) : i.Holds t :=
  h.command he (h.operate (h.acceptOp _))

theorem Invariant.Holds.execObserve (h : i.Holds s) {p : Port} {period : U32}
    (he : Machine.execObserve p period s = .next t) : i.Holds t :=
  h.command he (h.operate (h.setOp _ _))

theorem Invariant.Holds.execAbort (h : i.Holds s) {p : Port}
    (he : Machine.execAbort p s = .next t) : i.Holds t :=
  h.command he h.abortMotion.settle

theorem Invariant.Holds.execReelFree (h : i.Holds s) {p : Port}
    (he : Machine.execReelFree p s = .next t) : i.Holds t := by
  refine h.command he ?_
  split
  · exact h.repeatReelFree ‹_›
  · exact h.operate (h.acceptOp _)

theorem Invariant.Holds.execOpenRun (h : i.Holds s) {p : Port} {m : OpenRunPayload}
    (he : Machine.execOpenRun p m s = .next t) : i.Holds t := by
  refine h.command he (.ite (fun _ => h) fun _ => .ite (fun _ => h) fun _ => ?_)
  split
  · exact h
  · exact (h.grantRun m).settle

theorem Invariant.Holds.execAddEdge (h : i.Holds s) {p : Port} {kind : Byte} {depth : U16}
    (he : Machine.execAddEdge p kind depth s = .next t) : i.Holds t := by
  refine h.command he (h.onOpenRun fun b hb => ?_)
  split
  · exact h
  · refine .ite (fun _ => h) fun _ => ?_
    dsimp only
    split
    · exact h
    · exact h.withBody hb rfl

theorem Invariant.Holds.execAcceptVertical (h : i.Holds s) {p : Port} {method : Byte}
    (he : Machine.execAcceptVertical p method s = .next t) : i.Holds t := by
  refine h.command he (h.onOpenRun fun b hb => ?_)
  split
  · exact h
  · refine .ite (fun _ => h) fun _ => ?_
    split
    · exact .ite (fun _ => h) fun _ => Invariant.Holds.clearWorking (h.withBody hb (by rfl))
    · exact h
    · exact h

theorem Invariant.Holds.execDiscardLast (h : i.Holds s) {p : Port}
    (he : Machine.execDiscardLast p s = .next t) : i.Holds t := by
  refine h.command he (h.onOpenRun fun b hb => ?_)
  split
  · exact h
  · exact h.withBody hb rfl

theorem Invariant.Holds.execCloseRun (h : i.Holds s) {p : Port} {abandon : Byte}
    (he : Machine.execCloseRun p abandon s = .next t) : i.Holds t := by
  refine h.command he (h.onOpenRun fun b hb => .ite (fun _ => (h.closeByCommand _).settle) fun _ => ?_)
  split
  · exact h
  · exact (h.closeByCommand _).settle

theorem Invariant.Holds.execGetRun (h : i.Holds s) {p : Port} {page : Byte}
    (he : Machine.execGetRun p page s = .next t) : i.Holds t :=
  h.command he (.ite (fun _ => h) fun _ => h)

theorem Invariant.Holds.execSetStanddown (h : i.Holds s) {p : Port} {config : StanddownPayload}
    (he : Machine.execSetStanddown p config s = .next t) : i.Holds t :=
  h.command he (.ite (fun _ => (h.setStanddown config).settle) fun _ => h)

theorem Invariant.Holds.execStationTimeCount (h : i.Holds s)
    (he : Machine.execStationTimeCount s = .next t) : i.Holds t := by
  unfold Machine.execStationTimeCount at he
  split at he
  · cases he; exact h.withTime _
  · cases he; exact h.countTime.settle

theorem Invariant.Holds.execPreWarmPoint (h : i.Holds s) {ch : Chan}
    (he : Machine.execPreWarmPoint ch s = .next t) : i.Holds t :=
  h.event he (h.reachPreWarm ch)

theorem Invariant.Holds.execWarmUpExpiry (h : i.Holds s) {ch : Chan}
    (he : Machine.execWarmUpExpiry ch s = .next t) : i.Holds t :=
  h.event he (h.expireWarmUp ch)

theorem Invariant.Holds.execReadingSlotEnd (h : i.Holds s) {ch : Chan} {count : U24}
    (he : Machine.execReadingSlotEnd ch count s = .next t) : i.Holds t := by
  refine h.event he ?_
  split
  · exact h.slotEnd ch count _
  · exact h

theorem Invariant.Holds.execRangingReply (h : i.Holds s) {r : RangingFrame}
    (he : Machine.execRangingReply r s = .next t) : i.Holds t :=
  h.event he (h.keepReply r)

theorem Invariant.Holds.execQuadratureStep (h : i.Holds s) {up : Bool}
    (he : Machine.execQuadratureStep up s = .next t) : i.Holds t :=
  h.event he (h.stepQuadrature up)

theorem Invariant.Holds.execInputChange (h : i.Holds s) {input : Contact} {closed : Bool}
    (he : Machine.execInputChange input closed s = .next t) : i.Holds t := by
  unfold Machine.execInputChange at he
  split at he
  · cases he; exact h.pins fun x => x.setContact input closed
  · cases he; exact (h.changeInput input closed).settle

theorem Invariant.Holds.execFilterPass (h : i.Holds s) {input : Contact}
    (he : Machine.execFilterPass input s = .next t) : i.Holds t :=
  h.event he (h.passFilter input)

theorem Invariant.Holds.execLimitSwitchChange (h : i.Holds s) {l : Limit} {closed : Bool}
    (he : Machine.execLimitSwitchChange l closed s = .next t) : i.Holds t := by
  unfold Machine.execLimitSwitchChange at he
  split at he
  · cases he; exact h.pins fun x => x.setLimit l closed
  · cases he; exact (h.changeLimit l closed).settle

theorem Invariant.Holds.execCablewayEncoderStep (h : i.Holds s) {a : Axis} {m : EncoderMove}
    (he : Machine.execCablewayEncoderStep a m s = .next t) : i.Holds t :=
  h.event he (h.stepEncoder a m)

theorem Invariant.Holds.execStallWatchExpiry (h : i.Holds s)
    (he : Machine.execStallWatchExpiry s = .next t) : i.Holds t :=
  h.event he h.expireStall

theorem Invariant.Holds.execAxisSettled (h : i.Holds s) {a : Axis}
    (he : Machine.execAxisSettled a s = .next t) : i.Holds t :=
  h.event he (h.settleAxis a)

theorem Invariant.Holds.execRepeatWatchExpiry (h : i.Holds s)
    (he : Machine.execRepeatWatchExpiry s = .next t) : i.Holds t :=
  h.event he h.expireRepeat

theorem Invariant.Holds.execDwellEnd (h : i.Holds s)
    (he : Machine.execDwellEnd s = .next t) : i.Holds t :=
  h.event he h.endDwell

theorem Invariant.Holds.execObserveCountEnd (h : i.Holds s)
    (he : Machine.execObserveCountEnd s = .next t) : i.Holds t :=
  h.event he h.endCount

theorem Invariant.Holds.execResetPin (h : i.Holds s)
    (he : Machine.execResetPin s = .next t) : i.Holds t := by
  cases he; exact h.holdReset .pin

theorem Invariant.Holds.execBrownOut (h : i.Holds s)
    (he : Machine.execBrownOut s = .next t) : i.Holds t := by
  cases he; exact h.holdReset .brownOut

theorem Invariant.Holds.execColdReset (h : i.Holds s)
    (he : Machine.execColdReset s = .next t) : i.Holds t := by
  cases he; exact h.coldRestart

theorem Invariant.Holds.execStationRestart (h : i.Holds s) {ms : Nat}
    (he : Machine.execStationRestart ms s = .next t) : i.Holds t := by
  unfold Machine.execStationRestart at he
  split at he
  · cases he; exact h.restart _ ms
  · cases he; exact h

/-- Every command keeps every invariant. -/
theorem Invariant.Holds.exec (h : i.Holds s) (c : Instr) (he : Machine.exec c s = .next t) : i.Holds t := by
  cases c with
  | requestFrame _ _ => exact h.execRequestFrame he
  | commandAnswer _ _ => exact h.execCommandAnswer he
  | fetch _ _ => exact h.execFetch he
  | clear _ => exact h.execClear he
  | poll _ _ => exact h.execPoll he
  | getTime _ => exact h.execGetTime he
  | setTime _ _ => exact h.execSetTime he
  | setSchedule _ _ _ _ => exact h.execSetSchedule he
  | forceSample _ => exact h.execForceSample he
  | stationReset _ => exact h.execStationReset he
  | stationResetTimeout => exact h.execStationResetTimeout he
  | getEvents _ => exact h.execGetEvents he
  | setEventMask _ _ => exact h.execSetEventMask he
  | setReporting _ _ => exact h.execSetReporting he
  | configureChannel _ _ _ => exact h.execConfigureChannel he
  | enableChannel _ _ => exact h.execEnableChannel he
  | disableChannel _ _ => exact h.execDisableChannel he
  | restoreChannel _ _ => exact h.execRestoreChannel he
  | selectPrimary _ _ => exact h.execSelectPrimary he
  | selectCheck _ _ => exact h.execSelectCheck he
  | setCrosscheck _ _ _ _ => exact h.execSetCrosscheck he
  | getChannel _ _ => exact h.execGetChannel he
  | getStage _ => exact h.execGetStage he
  | loadRating _ _ _ => exact h.execLoadRating he
  | getRating _ => exact h.execGetRating he
  | setShift _ _ => exact h.execSetShift he
  | applyShift _ => exact h.execApplyShift he
  | setShiftLimit _ _ => exact h.execSetShiftLimit he
  | readRecords _ _ => exact h.execReadRecords he
  | seekRecords _ _ => exact h.execSeekRecords he
  | getRecordStatus _ => exact h.execGetRecordStatus he
  | loadRule _ _ _ => exact h.execLoadRule he
  | getRule _ _ => exact h.execGetRule he
  | setWarningConfig _ _ _ _ => exact h.execSetWarningConfig he
  | getWarning _ => exact h.execGetWarning he
  | ackSiren _ => exact h.execAckSiren he
  | raiseManual _ _ => exact h.execRaiseManual he
  | clearManual _ => exact h.execClearManual he
  | getFaults _ => exact h.execGetFaults he
  | clearFaults _ _ => exact h.execClearFaults he
  | holdExpiry => exact h.execHoldExpiry he
  | sirenTimeout => exact h.execSirenTimeout he
  | beaconPhaseEnd => exact h.execBeaconPhaseEnd he
  | setCablewayConfig _ _ => exact h.execSetCablewayConfig he
  | getCableway _ => exact h.execGetCableway he
  | home _ => exact h.execHome he
  | move _ _ => exact h.execMove he
  | sound _ => exact h.execSound he
  | position _ _ => exact h.execPosition he
  | positionCarry _ => exact h.execPositionCarry he
  | observe _ _ => exact h.execObserve he
  | abort _ => exact h.execAbort he
  | reelFree _ => exact h.execReelFree he
  | openRun _ _ => exact h.execOpenRun he
  | addEdge _ _ _ => exact h.execAddEdge he
  | acceptVertical _ _ => exact h.execAcceptVertical he
  | discardLast _ => exact h.execDiscardLast he
  | closeRun _ _ => exact h.execCloseRun he
  | getRun _ _ => exact h.execGetRun he
  | setStanddown _ _ => exact h.execSetStanddown he
  | stationTimeCount => exact h.execStationTimeCount he
  | preWarmPoint _ => exact h.execPreWarmPoint he
  | warmUpExpiry _ => exact h.execWarmUpExpiry he
  | readingSlotEnd _ _ => exact h.execReadingSlotEnd he
  | rangingReply _ => exact h.execRangingReply he
  | quadratureStep _ => exact h.execQuadratureStep he
  | inputChange _ _ => exact h.execInputChange he
  | filterPass _ => exact h.execFilterPass he
  | limitSwitchChange _ _ => exact h.execLimitSwitchChange he
  | cablewayEncoderStep _ _ => exact h.execCablewayEncoderStep he
  | stallWatchExpiry => exact h.execStallWatchExpiry he
  | axisSettled _ => exact h.execAxisSettled he
  | repeatWatchExpiry => exact h.execRepeatWatchExpiry he
  | dwellEnd => exact h.execDwellEnd he
  | observeCountEnd => exact h.execObserveCountEnd he
  | resetPin => exact h.execResetPin he
  | brownOut => exact h.execBrownOut he
  | coldReset => exact h.execColdReset he
  | stationRestart _ => exact h.execStationRestart he

end

/-- Every step keeps every invariant. -/
theorem Invariant.kept (i : Invariant) : KeptByStep i.Holds := by
  intro s t h he
  unfold step at he
  split at he
  · exact (h.withPending _).exec _ he
  · cases he
    unfold tick
    split
    · exact h
    · exact h.withTime _

/-- Settles O56: each part is one of the invariants that every step keeps. -/
theorem storedStateKept : Obligations.StoredStateKept :=
  ⟨Invariant.kept .faultWord, Invariant.kept .shift, Invariant.kept .record, Invariant.kept .selections,
    Invariant.kept .preWarm, Invariant.kept .recordEvents⟩

/-- Settles O57: each level computation restores the relations that a change of the rules, the floor or the
fault word opened. -/
theorem warningSoundKept : Obligations.WarningSoundKept := Invariant.kept .warning

/-- Settles O58: a drive is energised only where the load trip lets it, and a load trip that asserts cuts the
drives in the same step. -/
theorem loadTripDrivesKept : Obligations.LoadTripDrivesKept := Invariant.kept .drives

/-- Settles O59: the run and the permit open together, and each close of the run comes with a change of the
permit. -/
theorem permitMeetsRunKept : Obligations.PermitMeetsRunKept := Invariant.kept .permit

/-- Settles O60: each invariant evaluates to true on the state of the reset. -/
theorem resetMeetsInvariants : Obligations.ResetMeetsInvariants :=
  have holds := Invariant.holds_reset
  ⟨holds .faultWord, holds .shift, holds .record, holds .selections, holds .preWarm, holds .warning,
    holds .drives, holds .permit, holds .recordEvents⟩

end Sys2Proof.Machine

/-! The queue (R2), and the frames of the station ports (R183, R184, R186, R190): the bytes of a request frame
read back, the checks a frame passes or fails, and what its end makes of the port. -/

namespace Sys2Proof.Machine

/-! ### The queue -/

/-- Settles O1: the step's own case of a queue that is not empty. -/
theorem stepTakesFront : Obligations.StepTakesFront := by
  intro c rest s hq
  simp [step, hq]

/-- Settles O2: on an empty queue the step is the tick, by whether the part is held. -/
theorem idleStepCounts : Obligations.IdleStepCounts := by
  intro s hq
  have hstep : step s = .next (tick s) := by simp [step, hq]
  refine ⟨fun hrun => ?running, fun hheld => ?held⟩
  case running => rw [hstep, tick, hrun]
  case held =>
    obtain ⟨src, hsrc⟩ := Option.ne_none_iff_exists'.1 hheld
    rw [hstep, tick, hsrc]

/-! ### A field's bytes read back (R183) -/

/-- The two bytes of a field spell it again. -/
@[simp] theorem join16 (v : U16) : v.extractLsb' 8 8 ++ v.extractLsb' 0 8 = v := by
  have h : v.extractLsb' 8 8 ++ v.extractLsb' 0 8 = v.extractLsb' 0 16 :=
    BitVec.extractLsb'_append_extractLsb'_eq_extractLsb' (by rfl)
  simpa using h

/-- The four bytes of a field spell it again. -/
@[simp] theorem join32 (v : U32) :
    v.extractLsb' 24 8 ++ v.extractLsb' 16 8 ++ v.extractLsb' 8 8 ++ v.extractLsb' 0 8 = v := by
  have high : v.extractLsb' 24 8 ++ v.extractLsb' 16 8 = v.extractLsb' 16 16 :=
    BitVec.extractLsb'_append_extractLsb'_eq_extractLsb' (by rfl)
  have upper : v.extractLsb' 16 16 ++ v.extractLsb' 8 8 = v.extractLsb' 8 24 :=
    BitVec.extractLsb'_append_extractLsb'_eq_extractLsb' (by rfl)
  have whole : v.extractLsb' 8 24 ++ v.extractLsb' 0 8 = v.extractLsb' 0 32 :=
    BitVec.extractLsb'_append_extractLsb'_eq_extractLsb' (by rfl)
  rw [high, upper, whole]
  simp

@[simp] theorem decodePoints_encodePoints (qs : List RatingPoint) : decodePoints (encodePoints qs) = some qs := by
  induction qs with
  | nil => rfl
  | cons q qs ih => simp [encodePoints, decodePoints, bytes16, bytes32, ih]

theorem encodePoints_length (qs : List RatingPoint) : (encodePoints qs).length = 6 * qs.length := by
  induction qs with
  | nil => rfl
  | cons q qs ih => simp [encodePoints, bytes16, bytes32, ih]; omega

/-! ### The request frame of a command, decoded -/

/-- A payload's length byte can say its length (11.2). -/
theorem encodeRequest_length {c : Instr} {code : Byte} {payload : List Byte} (hw : c.wellFormed = true)
    (he : encodeRequest c = some (code, payload)) : payload.length ≤ 200 := by
  cases c with
  | loadRating p n points =>
    simp only [encodeRequest, Option.some.injEq, Prod.mk.injEq] at he
    simp only [Instr.wellFormed, Bool.and_eq_true, decide_eq_true_eq] at hw
    obtain ⟨-, rfl⟩ := he
    rw [List.length_cons, encodePoints_length]
    omega
  | _ =>
    simp only [encodeRequest, Option.some.injEq, Prod.mk.injEq, reduceCtorEq] at he
    all_goals
      obtain ⟨-, rfl⟩ := he
      simp [bytes16, bytes32]

/-- Settles O3: the form that a code selects takes back the bytes that the encoder wrote for it. -/
theorem requestRoundTrip : Obligations.RequestRoundTrip := by
  intro p c code payload hw hp he
  cases c with
  | loadRating _ n points =>
    simp only [encodeRequest, Option.some.injEq, Prod.mk.injEq] at he
    simp only [Instr.wellFormed, Bool.and_eq_true, decide_eq_true_eq] at hw
    simp only [Instr.port?, Option.some.injEq] at hp
    obtain ⟨rfl, rfl⟩ := he
    simp [decodeRequest, decodeLoadRating, hw, hp, Instr.asked]
  | position _ fraction =>
    simp only [encodeRequest, Option.some.injEq, Prod.mk.injEq] at he
    simp only [Instr.wellFormed, bne_iff_ne] at hw
    simp only [Instr.port?, Option.some.injEq] at hp
    obtain ⟨rfl, rfl⟩ := he
    simpa [decodeRequest, decodeByte, hp, Instr.asked] using hw
  | _ =>
    simp only [encodeRequest, Option.some.injEq, Prod.mk.injEq, reduceCtorEq] at he
    all_goals
      simp only [Instr.port?, Option.some.injEq] at hp
      obtain ⟨rfl, rfl⟩ := he
      simp [decodeRequest, decodeBare, decodeByte, decodeFour, decodeLong, bytes16, bytes32, hp, Instr.asked]

/-! ### The checks of a frame (R184) -/

theorem foldl_add_start (bytes : List Byte) (v : Byte) : bytes.foldl (· + ·) v = v + bytes.foldl (· + ·) 0 := by
  induction bytes generalizing v with
  | nil => simp
  | cons b bs ih => rw [List.foldl_cons, List.foldl_cons, ih, ih (0 + b), zero_add, add_assoc]

/-- The check byte brings the sum of a frame's bytes to 0 (11.2). -/
theorem sum_append_check (body : List Byte) :
    (body ++ [-(body.foldl (· + ·) 0)]).foldl (· + ·) 0 = 0 := by
  rw [List.foldl_append, List.foldl_cons, List.foldl_nil, add_neg_cancel]

theorem framePayload_requestFrameBytes (code : Byte) (payload : List Byte) :
    framePayload (requestFrameBytes code payload) = payload := by
  simp [framePayload, requestFrameBytes]

theorem requestFrameBytes_length (code : Byte) (payload : List Byte) :
    (requestFrameBytes code payload).length = payload.length + 3 := by
  simp [requestFrameBytes]

theorem toNat_ofNat_length {payload : List Byte} (h : payload.length ≤ 200) :
    (BitVec.ofNat 8 payload.length).toNat = payload.length := by
  rw [BitVec.toNat_ofNat, Nat.mod_eq_of_lt (by omega)]

/-- A frame whose code is in the table passes every check. -/
theorem frameFault_requestFrameBytes {code : Byte} {payload : List Byte} (hlen : payload.length ≤ 200)
    (hcode : codePorts code ≠ none) : frameFault (requestFrameBytes code payload) = none := by
  have hsum := sum_append_check (code :: BitVec.ofNat 8 payload.length :: payload)
  have hn := toNat_ofNat_length hlen
  have hknown : knownCode code = true := by simpa [knownCode, Option.isSome_iff_ne_none] using hcode
  have hform : requestFrameBytes code payload
      = code :: BitVec.ofNat 8 payload.length :: (payload ++
        [-((code :: BitVec.ofNat 8 payload.length :: payload).foldl (· + ·) 0)]) := rfl
  have hsum' : (requestFrameBytes code payload).foldl (· + ·) 0 = 0 := hsum
  have hlength := requestFrameBytes_length code payload
  rw [hform] at hsum' hlength ⊢
  simp only [frameFault, hn, hsum', hknown, hlength]
  simp [hlen]

/-- The first check that a frame fails, in the order of R184. -/
theorem frameFault_eq_some {bytes : List Byte} {h : HaltReason}
    (hfails : (h = .length ∧ (bytes.length < 3 ∨ 200 < (bytes.getD 1 0).toNat
        ∨ bytes.length ≠ (bytes.getD 1 0).toNat + 3))
      ∨ (h = .check ∧ ¬(bytes.length < 3 ∨ 200 < (bytes.getD 1 0).toNat
          ∨ bytes.length ≠ (bytes.getD 1 0).toNat + 3) ∧ bytes.foldl (· + ·) 0 ≠ 0)
      ∨ (h = .unknown ∧ ¬(bytes.length < 3 ∨ 200 < (bytes.getD 1 0).toNat
          ∨ bytes.length ≠ (bytes.getD 1 0).toNat + 3) ∧ ¬bytes.foldl (· + ·) 0 ≠ 0
          ∧ codePorts (bytes.headD 0) = none)) :
    frameFault bytes = some h := by
  match bytes with
  | [] => simp_all [frameFault]
  | [_] => simp_all [frameFault]
  | code :: n :: rest =>
    simp only [List.getD_cons_succ, List.getD_cons_zero, List.headD_cons] at hfails
    have hshort : (code :: n :: rest).length < 3 → (code :: n :: rest).length ≠ n.toNat + 3 := by omega
    unfold frameFault
    dsimp only
    rcases hfails with ⟨rfl, hbad⟩ | ⟨rfl, hgood, hsum⟩ | ⟨rfl, hgood, hsum, hcode⟩
    · rw [if_pos (by tauto)]
    · rw [if_neg (by tauto), if_pos hsum]
    · rw [if_neg (by tauto), if_neg hsum, if_neg (by simp [knownCode, hcode])]

/-! ### The end of a frame (R184, R186, R190) -/

/-- A code of the table begins a request frame (R183). -/
theorem startsRequest_requestFrameBytes {code : Byte} (payload : List Byte) (hcode : codePorts code ≠ none) :
    startsRequest (requestFrameBytes code payload) = true := by
  have h0 : code ≠ 0x00 := fun h => hcode (by rw [h]; decide)
  have h1 : code ≠ 0x01 := fun h => hcode (by rw [h]; decide)
  have hF : code ≠ 0xFF := fun h => hcode (by rw [h]; decide)
  simp only [requestFrameBytes, List.cons_append, startsRequest, Bool.and_eq_true, bne_iff_ne]
  exact ⟨⟨h0, h1⟩, hF⟩

theorem codePorts_ne_none_of_allows {code : Byte} {p : Port} (h : codeAllows code p = true) :
    codePorts code ≠ none := by
  intro hn
  simp [codeAllows, hn] at h

/-- What a request frame does, it does to its port alone. -/
theorem exec_requestFrame {p : Port} {bytes : List Byte} {s : State} (hh : s.held = none)
    (hs : startsRequest bytes = true) :
    ∃ t, exec (.requestFrame p bytes) s = .next t ∧ OnlyPorts s t
      ∧ t.ports.get p
        = endFrame p bytes { s.ports.get p with shiftedOut := List.replicate bytes.length 0 }
      ∧ ∀ q, q ≠ p → t.ports.get q = s.ports.get q := by
  refine ⟨onPort p (endFrame p bytes) (shifted p (List.replicate bytes.length 0) s), ?_, ⟨_, rfl⟩, ?_,
    fun q hq => ?_⟩
  · cases bytes with
    | nil => simp [startsRequest] at hs
    | cons first rest =>
      simp only [startsRequest, Bool.and_eq_true, bne_iff_ne] at hs
      obtain ⟨⟨h0, h1⟩, hF⟩ := hs
      have he : exec (.requestFrame p (first :: rest)) s = execRequestFrame p (first :: rest) s := rfl
      rw [he]
      simp only [execRequestFrame, hh, Option.isSome_none, Bool.false_eq_true, if_false, if_neg h0, if_neg h1,
        if_neg hF]
  · simp [onPort, shifted]
  · simp [onPort, shifted, PerPort.get_set_other _ hq]

/-- A frame that passes its checks in IDLE waits as it is judged. -/
theorem endFrame_idle {p : Port} {code : Byte} {payload : List Byte} {u : PortUnit}
    (hlen : payload.length ≤ 200) (hcode : codePorts code ≠ none) (hidle : u.phase = .idle) :
    endFrame p (requestFrameBytes code payload) u
      = { u with phase := .busy (judgeFrame p code payload), overrun := false } := by
  have hhead : (requestFrameBytes code payload).headD 0 = code := rfl
  simp only [endFrame, hidle, frameFault_requestFrameBytes hlen hcode, framePayload_requestFrameBytes, hhead]

/-- Settles O4: the frame passes its checks, its code allows the port, and its payload decodes to the command. -/
theorem frameTaken : Obligations.FrameTaken := by
  intro p c code payload s hw hp he hallow hh hidle
  have hcode := codePorts_ne_none_of_allows hallow
  obtain ⟨t, ht, honly, hport, hother⟩ :=
    exec_requestFrame (p := p) hh (startsRequest_requestFrameBytes payload hcode)
  refine ⟨t, ht, honly, ?_, hother⟩
  refine hport.trans ((endFrame_idle (encodeRequest_length hw he) hcode (by exact hidle)).trans ?_)
  simp only [judgeFrame, hallow, if_true, requestRoundTrip p c code payload hw hp he]

/-- Settles O5: in IDLE by the first check that fails, elsewhere by the port state alone. -/
theorem frameRefused : Obligations.FrameRefused := by
  refine ⟨?idle, ?elsewhere⟩
  case idle =>
    intro p bytes h s hh hidle hs hfails
    obtain ⟨t, ht, honly, hport, hother⟩ := exec_requestFrame (p := p) hh hs
    refine ⟨t, ht, honly, ?_, hother⟩
    rw [hport]
    simp only [endFrame, hidle, frameFault_eq_some hfails]
  case elsewhere =>
    intro p bytes s hh hidle hs
    obtain ⟨t, ht, honly, hport, hother⟩ := exec_requestFrame (p := p) hh hs
    refine ⟨t, ht, honly, ?_, hother⟩
    rw [hport]
    cases hphase : (s.ports.get p).phase with
    | idle => exact absurd hphase hidle
    | busy b => simp [endFrame, hphase]
    | ready r => simp [endFrame, hphase]
    | halted why => simp [endFrame, hphase]

/-- Settles O6: before the block is reached by the column of the command, and at the frame's end by the column of
its code and the form of its payload. -/
theorem judgedAtThePort : Obligations.JudgedAtThePort := by
  refine ⟨?denied, ?frame⟩
  case denied =>
    intro p c s hp hh hcol
    apply gives_of_exec
    cases c with
    | _ =>
      simp only [Instr.port?, Option.some.injEq, reduceCtorEq] at hp
      all_goals
        subst hp
        dsimp only [exec]
        exact command_denied hh hcol _
  case frame =>
    intro p code payload s hh hidle hlen waits
    have hwaits : ∀ st, codePorts code ≠ none →
        judgeFrame p code payload = { command := none, answer := some (plain st) } → waits st := by
      intro st hcode hjudge
      obtain ⟨t, ht, honly, hport, hother⟩ :=
        exec_requestFrame (p := p) hh (startsRequest_requestFrameBytes payload hcode)
      refine ⟨t, ht, honly, ?_, hother⟩
      refine hport.trans ((endFrame_idle hlen hcode (by exact hidle)).trans ?_)
      rw [hjudge]
    refine ⟨fun hallow hform => ?range, fun hcode hcol => ?denied⟩
    case range =>
      exact hwaits _ (codePorts_ne_none_of_allows hallow) (by simp [judgeFrame, hallow, hform])
    case denied => exact hwaits _ hcode (by simp [judgeFrame, hcol])

end Sys2Proof.Machine

/-! The payload layouts of 11.4 and 11.6, read off the bytes from the first field to the last: one rule for each
kind of chunk, so that a layout follows from the chunks in their order. -/

namespace Sys2Proof.Machine

/-! ### Fields one after the other -/

/-- Bytes `o` to `n` of a payload are `bytes`, and the fields given lie in them one after the other without a
gap. -/
def LaidFrom : Nat → List Byte → Nat → List Field → Prop
  | o, bytes, n, [] => bytes = [] ∧ o = n
  | o, bytes, n, f :: fs =>
    (f.offset = o ∧ f.width ≤ bytes.length
      ∧ (f.Fits → (spelled (bytes.take f.width) : Int) = f.value % (256 : Int) ^ f.width))
    ∧ LaidFrom (o + f.width) (bytes.drop f.width) n fs

@[simp] theorem laidFrom_end (o : Nat) : LaidFrom o [] o [] := ⟨rfl, rfl⟩

theorem LaidFrom.length {fs : List Field} : ∀ {o n : Nat} {bytes : List Byte},
    LaidFrom o bytes n fs → o + bytes.length = n := by
  induction fs with
  | nil =>
    intro o n bytes h
    obtain ⟨rfl, rfl⟩ := h
    rfl
  | cons f fs ih =>
    intro o n bytes h
    obtain ⟨⟨-, hw, -⟩, hrest⟩ := h
    have := ih hrest
    rw [List.length_drop] at this
    omega

theorem LaidFrom.field {fs : List Field} : ∀ {o n : Nat} {bytes : List Byte},
    LaidFrom o bytes n fs → ∀ f ∈ fs, o ≤ f.offset ∧ (f.Fits →
      (fieldAt bytes (f.offset - o) f.width : Int) = f.value % (256 : Int) ^ f.width) := by
  induction fs with
  | nil => intro o n bytes _ f hf; simp at hf
  | cons g fs ih =>
    intro o n bytes h f hf
    obtain ⟨⟨ho, hw, hg⟩, hrest⟩ := h
    rcases List.mem_cons.1 hf with rfl | hf
    · refine ⟨ho.ge, fun hfits => ?_⟩
      rw [ho, Nat.sub_self, fieldAt_eq_spelled, List.drop_zero]
      exact hg hfits
    · obtain ⟨hle, hspells⟩ := ih hrest f hf
      refine ⟨by omega, fun hfits => ?_⟩
      have hdrop := hspells hfits
      rw [fieldAt_eq_spelled, List.drop_drop] at hdrop
      rw [fieldAt_eq_spelled, ← hdrop]
      congr 5
      omega

/-- A payload whose fields lie one after the other is laid out by them, in whatever order they are named. -/
theorem LaidFrom.laid {bytes : List Byte} {n : Nat} {fs gs : List Field} (h : LaidFrom 0 bytes n fs)
    (hmem : ∀ g ∈ gs, g ∈ fs) : Laid bytes n gs :=
  ⟨by simpa using h.length, fun g hg hfits => (h.field g (hmem g hg)).2 hfits⟩

/-- Two stretches of a payload, one after the other. -/
theorem LaidFrom.append {fs gs : List Field} {b : List Byte} {m n : Nat} (hb : LaidFrom m b n gs) :
    ∀ {o : Nat} {a : List Byte}, LaidFrom o a m fs → LaidFrom o (a ++ b) n (fs ++ gs) := by
  induction fs with
  | nil =>
    intro o a h
    obtain ⟨rfl, rfl⟩ := h
    exact hb
  | cons f fs ih =>
    intro o a h
    obtain ⟨⟨ho, hw, hf⟩, hrest⟩ := h
    refine ⟨⟨ho, by rw [List.length_append]; omega, ?_⟩, ?_⟩
    · rwa [List.take_append_of_le_length hw]
    · rw [List.drop_append_of_le_length hw]
      exact ih hrest

theorem LaidFrom.append_right {fs gs : List Field} {o m n : Nat} {a b : List Byte} (ha : LaidFrom o a m fs)
    (hb : LaidFrom m b n gs) : LaidFrom o (a ++ b) n (fs ++ gs) := hb.append ha

/-- A stretch of `k` fields and the rest. -/
theorem LaidFrom.cut (k m : Nat) {o n : Nat} {a b : List Byte} {fs : List Field} (ha : LaidFrom o a m (fs.take k))
    (hb : LaidFrom m b n (fs.drop k)) : LaidFrom o (a ++ b) n fs := by
  rw [← List.take_append_drop k fs]
  exact hb.append ha

/-- The last chunk of a stretch, with nothing after it. -/
theorem LaidFrom.closed {o n : Nat} {a : List Byte} {fs : List Field} (h : LaidFrom o (a ++ []) n fs) :
    LaidFrom o a n fs := by
  rwa [List.append_nil] at h

/-- The items of a list, `w` bytes each, one after the other. -/
theorem LaidFrom.items {α : Type} {bytes : α → List Byte} {fields : α × Nat → List Field} {o w : Nat}
    (h : ∀ x k, LaidFrom (o + w * k) (bytes x) (o + w * k + w) (fields (x, k))) (xs : List α) :
    ∀ k : Nat, LaidFrom (o + w * k) (xs.flatMap bytes) (o + w * k + w * xs.length) ((xs.zipIdx k).flatMap fields) := by
  induction xs with
  | nil => intro k; simp
  | cons x xs ih =>
    intro k
    have hrest := ih (k + 1)
    have hnext : o + w * (k + 1) = o + w * k + w := by ring
    rw [hnext] at hrest
    have hall : o + w * k + w * (x :: xs).length = o + w * k + w + w * xs.length := by
      rw [List.length_cons]; ring
    rw [hall, List.flatMap_cons, List.zipIdx_cons, List.flatMap_cons]
    exact hrest.append (h x k)

/-! ### One chunk and its field -/

/-- A chunk carries the content of a field of its width, where it fits. -/
def Carried (chunk : List Byte) (f : Field) : Prop :=
  chunk.length = f.width ∧ (f.Fits → (spelled chunk : Int) = f.value % (256 : Int) ^ f.width)

/-- A chunk that carries its field is the front of the rest. -/
theorem laidFrom_chunk {o n : Nat} {chunk rest : List Byte} {f : Field} {fs : List Field} (h : Carried chunk f)
    (ho : f.offset = o) :
    LaidFrom o (chunk ++ rest) n (f :: fs) ↔ LaidFrom (o + f.width) rest n fs := by
  obtain ⟨hlen, hf⟩ := h
  have hhead : f.offset = o ∧ f.width ≤ (chunk ++ rest).length
      ∧ (f.Fits → (spelled ((chunk ++ rest).take f.width) : Int) = f.value % (256 : Int) ^ f.width) := by
    refine ⟨ho, by rw [List.length_append]; omega, ?_⟩
    rwa [← hlen, List.take_left, hlen]
  have hdrop : (chunk ++ rest).drop f.width = rest := by rw [← hlen, List.drop_left]
  rw [LaidFrom, hdrop]
  exact and_iff_right hhead

theorem carried_beU (o w : Nat) (v : Int) : Carried (beU w v) (unsignedField o w v) :=
  ⟨beU_length w v, fun hfits => spelled_beU w v hfits.1 hfits.2⟩

theorem carried_beS (o w : Nat) (v : Int) : Carried (beS w v) (signedField o w v) :=
  ⟨beS_length w v, fun hfits => spelled_beS w v hfits.1 hfits.2⟩

theorem carried_beBytes (o w : Nat) (v : Int) : Carried (beBytes w v) (unsignedField o w v) :=
  ⟨beBytes_length w v, fun _ => spelled_beBytes w v⟩

/-- A word that holds a signed number spells it in two's complement. -/
theorem carried_w32_signed (o : Nat) (t : U32) : Carried (w32 t) (signedField o 4 t.toInt) := by
  refine ⟨w32_length t, fun _ => (spelled_beBytes 4 t.toNat).trans ?_⟩
  show (t.toNat : Int) % 4294967296 = t.toInt % 4294967296
  rw [BitVec.toInt_eq_toNat_bmod]
  exact (Int.bmod_emod).symm

theorem carried_byte (o : Nat) (b : Byte) : Carried [b] (unsignedField o 1 b.toNat) := by
  refine ⟨rfl, fun _ => ?_⟩
  have hb := b.isLt
  simp only [spelled, List.foldl_cons, List.foldl_nil, unsignedField]
  omega

theorem carried_yes (o : Nat) (b : Bool) : Carried (yes b) (unsignedField o 1 (weigh b 1)) := by
  cases b
  case false => exact carried_byte o 0
  case true => exact carried_byte o 1

/-- The number that marks spell, bit 0 first. -/
def bitNumber (bs : List Bool) : Int := bs.foldr (fun b n => weigh b 1 + 2 * n) 0

theorem bitNumber_concat (bs : List Bool) (b : Bool) :
    bitNumber (bs ++ [b]) = bitNumber bs + weigh b (2 ^ bs.length) := by
  induction bs with
  | nil => simp [bitNumber]
  | cons c cs ih =>
    have hcons : ∀ ds, bitNumber (c :: ds) = weigh c 1 + 2 * bitNumber ds := fun _ => rfl
    have hdouble : weigh b (2 ^ cs.length * 2) = 2 * weigh b (2 ^ cs.length) := by
      unfold weigh
      split <;> ring
    rw [List.cons_append, hcons, hcons, ih, List.length_cons, pow_succ, hdouble]
    ring

theorem weigh_add_weigh (a b : Bool) : weigh a 1 + weigh b 2 = bitNumber [a, b] := by
  simp [bitNumber, weigh]

/-- The next mark of a sum of weights. -/
theorem bitNumber_add_weigh {bs : List Bool} {b : Bool} {k : Int} (h : k = 2 ^ bs.length) :
    bitNumber bs + weigh b k = bitNumber (bs ++ [b]) := by
  rw [bitNumber_concat, h]

theorem bitNumber_eq (bs : List Bool) : bitNumber bs = (bs.foldr (fun b n => b.toNat + 2 * n) 0 : Nat) := by
  induction bs with
  | nil => rfl
  | cons b bs ih =>
    have hcons : bitNumber (b :: bs) = weigh b 1 + 2 * bitNumber bs := rfl
    rw [hcons, ih, List.foldr_cons]
    cases b <;> simp [weigh]

theorem bitNumber_lt (bs : List Bool) : bs.foldr (fun b n => b.toNat + 2 * n) 0 < 2 ^ bs.length := by
  induction bs with
  | nil => simp
  | cons b bs ih =>
    rw [List.foldr_cons, List.length_cons, pow_succ]
    have := Bool.toNat_le b
    omega

theorem carried_bitByte (o : Nat) {bs : List Bool} (h : bs.length ≤ 8) :
    Carried (bitByte bs) (unsignedField o 1 (bitNumber bs)) := by
  have hlt := bitNumber_lt bs
  have hpow : 2 ^ bs.length ≤ 2 ^ 8 := Nat.pow_le_pow_right (by omega) h
  have hb := carried_byte o (BitVec.ofNat 8 (bs.foldr (fun b n => b.toNat + 2 * n) 0))
  rwa [BitVec.toNat_ofNat, Nat.mod_eq_of_lt (by omega), ← bitNumber_eq] at hb

theorem spelled_zeros (w : Nat) : spelled (List.replicate w 0) = 0 := by
  induction w with
  | zero => rfl
  | succ w ih =>
    have h := foldl_spelled (List.replicate w 0) 0
    rw [ih] at h
    simpa [spelled, List.replicate_succ] using h

theorem carried_zeros (o w : Nat) : Carried (List.replicate w 0) (unsignedField o w 0) := by
  refine ⟨List.length_replicate, fun _ => ?_⟩
  rw [spelled_zeros]
  simp [unsignedField]

/-! ### The rules, chunk by chunk

The content of the field and that of the chunk may be spelled differently. -/

section
variable {o n : Nat} {rest : List Byte} {fs : List Field}

@[simp] theorem laidFrom_beU {w : Nat} {v v' : Int} (h : v' = v) :
    LaidFrom o (beU w v ++ rest) n (unsignedField o w v' :: fs) ↔ LaidFrom (o + w) rest n fs := by
  subst h
  exact laidFrom_chunk (carried_beU o w v') rfl

@[simp] theorem laidFrom_beS {w : Nat} {v v' : Int} (h : v' = v) :
    LaidFrom o (beS w v ++ rest) n (signedField o w v' :: fs) ↔ LaidFrom (o + w) rest n fs := by
  subst h
  exact laidFrom_chunk (carried_beS o w v') rfl

@[simp] theorem laidFrom_beBytes {w : Nat} {v v' : Int} (h : v' = v) :
    LaidFrom o (beBytes w v ++ rest) n (unsignedField o w v' :: fs) ↔ LaidFrom (o + w) rest n fs := by
  subst h
  exact laidFrom_chunk (carried_beBytes o w v') rfl

@[simp] theorem laidFrom_w32 {t : U32} {v : Int} (h : v = t.toNat) :
    LaidFrom o (w32 t ++ rest) n (unsignedField o 4 v :: fs) ↔ LaidFrom (o + 4) rest n fs :=
  laidFrom_beBytes h

@[simp] theorem laidFrom_w32_signed {t : U32} {v : Int} (h : v = t.toInt) :
    LaidFrom o (w32 t ++ rest) n (signedField o 4 v :: fs) ↔ LaidFrom (o + 4) rest n fs := by
  subst h
  exact laidFrom_chunk (carried_w32_signed o t) rfl

@[simp] theorem laidFrom_u8 {k : Nat} {v : Int} (h : v = k) :
    LaidFrom o (u8 k ++ rest) n (unsignedField o 1 v :: fs) ↔ LaidFrom (o + 1) rest n fs :=
  laidFrom_beU h

@[simp] theorem laidFrom_u16 {k : Nat} {v : Int} (h : v = k) :
    LaidFrom o (u16 k ++ rest) n (unsignedField o 2 v :: fs) ↔ LaidFrom (o + 2) rest n fs :=
  laidFrom_beU h

@[simp] theorem laidFrom_u32 {k : Nat} {v : Int} (h : v = k) :
    LaidFrom o (u32 k ++ rest) n (unsignedField o 4 v :: fs) ↔ LaidFrom (o + 4) rest n fs :=
  laidFrom_beU h

@[simp] theorem laidFrom_s16 {v v' : Int} (h : v' = v) :
    LaidFrom o (s16 v ++ rest) n (signedField o 2 v' :: fs) ↔ LaidFrom (o + 2) rest n fs :=
  laidFrom_beS h

@[simp] theorem laidFrom_s32 {v v' : Int} (h : v' = v) :
    LaidFrom o (s32 v ++ rest) n (signedField o 4 v' :: fs) ↔ LaidFrom (o + 4) rest n fs :=
  laidFrom_beS h

@[simp] theorem laidFrom_yes {b : Bool} {v : Int} (h : v = weigh b 1) :
    LaidFrom o (yes b ++ rest) n (unsignedField o 1 v :: fs) ↔ LaidFrom (o + 1) rest n fs := by
  subst h
  exact laidFrom_chunk (carried_yes o b) rfl

@[simp] theorem laidFrom_bitByte {bs : List Bool} {v : Int} (hlen : bs.length ≤ 8) (h : v = bitNumber bs) :
    LaidFrom o (bitByte bs ++ rest) n (unsignedField o 1 v :: fs) ↔ LaidFrom (o + 1) rest n fs := by
  subst h
  exact laidFrom_chunk (carried_bitByte o hlen) rfl

/-- A byte written out. -/
@[simp] theorem laidFrom_byte {b : Byte} {v : Int} (h : v = b.toNat) :
    LaidFrom o (b :: rest) n (unsignedField o 1 v :: fs) ↔ LaidFrom (o + 1) rest n fs := by
  subst h
  exact laidFrom_chunk (carried_byte o b) rfl

/-- Bytes that no content fills. -/
@[simp] theorem laidFrom_zeros {m w : Nat} (h : w ≤ m) :
    LaidFrom o (List.replicate m 0#8 ++ rest) n (unsignedField o w 0 :: fs)
      ↔ LaidFrom (o + w) (List.replicate (m - w) 0#8 ++ rest) n fs := by
  have hsplit : List.replicate m 0#8 = List.replicate w 0#8 ++ List.replicate (m - w) 0#8 := by
    rw [← List.replicate_add, Nat.add_sub_cancel' h]
  rw [hsplit, List.append_assoc]
  exact laidFrom_chunk (carried_zeros o w) rfl

end

end Sys2Proof.Machine

/-! The ten reading commands (11.3, 11.4): what each answers, and the layout of each payload. -/

namespace Sys2Proof.Machine

/-! ### What a reading command gives -/

/-- A command whose work leaves the state as it is. -/
theorem gives_of_read {p : Port} {c : Instr} {s : State} {bytes : List Byte} (answer : State → List Byte)
    (hj : Judged p c s) (hread : answer s = bytes)
    (he : exec c s = command p c (fun s => (s, okWith (answer s))) s) : Gives p c s s (okWith bytes) :=
  gives_of_work hj he (by rw [hread])

theorem exec_getChannel (p : Port) (ch : Byte) (s : State) :
    exec (.getChannel p ch) s
      = command p (.getChannel p ch) (withChannel ch fun c s => (s, okWith (channelAnswer c s))) s := rfl

theorem exec_getRule (p : Port) (rule : Byte) (s : State) :
    exec (.getRule p rule) s = execGetRule p rule s := rfl

theorem exec_getRun (p : Port) (page : Byte) (s : State) :
    exec (.getRun p page) s
      = command p (.getRun p page)
          (fun s => if page.toNat < 40 ∨ page = 0xFF then (s, okWith (runAnswer page s)) else (s, plain .range))
          s := rfl

/-- A reading command whose operand is in its list is answered OK with its payload. -/
theorem gives_of_readPayload {p : Port} {c : Instr} {s : State} {bytes : List Byte} (hp : c.port? = some p)
    (hj : Judged p c s) (hread : readPayload c s = some bytes) : Gives p c s s (okWith bytes) := by
  cases c with
  | getChannel q ch =>
    simp only [Instr.port?, Option.some.injEq] at hp
    subst hp
    obtain ⟨k, hk, rfl⟩ := Option.map_eq_some_iff.1 hread
    exact gives_of_work hj (exec_getChannel ..) (by simp [withChannel, hk])
  | getRule q rule =>
    simp only [Instr.port?, Option.some.injEq] at hp
    subst hp
    obtain ⟨r, hr, rfl⟩ := Option.map_eq_some_iff.1 hread
    exact gives_of_work hj (exec_getRule ..) (by simp [hr])
  | getRun q page =>
    simp only [Instr.port?, Option.some.injEq] at hp
    subst hp
    simp only [readPayload, Option.ite_none_right_eq_some, Option.some.injEq] at hread
    obtain ⟨hpage, rfl⟩ := hread
    exact gives_of_work hj (exec_getRun ..) (if_pos hpage)
  | getTime q =>
    simp only [Instr.port?, Option.some.injEq] at hp
    simp only [readPayload, Option.some.injEq] at hread
    subst hp
    exact gives_of_read (fun s => timeAnswer s) hj hread (by rfl)
  | getStage q =>
    simp only [Instr.port?, Option.some.injEq] at hp
    simp only [readPayload, Option.some.injEq] at hread
    subst hp
    exact gives_of_read (fun s => stageAnswer s) hj hread (by rfl)
  | getRating q =>
    simp only [Instr.port?, Option.some.injEq] at hp
    simp only [readPayload, Option.some.injEq] at hread
    subst hp
    exact gives_of_read (fun s => ratingAnswer s) hj hread (by rfl)
  | getRecordStatus q =>
    simp only [Instr.port?, Option.some.injEq] at hp
    simp only [readPayload, Option.some.injEq] at hread
    subst hp
    exact gives_of_read (fun s => recordStatusAnswer s.record) hj hread (by rfl)
  | getWarning q =>
    simp only [Instr.port?, Option.some.injEq] at hp
    simp only [readPayload, Option.some.injEq] at hread
    subst hp
    exact gives_of_read (fun s => warningAnswer s) hj hread (by rfl)
  | getFaults q =>
    simp only [Instr.port?, Option.some.injEq] at hp
    simp only [readPayload, Option.some.injEq] at hread
    subst hp
    exact gives_of_read (fun s => faultsAnswer s.faults) hj hread (by rfl)
  | getCableway q =>
    simp only [Instr.port?, Option.some.injEq] at hp
    simp only [readPayload, Option.some.injEq] at hread
    subst hp
    exact gives_of_read (fun s => cablewayAnswer s) hj hread (by rfl)
  | _ => simp only [readPayload, reduceCtorEq] at hread

/-- An operand outside its list is refused RANGE. -/
theorem gives_range_of_above {p : Port} {c : Instr} {s : State} (hj : Judged p c s) {n : Byte}
    (hn : (c = .getChannel p n ∧ 3 < n.toNat) ∨ (c = .getRule p n ∧ s.warning.rules.length ≤ n.toNat)
      ∨ (c = .getRun p n ∧ 40 ≤ n.toNat ∧ n ≠ 0xFF)) : Gives p c s s (plain .range) := by
  rcases hn with ⟨rfl, h⟩ | ⟨rfl, h⟩ | ⟨rfl, hpage, hworking⟩
  · exact gives_of_work hj (exec_getChannel ..) (withChannel_above h _ s)
  · exact gives_of_work hj (exec_getRule ..) (by simp [List.getElem?_eq_none h])
  · exact gives_of_work hj (exec_getRun ..) (if_neg (not_or.2 ⟨by omega, hworking⟩))

end Sys2Proof.Machine

/-! The layouts of the reading commands' payloads (11.4), each field read off its chunk. -/

namespace Sys2Proof.Machine

/-! ### Chunks of the payloads -/

theorem tableBytes_eq (t : List TablePoint) : tableBytes t = t.flatMap fun q => s16 q.stage ++ u32 q.discharge := by
  induction t with
  | nil => rfl
  | cons q qs ih => rw [tableBytes, ih, List.flatMap_cons]

theorem mapOutBytes_eq (es : List MapEntry) :
    mapOutBytes es = es.flatMap fun e => u16 e.slot ++ yes e.lost.isSome ++ u32 (e.lost.getD 0) := by
  induction es with
  | nil => rfl
  | cons e es ih => rw [mapOutBytes, ih, List.flatMap_cons]

theorem elim_toNat (t : Option U32) : (t.elim 0 fun t => (t.toNat : Int)) = (absentTime t).toNat := by
  cases t <;> rfl

/-- A channel or NONE, the code 255 standing for NONE. -/
theorem chanOrNone_eq (c : Option Chan) : chanOrNone c = beU 1 (c.elim 255 fun c => chanNumber c) := by
  cases c <;> rfl

/-- The codes of a display content are what it shows (R114, R115). -/
theorem shows_displayCodes (content : DisplayContent) : Shows content (displayCodes content) := by
  cases content with
  | dashes => rfl
  | cm v => simp [Shows, displayCodes, digitCodes]

/-- The chunks of GET_STAGE's answer. -/
theorem stageAnswer_eq (s : State) :
    stageAnswer s
      = s16 (absentZero s.stage.record.value) ++ u8 (qualityCode s.stage.record.quality)
        ++ bitByte [s.stage.record.substituted, s.stage.record.disagree, s.stage.record.clamped]
        ++ chanOrNone s.stage.record.source ++ yes s.stage.record.sampleTime.isSome
        ++ w32 (absentTime s.stage.record.sampleTime) ++ w32 (absentTime s.stage.heldSince)
        ++ s16 s.stage.record.rate ++ yes s.stage.record.rateValid ++ u32 s.stage.record.discharge
        ++ u8 (dischargeQualityCode s.stage.record.dischargeQuality) ++ u8 s.warning.level
        ++ [s.stage.record.generation] ++ u16 s.stage.limit ++ u8 s.stage.k ++ u8 s.stage.w
        ++ u8 s.stage.disagreeCount ++ yes s.stage.lastDiff.isSome ++ s32 (absentZero s.stage.lastDiff) := by
  rfl

/-- A display content has five codes (R115). -/
theorem displayCodes_five (content : DisplayContent) :
    ∃ c0 c1 c2 c3 c4, displayCodes content = [c0, c1, c2, c3, c4] := by
  cases content with
  | dashes => exact ⟨_, _, _, _, _, rfl⟩
  | cm v => exact ⟨_, _, _, _, _, rfl⟩

/-- The argument of the fault detail. -/
theorem faultArg_laid (n : Nat) (rest : List Byte) (fs : List Field) (arg : FaultArg) :
   LaidFrom 10 (faultArgBytes arg ++ rest) n
          ((match arg with
            | .none => unsignedField 10 4 0
            | .chan c => unsignedField 10 4 (chanNumber c)
            | .number n => unsignedField 10 4 n
            | .mm v => signedField 10 4 v
            | .time t => unsignedField 10 4 t.toNat
            | .axis .traverse => unsignedField 10 4 0
            | .axis .reel => unsignedField 10 4 1
            | .limit .home => unsignedField 10 4 0
            | .limit .far => unsignedField 10 4 1
            | .limit .top => unsignedField 10 4 2
            | .reset .cold => unsignedField 10 4 0
            | .reset (.station .pin) => unsignedField 10 4 256
            | .reset (.station .brownOut) => unsignedField 10 4 257
            | .reset (.station .command) => unsignedField 10 4 258
            | .reset .renumber => unsignedField 10 4 512) :: fs) ↔ LaidFrom 14 rest n fs := by
  cases arg with
  | axis a => cases a <;> exact laidFrom_u32 (by rfl)
  | limit l => cases l <;> exact laidFrom_u32 (by rfl)
  | reset k =>
    cases k with
    | station src => cases src <;> exact laidFrom_u32 (by rfl)
    | cold => exact laidFrom_u32 (by rfl)
    | renumber => exact laidFrom_u32 (by rfl)
  | mm v => exact laidFrom_s32 (by rfl)
  | time t => exact laidFrom_w32 (by rfl)
  | _ => exact laidFrom_u32 (by rfl)

/-- Fields that stand in the bytes between the first ones and the last ones, named after them all. -/
theorem LaidFrom.laid_middle {bytes : List Byte} {n : Nat} {first middle last : List Field}
    (h : LaidFrom 0 bytes n (first ++ (middle ++ last))) : Laid bytes n (first ++ last ++ middle) := by
  refine h.laid fun g hg => ?_
  simp only [List.mem_append] at hg ⊢
  tauto

/-- A stretch of items that begins at `o`. -/
theorem LaidFrom.itemsFrom {α : Type} {bytes : α → List Byte} {fields : α × Nat → List Field} {o w : Nat}
    (h : ∀ x k, LaidFrom (o + w * k) (bytes x) (o + w * k + w) (fields (x, k))) (xs : List α) :
    LaidFrom o (xs.flatMap bytes) (o + w * xs.length) (xs.zipIdx.flatMap fields) := by
  have hall := LaidFrom.items h xs 0
  rwa [Nat.mul_zero, Nat.add_zero] at hall

/-! ### The layouts -/

/-- GET_TIME (R3). -/
theorem timeAnswer_laid (s : State) :
    let u := unsignedField
    let now := s.time.elapsed
    let x := s.schedule
    Laid (timeAnswer s) 25
     [u 0 4 s.time.station.toNat, u 4 4 now.toNat, u 8 1 (modeCode x.mode), u 9 2 x.normal, u 11 2 x.fast,
       u 13 1 x.fastLevel, u 14 4 x.nextDue.toNat, u 18 1 (weigh x.acq.isSome 1),
       u 19 4 (x.acq.elim 0 fun a => a.sampleTime.toNat), u 23 1 (x.acq.elim 0 fun a => causeCode a.cause),
       u 24 1 (x.acq.elim 0 fun a =>
         weigh a.still.c0 1 + weigh a.still.c1 2 + weigh a.still.c2 4 + weigh a.still.c3 8)] := by
  refine LaidFrom.laid (LaidFrom.closed ?_) fun g hg => hg
  cases hacq : s.schedule.acq with
  | none => simp [timeAnswer, hacq, weigh, -List.append_nil]
  | some a =>
    simp [timeAnswer, hacq, weigh_add_weigh, bitNumber_add_weigh, -List.append_nil]

/-- GET_CHANNEL (R21). -/
theorem channelAnswer_laid (s : State) (c : Chan) :
    let u := unsignedField
    let i := signedField
    let now := s.time.elapsed
    let left : Option U32 → Int := fun timer => timer.elim 0 fun ends =>
      if ahead ends now then (ends - now).toNat else 0
    let x := chan c s
    let g := x.config
    Laid (channelAnswer c s) 48
      [u 0 1 (chanKindCode c), u 1 1 (powerModeCode g.mode), u 2 1 g.warmUp, u 3 1 g.n, i 4 4 g.gain,
        i 8 2 g.offset, i 10 4 g.low, i 14 4 g.high, u 18 1 g.f, u 19 2 g.maxStep,
        u 21 1 (chanStateCode x.state),
        u 22 1 (if s.stage.primary = some c then 1 else if s.stage.check = some c then 2 else 0),
        u 23 2 (left x.warmUntil), u 25 1 (x.burst.elim 0 fun b => passCode b.pass),
        u 26 1 (x.burst.elim 0 fun b => b.readings.length), u 27 1 x.missing,
        u 28 1 (x.lastSample.elim 0 fun l => if l.value = none then 2 else 1),
        u 29 4 (x.lastSample.elim 0 fun l => l.time.toNat),
        i 33 4 (x.lastSample.elim 0 fun l => l.value.getD 0), u 37 1 (x.lastSample.elim 0 fun l => l.v),
        u 38 1 (x.lastSample.elim 0 fun l => weigh l.retried 1),
        u 39 1 (x.lastRaw.elim 0 fun r => readOutcomeCode r.outcome),
        i 40 4 (x.lastRaw.elim 0 fun r => r.raw.getD 0),
        i 44 4 (if c = .ch2 then s.encoder.count.toInt else 0)] := by
  dsimp only
  refine LaidFrom.laid ?_ fun g hg => hg
  unfold channelAnswer
  refine .cut 23 44 (.cut 21 39 (.cut 16 28 (.cut 15 27 (.cut 13 25 (.cut 12 23 ?config ?wait) ?burst) ?missing)
    ?sample) ?raw) ?position
  case config =>
    apply LaidFrom.closed
    simp [configBytes, roleCode, -List.append_nil]
  case wait =>
    apply LaidFrom.closed
    cases (chan c s).warmUntil <;> simp [msLeft, -List.append_nil]
  case burst =>
    apply LaidFrom.closed
    cases (chan c s).burst <;> simp [-List.append_nil]
  case missing =>
    apply LaidFrom.closed
    simp [-List.append_nil]
  case sample =>
    apply LaidFrom.closed
    cases (chan c s).lastSample with
    | none => simp [weigh, -List.append_nil]
    | some l => cases hv : l.value <;> simp [hv, absentZero, -List.append_nil]
  case raw =>
    apply LaidFrom.closed
    cases (chan c s).lastRaw <;> simp [absentZero, -List.append_nil]
  case position =>
    apply LaidFrom.closed
    cases c <;> simp [positionBytes, -List.append_nil]

/-- GET_STAGE (R39). -/
theorem stageAnswer_laid (s : State) :
    let u := unsignedField
    let i := signedField
    let x := s.stage.record
    Laid (stageAnswer s) 34
     [i 0 2 (x.value.getD 0), u 2 1 (qualityCode x.quality),
       u 3 1 (weigh x.substituted 1 + weigh x.disagree 2 + weigh x.clamped 4),
       u 4 1 (x.source.elim 255 fun c => chanNumber c), u 5 1 (weigh x.sampleTime.isSome 1),
       u 6 4 (x.sampleTime.elim 0 fun t => t.toNat), u 10 4 (s.stage.heldSince.elim 0 fun t => t.toNat),
       i 14 2 x.rate, u 16 1 (weigh x.rateValid 1), u 17 4 x.discharge,
       u 21 1 (dischargeQualityCode x.dischargeQuality), u 22 1 s.warning.level,
       u 23 1 x.generation.toNat, u 24 2 s.stage.limit, u 26 1 s.stage.k, u 27 1 s.stage.w,
       u 28 1 s.stage.disagreeCount, u 29 1 (weigh s.stage.lastDiff.isSome 1),
       i 30 4 (s.stage.lastDiff.getD 0)] := by
  dsimp only
  refine LaidFrom.laid (LaidFrom.closed ?_) fun g hg => hg
  simp only [stageAnswer_eq, absentZero, chanOrNone_eq, elim_toNat, weigh_add_weigh, List.append_assoc]
  simp [bitNumber_add_weigh, -List.append_nil]

/-- GET_RATING (R54). -/
theorem ratingAnswer_laid (s : State) :
    let u := unsignedField
    let i := signedField
    let x := s.rating
    let k := x.table.elim 0 List.length
    let e := 1 + 6 * k
    Laid (ratingAnswer s) (e + 15)
     ([u 0 1 k, u e 1 x.generation.toNat, i (e + 1) 4 x.shift, u (e + 5) 2 x.shiftLimit,
       u (e + 7) 1 (weigh x.lastEffective.isSome 1), i (e + 8) 2 (x.lastEffective.getD 0),
       u (e + 10) 4 s.stage.record.discharge,
       u (e + 14) 1 (dischargeQualityCode s.stage.record.dischargeQuality)]
       ++ ((x.table.getD []).zipIdx.flatMap fun q =>
         [i (1 + 6 * q.2) 2 q.1.stage, u (3 + 6 * q.2) 4 q.1.discharge])) := by
  dsimp only
  set k := s.rating.table.elim 0 List.length with hk
  have hlen : (s.rating.table.getD []).length = k := by
    rw [hk]
    cases s.rating.table <;> rfl
  have hpoint : ∀ (q : TablePoint) (j : Nat), LaidFrom (1 + 6 * j) (s16 q.stage ++ u32 q.discharge) (1 + 6 * j + 6)
      [signedField (1 + 6 * j) 2 q.stage, unsignedField (3 + 6 * j) 4 q.discharge] := by
    intro q j
    have hsecond : 1 + 6 * j + 2 = 3 + 6 * j := by ring
    have hend : 1 + 6 * j + 6 = 3 + 6 * j + 4 := by ring
    apply LaidFrom.closed
    simp [hsecond, hend, -List.append_nil]
  have htable : LaidFrom 1 (tableBytes (s.rating.table.getD [])) (1 + 6 * k)
      ((s.rating.table.getD []).zipIdx.flatMap fun q =>
        [signedField (1 + 6 * q.2) 2 q.1.stage, unsignedField (3 + 6 * q.2) 4 q.1.discharge]) := by
    rw [tableBytes_eq, ← hlen]
    exact .itemsFrom (fun q j => hpoint q j) _
  have hcount : ratingAnswer s = u8 k ++ (tableBytes (s.rating.table.getD []) ++ ([s.rating.generation]
      ++ s32 s.rating.shift ++ u16 s.rating.shiftLimit ++ yes s.rating.lastEffective.isSome
      ++ s16 (absentZero s.rating.lastEffective) ++ dischargeBytes s.stage.record)) := by
    rw [hk, ratingAnswer]
    cases s.rating.table <;> simp [tableBytes]
  refine LaidFrom.laid_middle (first := [_]) (last := [_, _, _, _, _, _, _]) ?_
  rw [hcount]
  refine (laidFrom_u8 rfl).2 ?_
  refine htable.append_right ?_
  apply LaidFrom.closed
  simp [dischargeBytes, absentZero, Nat.add_assoc, -List.append_nil]

/-- GET_RECORD_STATUS (R88). -/
theorem recordStatusAnswer_laid (r : Record) :
    let u := unsignedField
    Laid (recordStatusAnswer r) (21 + 7 * r.mapOut.length)
     ([u 0 4 r.oldest, u 4 4 r.next, u 8 4 r.loggerCursor, u 12 4 r.warningCursor,
       u 16 2 (4096 - r.mapOut.length : Nat), u 18 2 r.held, u 20 1 r.mapOut.length]
       ++ (r.mapOut.zipIdx.flatMap fun e =>
         [u (21 + 7 * e.2) 2 e.1.slot, u (23 + 7 * e.2) 1 (weigh e.1.lost.isSome 1),
           u (24 + 7 * e.2) 4 (e.1.lost.getD 0)])) := by
  dsimp only
  have hentry : ∀ (e : MapEntry) (j : Nat), LaidFrom (21 + 7 * j)
      (u16 e.slot ++ yes e.lost.isSome ++ u32 (e.lost.getD 0)) (21 + 7 * j + 7)
      [unsignedField (21 + 7 * j) 2 e.slot, unsignedField (23 + 7 * j) 1 (weigh e.lost.isSome 1),
        unsignedField (24 + 7 * j) 4 (e.lost.getD 0)] := by
    intro e j
    have hsecond : 21 + 7 * j + 2 = 23 + 7 * j := by ring
    have hthird : 23 + 7 * j + 1 = 24 + 7 * j := by ring
    have hend : 21 + 7 * j + 7 = 24 + 7 * j + 4 := by ring
    apply LaidFrom.closed
    simp [hsecond, hthird, hend, -List.append_nil]
  have hmap : LaidFrom 21 (mapOutBytes r.mapOut) (21 + 7 * r.mapOut.length)
      (r.mapOut.zipIdx.flatMap fun e =>
        [unsignedField (21 + 7 * e.2) 2 e.1.slot, unsignedField (23 + 7 * e.2) 1 (weigh e.1.lost.isSome 1),
          unsignedField (24 + 7 * e.2) 4 (e.1.lost.getD 0)]) := by
    rw [mapOutBytes_eq]
    exact .itemsFrom (fun e j => hentry e j) _
  refine LaidFrom.laid (hmap.append ?_) fun g hg => hg
  apply LaidFrom.closed
  simp [Record.capacity, -List.append_nil]

/-- GET_RULE (R92). -/
theorem ruleAnswer_laid (r : Rule) :
    let u := unsignedField
    Laid (ruleAnswer r) 29
      [u 0 1 (weigh r.enabled 1), u 1 1 (quantityCode r.quantity), u 2 4 r.mask.toNat, u 6 4 r.set.toNat,
        u 10 4 r.clear.toNat, u 14 1 (conditionCode r.condition), u 15 1 r.level, u 16 1 r.persistence,
        u 17 1 (ruleStateCode r.state), u 18 1 r.count,
        u 19 1 (r.last.elim 0 fun e => evalOutcomeCode e.outcome),
        u 20 1 (r.last.elim 0 fun e => weigh (!e.testedSet) 1),
        u 21 4 (r.last.elim 0 fun e => (e.masked.getD 0).toNat),
        u 25 4 (r.last.elim 0 fun e => e.time.toNat)] := by
  refine LaidFrom.laid (LaidFrom.closed ?_) fun g hg => hg
  cases hlast : r.last with
  | none => simp [ruleAnswer, ruleBytes, hlast, -List.append_nil]
  | some e => simp [ruleAnswer, ruleBytes, hlast, -List.append_nil]

/-- GET_WARNING (R117). -/
theorem warningAnswer_laid (s : State) :
    let u := unsignedField
    let now := s.time.elapsed
    let left : Option U32 → Int := fun timer => timer.elim 0 fun ends =>
      if ahead ends now then (ends - now).toNat else 0
    let w := s.warning
    ∃ codes, Shows w.display codes
     ∧ Laid (warningAnswer s) (22 + 4 * w.rules.length)
       ([u 0 1 w.level, u 1 1 w.target, u 2 1 w.floor, u 3 1 (weigh w.hold.isSome 1), u 4 4 (left w.hold),
         u 8 1 (weigh w.siren.isSome 1), u 9 4 (left w.siren), u 13 1 w.sirenLevel, u 14 2 w.holdMin,
         u 16 1 w.sirenRun]
         ++ (codes.zipIdx.map fun n => u (17 + n.2) 1 n.1)
         ++ (w.rules.zipIdx.flatMap fun r =>
           [u (22 + 4 * r.2) 1 (weigh r.1.enabled 1), u (23 + 4 * r.2) 1 r.1.level,
             u (24 + 4 * r.2) 1 (ruleStateCode r.1.state), u (25 + 4 * r.2) 1 r.1.count])) := by
  refine ⟨displayCodes s.warning.display, shows_displayCodes _, ?_⟩
  have hrule : ∀ (r : Rule) (j : Nat), LaidFrom (22 + 4 * j) (ruleLine r) (22 + 4 * j + 4)
      [unsignedField (22 + 4 * j) 1 (weigh r.enabled 1), unsignedField (23 + 4 * j) 1 r.level,
        unsignedField (24 + 4 * j) 1 (ruleStateCode r.state), unsignedField (25 + 4 * j) 1 r.count] := by
    intro r j
    have hsecond : 22 + 4 * j + 1 = 23 + 4 * j := by ring
    have hthird : 23 + 4 * j + 1 = 24 + 4 * j := by ring
    have hfourth : 24 + 4 * j + 1 = 25 + 4 * j := by ring
    have hend : 22 + 4 * j + 4 = 25 + 4 * j + 1 := by ring
    apply LaidFrom.closed
    simp [ruleLine, hsecond, hthird, hfourth, hend, -List.append_nil]
  have hrules : LaidFrom 22 (s.warning.rules.flatMap ruleLine) (22 + 4 * s.warning.rules.length)
      (s.warning.rules.zipIdx.flatMap fun r =>
        [unsignedField (22 + 4 * r.2) 1 (weigh r.1.enabled 1), unsignedField (23 + 4 * r.2) 1 r.1.level,
          unsignedField (24 + 4 * r.2) 1 (ruleStateCode r.1.state),
          unsignedField (25 + 4 * r.2) 1 r.1.count]) :=
    .itemsFrom (fun r j => hrule r j) _
  obtain ⟨c0, c1, c2, c3, c4, hcodes⟩ := displayCodes_five s.warning.display
  refine LaidFrom.laid (hrules.append ?_) fun g hg => hg
  rw [hcodes]
  apply LaidFrom.closed
  cases s.warning.hold <;> cases s.warning.siren <;>
    simp [timerBytes, msLeft, -List.append_nil]

/-- GET_FAULTS (R181). -/
theorem faultsAnswer_laid (f : FaultUnit) :
    let u := unsignedField
    let i := signedField
    Laid (faultsAnswer f) 17
     [u 0 4 f.word.toNat, u 4 1 (f.detail.elim 255 fun d => faultBit d.fault),
       u 5 1 (f.detail.elim 0 fun d => severityCode (faultSeverity d.fault)),
       u 6 4 (f.detail.elim 0 fun d => d.time.toNat),
       (match f.detail.elim .none (·.arg) with
         | .none => u 10 4 0
         | .chan c => u 10 4 (chanNumber c)
         | .number n => u 10 4 n
         | .mm v => i 10 4 v
         | .time t => u 10 4 t.toNat
         | .axis .traverse => u 10 4 0
         | .axis .reel => u 10 4 1
         | .limit .home => u 10 4 0
         | .limit .far => u 10 4 1
         | .limit .top => u 10 4 2
         | .reset .cold => u 10 4 0
         | .reset (.station .pin) => u 10 4 256
         | .reset (.station .brownOut) => u 10 4 257
         | .reset (.station .command) => u 10 4 258
         | .reset .renumber => u 10 4 512),
       u 14 1 (thresholdCode f.thresholds.logger), u 15 1 (thresholdCode f.thresholds.cableway),
       u 16 1 (thresholdCode f.thresholds.warning)] := by
  refine LaidFrom.laid (LaidFrom.closed ?_) fun g hg => hg
  cases hdetail : f.detail with
  | none => simp [faultsAnswer, hdetail, -List.append_nil]
  | some d =>
    have hends : LaidFrom 14 (u8 (thresholdCode f.thresholds.logger) ++ (u8 (thresholdCode f.thresholds.cableway)
        ++ (u8 (thresholdCode f.thresholds.warning) ++ []))) 17
        [unsignedField 14 1 (thresholdCode f.thresholds.logger),
          unsignedField 15 1 (thresholdCode f.thresholds.cableway),
          unsignedField 16 1 (thresholdCode f.thresholds.warning)] := by
      simp [-List.append_nil]
    simp [faultsAnswer, hdetail, -List.append_nil]
    exact (faultArg_laid ..).2 hends

/-- The operation in flight with its detail. -/
theorem operationBytes_laid (op : Option Operation) (now : U32) :
    let u := unsignedField
    let i := signedField
    let left : Option U32 → Int := fun timer => timer.elim 0 fun ends =>
      if ahead ends now then (ends - now).toNat else 0
    LaidFrom 21
      (match op with
        | some op => operationBytes op.kind ++ operationDetail op.kind now
        | none => u8 0 ++ (s32 0 ++ (u8 0 ++ (u8 0 ++ (u16 0 ++ u16 0))))) 32
      (u 21 1 (op.elim 0 fun o => opNameCode o.kind.name) :: (match (op.map (·.kind) : Option OpKind) with
            | none => [i 22 4 0, u 26 1 0, u 27 1 0, u 28 2 0, u 30 2 0]
            | some (.home .reel _) => [i 22 4 0, u 26 1 1, u 27 1 0, u 28 2 0, u 30 2 0]
            | some (.home .traverse _) => [i 22 4 0, u 26 1 2, u 27 1 0, u 28 2 0, u 30 2 0]
            | some (.move target) => [i 22 4 target, u 26 1 1, u 27 1 0, u 28 2 0, u 30 2 0]
            | some (.sound _ _) => [i 22 4 0, u 26 1 1, u 27 1 0, u 28 2 0, u 30 2 0]
            | some (.position x) => [i 22 4 x.fraction, u 26 1 1, u 27 1 0, u 28 2 0, u 30 2 0]
            | some .carry => [i 22 4 255, u 26 1 1, u 27 1 0, u 28 2 0, u 30 2 0]
            | some (.observe o) =>
              [i 22 4 o.period, u 26 1 1,
                u 27 1 (match o.phase with
                  | .dwell _ => 0
                  | .count _ => 1), u 28 2 o.pulses, u 30 2 0]
            | some (.reelFree ends) => [i 22 4 0, u 26 1 1, u 27 1 0, u 28 2 0, u 30 2 (left (some ends))])) := by
  dsimp only
  apply LaidFrom.closed
  cases op with
  | none => simp [-List.append_nil]
  | some op =>
    obtain ⟨kind, phase⟩ := op
    cases kind with
    | home step fromHalted =>
      cases step <;> simp [operationBytes, operationDetail, -List.append_nil]
    | observe o =>
      cases hphase : o.phase <;> simp [operationBytes, operationDetail, hphase, -List.append_nil]
    | _ => simp [operationBytes, operationDetail, msLeft, -List.append_nil, -BitVec.toNat_sub]

/-- The last operation record with its results. -/
theorem lastOp_laid (last : Option LastOp) :
    let u := unsignedField
    let i := signedField
    LaidFrom 41
      (match last with
        | some l =>
          u8 (opNameCode l.name) ++ (u8 (opOutcomeCode l.outcome) ++ (w32 l.time ++ resultBytes l.results))
        | none => u8 0 ++ (u8 0 ++ (w32 0 ++ resultBytes .none))) 57
      ([u 41 1 (last.elim 0 fun l => opNameCode l.name), u 42 1 (last.elim 0 fun l => opOutcomeCode l.outcome),
          u 43 4 (last.elim 0 fun l => l.time.toNat)]
        ++ (match (last.elim .none (·.results) : OpResults) with
            | .none => [u 47 8 0, u 55 2 0]
            | .move _ => [u 47 8 0, u 55 2 0]
            | .sound x ls lb d => [i 47 4 x, u 51 2 ls, u 53 2 lb, u 55 2 d]
            | .position n depth low =>
              [u 47 1 (n.elim 255 fun n => n), u 48 2 depth, u 50 1 (weigh low 1), u 51 6 0]
            | .observe n t sat => [u 47 2 n, u 49 4 t, u 53 1 (weigh sat 1), u 54 3 0])) := by
  dsimp only
  apply LaidFrom.closed
  cases last with
  | none => simp [resultBytes, -List.append_nil, -List.reduceReplicate]
  | some l =>
    obtain ⟨name, outcome, time, results⟩ := l
    cases results with
    | position n depth low =>
      cases n <;> simp [resultBytes, u8, -List.append_nil, -List.reduceReplicate]
    | _ => simp [resultBytes, u16, u32, s32, -List.append_nil, -List.reduceReplicate]

/-- The drive outputs, all off without a drive. -/
theorem driveByte_eq (drive : Option Drive) :
    driveByte drive
      = bitByte [drive.elim false fun d => decide (d.dir = .traverseOut),
          drive.elim false fun d => decide (d.dir = .traverseIn),
          drive.elim false fun d => decide (d.dir = .reelDown),
          drive.elim false fun d => decide (d.dir = .reelUp), drive.elim false (·.fast)] := by
  cases drive <;> rfl

/-- The retract's step. -/
theorem retractByte_laid (retract : Option Retract) :
    LaidFrom 32
      (match retract with
        | some { step := .reel, phase := _ } => u8 1
        | some { step := .traverse, phase := _ } => u8 2
        | none => u8 0) 33
      [unsignedField 32 1 (match retract.map Retract.step with
        | none => 0
        | some .reel => 1
        | some .traverse => 2)] := by
  apply LaidFrom.closed
  cases retract with
  | none => simp [-List.append_nil]
  | some r =>
    obtain ⟨step, phase⟩ := r
    cases step <;> simp [-List.append_nil]

/-- The meter placement. -/
theorem placement_laid (placement : Option Placement) :
    LaidFrom 36
      (match placement with
        | some x => yes true ++ (u8 x.fraction ++ (beU 2 x.depth ++ yes x.low))
        | none => yes false ++ (u8 0 ++ (u16 0 ++ yes false))) 41
      [unsignedField 36 1 (weigh placement.isSome 1),
        unsignedField 37 1 (placement.elim 0 fun x => x.fraction),
        unsignedField 38 2 (placement.elim 0 fun x => x.depth),
        unsignedField 40 1 (placement.elim 0 fun x => weigh x.low 1)] := by
  apply LaidFrom.closed
  cases placement with
  | none => simp [weigh, -List.append_nil]
  | some x => simp [-List.append_nil]

/-- GET_CABLEWAY (R124). -/
theorem cablewayAnswer_laid (s : State) :
    let u := unsignedField
    let i := signedField
    let now := s.time.elapsed
    let left : Option U32 → Int := fun timer => timer.elim 0 fun ends =>
      if ahead ends now then (ends - now).toNat else 0
    let c := s.cableway
    let g := c.config
    let p := c.pins
    let drives := fun dir => weigh (c.drive.elim false fun d => decide (d.dir = dir))
    Laid (cablewayAnswer s) 74
     ([u 0 1 (weigh c.referenced 1), i 1 4 (if c.referenced then c.x else 0),
       i 5 4 (if c.referenced then c.reel else 0), i 9 4 c.traverseCount.toInt, i 13 4 c.reelCount.toInt,
       u 17 1 (weigh c.surface.passed 1 + weigh c.bottom.passed 2 + weigh c.meter.passed 4
         + weigh c.loadTrip.passed 8 + weigh p.home 16 + weigh p.far 32 + weigh p.top 64),
       u 18 1 (drives .traverseOut 1 + drives .traverseIn 2 + drives .reelDown 4 + drives .reelUp 8
         + weigh (c.drive.elim false (·.fast)) 16),
       u 19 1 (axisStateCode c.traverseAxis), u 20 1 (axisStateCode c.reelAxis),
       u 21 1 (c.op.elim 0 fun o => opNameCode o.kind.name)]
       ++ (match c.op.map (·.kind) with
         | none => [i 22 4 0, u 26 1 0, u 27 1 0, u 28 2 0, u 30 2 0]
         | some (.home .reel _) => [i 22 4 0, u 26 1 1, u 27 1 0, u 28 2 0, u 30 2 0]
         | some (.home .traverse _) => [i 22 4 0, u 26 1 2, u 27 1 0, u 28 2 0, u 30 2 0]
         | some (.move target) => [i 22 4 target, u 26 1 1, u 27 1 0, u 28 2 0, u 30 2 0]
         | some (.sound _ _) => [i 22 4 0, u 26 1 1, u 27 1 0, u 28 2 0, u 30 2 0]
         | some (.position x) => [i 22 4 x.fraction, u 26 1 1, u 27 1 0, u 28 2 0, u 30 2 0]
         | some .carry => [i 22 4 255, u 26 1 1, u 27 1 0, u 28 2 0, u 30 2 0]
         | some (.observe o) =>
           [i 22 4 o.period, u 26 1 1,
             u 27 1 (match o.phase with
               | .dwell _ => 0
               | .count _ => 1), u 28 2 o.pulses, u 30 2 0]
         | some (.reelFree ends) => [i 22 4 0, u 26 1 1, u 27 1 0, u 28 2 0, u 30 2 (left (some ends))])
       ++ [u 32 1 (match c.retract.map Retract.step with
           | none => 0
           | some .reel => 1
           | some .traverse => 2),
         u 33 1 (weigh c.lastSurface.isSome 1), u 34 2 (c.lastSurface.getD 0),
         u 36 1 (weigh c.placement.isSome 1), u 37 1 (c.placement.elim 0 fun x => x.fraction),
         u 38 2 (c.placement.elim 0 fun x => x.depth), u 40 1 (c.placement.elim 0 fun x => weigh x.low 1),
         u 41 1 (c.lastOp.elim 0 fun l => opNameCode l.name),
         u 42 1 (c.lastOp.elim 0 fun l => opOutcomeCode l.outcome),
         u 43 4 (c.lastOp.elim 0 fun l => l.time.toNat)]
       ++ (match c.lastOp.elim .none (·.results) with
         | .none => [u 47 8 0, u 55 2 0]
         | .move _ => [u 47 8 0, u 55 2 0]
         | .sound x ls lb d => [i 47 4 x, u 51 2 ls, u 53 2 lb, u 55 2 d]
         | .position n depth low =>
           [u 47 1 (n.elim 255 fun n => n), u 48 2 depth, u 50 1 (weigh low 1), u 51 6 0]
         | .observe n t sat => [u 47 2 n, u 49 4 t, u 53 1 (weigh sat 1), u 54 3 0])
       ++ [u 57 4 g.span, u 61 2 g.traverseScale, u 63 2 g.reelScale, u 65 2 g.maxReel, u 67 2 g.carry,
         u 69 2 g.hanger, u 71 2 g.dwell, u 73 1 g.filterWidth]) := by
  dsimp only
  simp only [cablewayAnswer, List.append_assoc, List.cons_append, List.nil_append]
  refine LaidFrom.laid (LaidFrom.closed ?_) fun g hg => hg
  simp only [List.append_assoc]
  simp only [driveByte_eq, weigh_add_weigh, bitNumber_add_weigh, List.length_cons, List.length_nil, zero_add, Nat.reduceAdd,
    Int.reducePow, List.cons_append, List.nil_append, laidFrom_yes, laidFrom_s32, laidFrom_w32_signed,
    Nat.reduceLeDiff, laidFrom_bitByte, laidFrom_u8]
  refine LaidFrom.append_right (m := 32) (fs := _ :: _) (operationBytes_laid s.cableway.op s.time.elapsed) ?_
  refine LaidFrom.append_right (m := 33) (fs := [_]) (retractByte_laid s.cableway.retract) ?_
  simp [absentZero, -List.append_nil]
  refine LaidFrom.append_right (m := 41) (fs := [_, _, _, _]) (placement_laid s.cableway.placement) ?_
  refine LaidFrom.append_right (m := 57) (fs := _ :: _ :: _ :: _) (lastOp_laid s.cableway.lastOp) ?_
  simp [cableConfigBytes, -List.append_nil]

end Sys2Proof.Machine

namespace Sys2Proof.Machine
/-! ### GET_RUN (R143) -/

theorem itemStage_eq (x : StackItem) :
    itemStage x = beS 2 (x.stage.elim 0 fun h => h.1) ++ beBytes 4 (x.stage.elim 0 fun h => h.2.toNat) := by
  unfold itemStage
  cases x.stage <;> rfl

/-- A stack item. -/
theorem stackItemBytes_laid (o : Nat) (x : StackItem) :
    let u := unsignedField
    let i := signedField
    LaidFrom o (stackItemBytes x) (o + 17)
      [u o 1 (itemKindCode x.kind), i (o + 1) 4 x.distance, u (o + 5) 2 x.depth,
        u (o + 7) 1 (match x.kind with
          | .vertical .onePoint => 0
          | .vertical .twoPoint => 1
          | .vertical .none => 2
          | _ => 255),
        u (o + 8) 2 x.velocity,
        u (o + 10) 1 (weigh x.low 1 + weigh x.saturated 2 + weigh x.stage.isSome 4),
        i (o + 11) 2 (x.stage.elim 0 fun h => h.1), u (o + 13) 4 (x.stage.elim 0 fun h => h.2.toNat)] := by
  dsimp only
  apply LaidFrom.closed
  obtain ⟨kind, distance, depth, velocity, low, saturated, stage⟩ := x
  simp only [stackItemBytes, itemStage_eq, itemMarks, List.append_assoc, weigh_add_weigh]
  cases kind with
  | vertical m => cases m <;> simp [itemMethodByte, Nat.add_assoc, bitNumber_add_weigh, -List.append_nil]
  | _ => simp [itemMethodByte, Nat.add_assoc, bitNumber_add_weigh, -List.append_nil]

/-- An observation. -/
theorem observationBytes_laid (o : Nat) (x : Observation) :
    let u := unsignedField
    LaidFrom o (observationBytes x) (o + 12)
      [u o 1 x.fraction, u (o + 1) 2 x.depth, u (o + 3) 2 x.pulses, u (o + 5) 4 x.period,
        u (o + 9) 2 x.velocity, u (o + 11) 1 (weigh x.low 1 + weigh x.saturated 2)] := by
  apply LaidFrom.closed
  simp [observationBytes, Nat.add_assoc, weigh_add_weigh, -List.append_nil]

/-- The working vertical, its observations in their places. -/
theorem workingBytes_laid (e : Nat) (w : Working) (h : w.observations.length ≤ 4) :
    let u := unsignedField
    let i := signedField
    LaidFrom (e + 9) (workingBytes w) (e + 9 + 60)
      ([u (e + 9) 1 (weigh w.sounding.isSome 1), i (e + 10) 4 (w.sounding.elim 0 fun x => x.x),
                u (e + 14) 2 (w.sounding.elim 0 fun x => x.ls), u (e + 16) 2 (w.sounding.elim 0 fun x => x.lb),
                u (e + 18) 2 (w.sounding.elim 0 fun x => x.d), u (e + 20) 1 w.observations.length]
              ++ (w.observations.zipIdx.flatMap fun x =>
                let o := e + 21 + 12 * x.2
                [u o 1 x.1.fraction, u (o + 1) 2 x.1.depth, u (o + 3) 2 x.1.pulses, u (o + 5) 4 x.1.period,
                  u (o + 9) 2 x.1.velocity, u (o + 11) 1 (weigh x.1.low 1 + weigh x.1.saturated 2)])
        ++ [u (e + 21 + 12 * w.observations.length) (12 * (4 - w.observations.length)) 0]) := by
  intro u i
  have hend : e + 9 + 60 = e + 21 + 12 * w.observations.length + 12 * (4 - w.observations.length) := by omega
  have hplaces : LaidFrom (e + 21 + 12 * w.observations.length)
      (List.replicate (12 * (4 - w.observations.length)) 0) (e + 9 + 60)
      [u (e + 21 + 12 * w.observations.length) (12 * (4 - w.observations.length)) 0] := by
    apply LaidFrom.closed
    rw [hend]
    exact (laidFrom_zeros le_rfl).2 (by simp)
  refine .append hplaces (.append (m := e + 21) (.itemsFrom (fun x k => observationBytes_laid _ x) _) ?_)
  apply LaidFrom.closed
  cases w.sounding <;> simp [u, i, weigh, Nat.add_assoc, -List.append_nil]

/-- The header with the closing's content, where there is one. -/
theorem runHeader_laid (number : U16) (b : RunBody) :
    let u := unsignedField
    let i := signedField
    let results := b.closing.bind (·.results)
    let e := if results = none then 28 else 51
    LaidFrom 0 (runHeader number b) (e + 9)
        ([u 0 2 number.toNat, u 2 1 (if b.closing = none then 1 else 2), u 3 4 b.openTime.toNat,
          u 7 4 (b.closing.elim 0 fun x => x.time.toNat), u 11 2 b.a, u 13 4 b.b, u 17 1 b.ppr,
          u 18 2 b.unsteady, i 20 2 b.openStage, u 22 4 b.openStageTime.toNat,
          u 26 1 (stackDirectionCode b.direction),
          u 27 1 (b.closing.elim 255 fun x => runOutcomeCode x.outcome)]
          ++ (match results with
            | none => []
            | some r =>
              [u 28 4 r.q, u 32 8 r.area, u 40 4 r.width, u 44 2 r.velocity, i 46 2 r.meanStage,
                u 48 2 r.stageChange, u 50 1 (weigh r.unsteady 1 + weigh r.low 2 + weigh r.saturated 4)])
          ++ [u e 1 (b.closing.elim 255 fun x => shiftStatusCode x.status),
            i (e + 1) 4 (b.closing.elim 0 fun x => x.shift),
            u (e + 5) 1 (b.closing.elim 0 fun x => weigh x.clamped 1),
            u (e + 6) 1 (b.closing.elim 0 fun x => x.generation.toNat), u (e + 7) 1 b.stack.length,
            u (e + 8) 1 b.stageList.length]) := by
  dsimp only
  apply LaidFrom.closed
  cases hc : b.closing with
  | none => simp [runHeader, hc, weigh, -List.append_nil]
  | some c =>
    cases hr : c.results with
    | none => simp [runHeader, hc, hr, -List.append_nil]
    | some r =>
      simp [runHeader, hc, hr, resultsBytes, weigh_add_weigh, bitNumber_add_weigh, -List.append_nil]

/-- GET_RUN (R143). -/
theorem runAnswer_laid (s : State) {b : RunBody} (page : Byte) (hbody : s.run.body = some b)
    (hobs : s.working.observations.length ≤ 4) : 
    let u := unsignedField
    let i := signedField
    let results := b.closing.bind (·.results)
    let e := if results = none then 28 else 51
    let items := if page = 0xFF then [] else (b.stack.drop page.toNat).take 6
    let w := s.working
    Laid (runAnswer page s) (e + 9 + if page = 0xFF then 60 else 17 * items.length)
     ([u 0 2 s.run.number.toNat, u 2 1 (if b.closing = none then 1 else 2), u 3 4 b.openTime.toNat,
       u 7 4 (b.closing.elim 0 fun x => x.time.toNat), u 11 2 b.a, u 13 4 b.b, u 17 1 b.ppr,
       u 18 2 b.unsteady, i 20 2 b.openStage, u 22 4 b.openStageTime.toNat,
       u 26 1 (stackDirectionCode b.direction),
       u 27 1 (b.closing.elim 255 fun x => runOutcomeCode x.outcome)]
       ++ (match results with
         | none => []
         | some r =>
           [u 28 4 r.q, u 32 8 r.area, u 40 4 r.width, u 44 2 r.velocity, i 46 2 r.meanStage,
             u 48 2 r.stageChange, u 50 1 (weigh r.unsteady 1 + weigh r.low 2 + weigh r.saturated 4)])
       ++ [u e 1 (b.closing.elim 255 fun x => shiftStatusCode x.status),
         i (e + 1) 4 (b.closing.elim 0 fun x => x.shift),
         u (e + 5) 1 (b.closing.elim 0 fun x => weigh x.clamped 1),
         u (e + 6) 1 (b.closing.elim 0 fun x => x.generation.toNat), u (e + 7) 1 b.stack.length,
         u (e + 8) 1 b.stageList.length]
       ++ (items.zipIdx.flatMap fun x =>
         let o := e + 9 + 17 * x.2
         [u o 1 (itemKindCode x.1.kind), i (o + 1) 4 x.1.distance, u (o + 5) 2 x.1.depth,
           u (o + 7) 1 (match x.1.kind with
             | .vertical .onePoint => 0
             | .vertical .twoPoint => 1
             | .vertical .none => 2
             | _ => 255),
           u (o + 8) 2 x.1.velocity,
           u (o + 10) 1 (weigh x.1.low 1 + weigh x.1.saturated 2 + weigh x.1.stage.isSome 4),
           i (o + 11) 2 (x.1.stage.elim 0 fun h => h.1), u (o + 13) 4 (x.1.stage.elim 0 fun h => h.2.toNat)])
       ++ (if page = 0xFF then
           [u (e + 9) 1 (weigh w.sounding.isSome 1), i (e + 10) 4 (w.sounding.elim 0 fun x => x.x),
             u (e + 14) 2 (w.sounding.elim 0 fun x => x.ls), u (e + 16) 2 (w.sounding.elim 0 fun x => x.lb),
             u (e + 18) 2 (w.sounding.elim 0 fun x => x.d), u (e + 20) 1 w.observations.length]
           ++ (w.observations.zipIdx.flatMap fun x =>
             let o := e + 21 + 12 * x.2
             [u o 1 x.1.fraction, u (o + 1) 2 x.1.depth, u (o + 3) 2 x.1.pulses, u (o + 5) 4 x.1.period,
               u (o + 9) 2 x.1.velocity, u (o + 11) 1 (weigh x.1.low 1 + weigh x.1.saturated 2)])
         else [])) := by
  intro u i results e items w
  have hheader := runHeader_laid s.run.number b
  have hanswer : runAnswer page s = runHeader s.run.number b ++ runPage page b s.working := by
    simp [runAnswer, hbody]
  rw [hanswer]
  by_cases hpage : page = 0xFF
  case pos =>
    have hitems : items = [] := if_pos hpage
    have hbytes : runPage page b s.working = workingBytes w := if_pos hpage
    rw [hbytes, if_pos hpage, if_pos hpage, hitems]
    refine LaidFrom.laid (hheader.append_right (workingBytes_laid e w hobs)) fun g hg => ?_
    rw [List.zipIdx_nil, List.flatMap_nil, List.append_nil] at hg
    rw [← List.append_assoc]
    exact List.mem_append_left _ hg
  case neg =>
    have hitems : items = (b.stack.drop page.toNat).take 6 := if_neg hpage
    have hbytes : runPage page b s.working = items.flatMap stackItemBytes := by rw [hitems]; exact if_neg hpage
    rw [hbytes, if_neg hpage, if_neg hpage, List.append_nil]
    exact LaidFrom.laid (hheader.append_right (.itemsFrom (fun x k => stackItemBytes_laid _ x) _)) fun g hg => hg

theorem runAnswer_laid_none (s : State) (page : Byte) (hbody : s.run.body = none) :
    Laid (runAnswer page s) 3 [unsignedField 0 2 s.run.number.toNat, unsignedField 2 1 0] := by
  refine LaidFrom.laid (LaidFrom.closed ?_) fun g hg => hg
  simp [runAnswer, hbody, -List.append_nil]

/-- Settles O12: the answers by the command, and each layout by its chunks in their order. -/
theorem readsAnswerAndChangeNothing : Obligations.ReadsAnswerAndChangeNothing := by
  refine ⟨fun p c s hp hj => ⟨fun bytes => gives_of_readPayload hp hj, fun n => gives_range_of_above hj⟩, ?codes,
    fun s => ?layouts⟩
  case codes => decide
  case layouts =>
    exact ⟨timeAnswer_laid s, channelAnswer_laid s, stageAnswer_laid s, ratingAnswer_laid s,
      recordStatusAnswer_laid s.record, ruleAnswer_laid, warningAnswer_laid s, faultsAnswer_laid s.faults,
      cablewayAnswer_laid s, fun hbody page => runAnswer_laid_none s page hbody,
      fun b page hbody hobs => runAnswer_laid s page hbody hobs⟩
end Sys2Proof.Machine

/-! The transactions of a station port (R185 to R189), and the commands that act on the asking port's own state
(R180, R192). -/

namespace Sys2Proof.Machine

/-! ### Transactions (R185 to R189) -/

theorem exec_commandAnswer {p : Port} {source : Option Nat} {s : State} (hh : s.held = none) :
    exec (.commandAnswer p source) s
      = .next (onPort p (fun u => match source with
          | none => u.placeAnswer
          | some i => u.dropAnswer i) s) := by
  have he : exec (.commandAnswer p source) s = execCommandAnswer p source s := rfl
  rw [he]
  exact if_neg (by simp [hh])

theorem onPort_congr {p : Port} {f g : PortUnit → PortUnit} {s : State} (h : f (s.ports.get p) = g (s.ports.get p)) :
    onPort p f s = onPort p g s := by
  rw [onPort, onPort, h]

/-- Settles O7: by the command the port is BUSY with, and by the abandoned command's number. -/
theorem answerPlacedOrDropped : Obligations.AnswerPlacedOrDropped := by
  intro p s hh
  refine ⟨fun c a hbusy => ?placed, fun i b hb hanswer => ?dropped⟩
  case placed =>
    rw [exec_commandAnswer hh]
    exact congrArg _ (onPort_congr (by simp [PortUnit.placeAnswer, hbusy]))
  case dropped =>
    rw [exec_commandAnswer hh]
    exact congrArg _ (onPort_congr (by simp [PortUnit.dropAnswer, hb, hanswer]))

theorem exec_fetch {p : Port} {clocked : Nat} {s : State} (hh : s.held = none) (hclocked : 1 ≤ clocked)
    (hreset : deliversReset p s = false) :
    exec (.fetch p clocked) s
      = .next (onPort p PortUnit.fetched (shifted p (shiftOut (fetchReply (s.ports.get p)) clocked) s)) := by
  have he : exec (.fetch p clocked) s = execFetch p clocked s := rfl
  have hsome : clocked ≠ 0 := by omega
  rw [he]
  simp [execFetch, fetchTransaction, hh, hsome, hreset]

/-- Two changes of one port after each other. -/
theorem onPort_shifted (p : Port) (f : PortUnit → PortUnit) (bytes : List Byte) (s : State) :
    onPort p f (shifted p bytes s) = onPort p (fun u => f { u with shiftedOut := bytes }) s := by
  have hset : ∀ (x : PerPort PortUnit) (u v : PortUnit), (x.set p u).set p v = x.set p v := by
    intro x u v
    cases p <;> rfl
  simp [onPort, shifted, hset]

/-- Zero bytes, written as numbers. -/
theorem flatMap_ofNat_zeros (n : Nat) :
    (List.replicate n 0).flatMap (fun a => [BitVec.ofNat 8 a]) = List.replicate n 0#8 := by
  induction n with
  | zero => rfl
  | succ n ih => rw [List.replicate_succ, List.flatMap_cons, ih]; rfl

/-- Settles O8: in READY the response and the emptied buffer, elsewhere status NONE. -/
theorem fetchDelivers : Obligations.FetchDelivers := by
  intro p clocked s hh hclocked hreset
  rw [exec_fetch hh hclocked hreset, onPort_shifted]
  refine ⟨fun r hready => ?ready, fun hnot => ?elsewhere⟩
  case ready =>
    exact congrArg _ (onPort_congr (by simp [PortUnit.fetched, fetchReply, hready, shiftOut]))
  case elsewhere =>
    have hreply : fetchReply (s.ports.get p) = [0x0C, 0x00, 0xF4] := by
      cases hphase : (s.ports.get p).phase with
      | ready r => exact absurd hphase (hnot r)
      | _ => simp only [fetchReply, hphase]; decide
    refine congrArg _ (onPort_congr ?_)
    cases hphase : (s.ports.get p).phase with
    | ready r => exact absurd hphase (hnot r)
    | _ => simp [PortUnit.fetched, hreply, shiftOut, flatMap_ofNat_zeros]

theorem exec_clear {p : Port} {s : State} (hh : s.held = none) (horder : p = .logger → s.resetOrder = none) :
    exec (.clear p) s = .next (onPort p PortUnit.cleared (shifted p [0] s)) := by
  have he : exec (.clear p) s = execClear p s := rfl
  have hnone : ¬(p = .logger ∧ s.resetOrder.isSome = true) := by
    rintro ⟨hp, hsome⟩
    simp [horder hp] at hsome
  have horder' : ¬(p = .logger ∧ (onPort p PortUnit.cleared (shifted p [0] s)).resetOrder.isSome = true) := hnone
  rw [he]
  simp only [execClear, clearTransaction, hh, Option.isSome_none, Bool.false_eq_true, if_false, if_neg hnone]
  rfl

/-- Settles O9: the port is IDLE, and a BUSY command joins the abandoned ones. -/
theorem clearTaken : Obligations.ClearTaken := by
  intro p s hh horder
  refine ⟨_, exec_clear hh horder, ⟨_, rfl⟩, ?port, fun q hq => ?other⟩
  case port =>
    rw [onPort_shifted]
    cases hphase : (s.ports.get p).phase <;> simp [onPort, PortUnit.cleared, hphase]
  case other => simp [onPort, shifted, PerPort.get_set_other _ hq]

theorem exec_poll {p : Port} {clocked : Nat} {s : State} (hh : s.held = none) (hclocked : 1 ≤ clocked) :
    exec (.poll p clocked) s = .next (shifted p (shiftOut (pollReply (s.ports.get p)) clocked) s) := by
  have he : exec (.poll p clocked) s = execPoll p clocked s := rfl
  have hsome : clocked ≠ 0 := by omega
  rw [he]
  simp [execPoll, pollTransaction, hh, hsome]

/-- An event set's byte in the layout of POLL's byte 3 (R189). -/
theorem weigh_events (e : EventSet) :
    weigh e.sample 1 + weigh e.level 2 + weigh e.fault 4 + weigh e.record 8 + weigh e.opDone 16
        + weigh e.permit 32 + weigh e.siren 64
      = bitNumber [e.sample, e.level, e.fault, e.record, e.opDone, e.permit, e.siren] := by
  simp [weigh_add_weigh, bitNumber_add_weigh]

theorem phaseCode_toNat (x : PortPhase) :
    ((phaseCode x).toNat : Int) = match x with
      | .idle => 0
      | .busy _ => 1
      | .ready _ => 2
      | .halted _ => 3 := by
  cases x <;> rfl

theorem haltCode_toNat (x : PortPhase) :
    ((haltCode x).toNat : Int) = match x with
      | .halted .check => 1
      | .halted .length => 2
      | .halted .unknown => 3
      | _ => 0 := by
  cases x with
  | halted why => cases why <;> rfl
  | _ => rfl

/-- Settles O10: the reply's bytes one after the other, and its check byte. -/
theorem pollTells : Obligations.PollTells := by
  intro p clocked s hh hclocked u state reason bits
  refine ⟨?laid, sum_append_check _, ?step⟩
  case laid =>
    set check := checkByte ([phaseCode u.phase, haltCode u.phase] ++ yes u.overrun ++ eventByte u.events
      ++ eventByte u.mask) with hcheck
    have hreply : pollReply u = phaseCode u.phase :: haltCode u.phase :: (yes u.overrun ++ (eventByte u.events
        ++ (eventByte u.mask ++ [check]))) := by
      simp [pollReply, hcheck]
    have hchain : LaidFrom 0 (pollReply u) 6 [unsignedField 0 1 state, unsignedField 1 1 reason,
        unsignedField 2 1 (weigh u.overrun 1), unsignedField 3 1 (bits u.events),
        unsignedField 4 1 (bits u.mask), unsignedField 5 1 check.toNat] := by
      rw [hreply]
      refine (laidFrom_byte (phaseCode_toNat _).symm).2 ((laidFrom_byte (haltCode_toNat _).symm).2 ?_)
      simp [bits, eventByte, weigh_events]
    exact hchain.laid fun g hg => List.mem_append_left [_] hg
  case step =>
    rw [exec_poll hh hclocked]
    rfl

/-! ### GET_EVENTS (R192) -/

theorem PortUnit.answer_permitCopy (u : PortUnit) (c : Instr) (a : Answer) :
    (u.answer c a).permitCopy = u.permitCopy := by
  unfold PortUnit.answer
  dsimp only
  split
  · rfl
  · split
    · split <;> rfl
    all_goals rfl

/-- The permit's cause and its detail as one pair of codes (11.4). -/
def permitCausePair : PermitCause → Int × Int
  | .restart => (0, 0)
  | .granted => (1, 0)
  | .runClosed => (2, 0)
  | .standDown .level => (3, 0)
  | .standDown .rate => (3, 1)
  | .standDown .stage => (3, 2)
  | .retractDone => (4, 0)
  | .retractAborted => (5, 0)
  | .halt .loadTrip => (6, 0)
  | .halt .stall => (6, 1)
  | .halt .limit => (6, 2)
  | .halt .encoder => (6, 3)
  | .homed => (7, 0)

theorem permitCausePair_eq (c : PermitCause) :
    permitCausePair c = ((permitCauseCode c : Int), (permitDetailCode c : Int)) := by
  cases c with
  | standDown why => cases why <;> rfl
  | halt why => cases why <;> rfl
  | _ => rfl

/-- The permit copy after the event set. -/
theorem permitBytes_laid (e : EventSet) (r : PermitRecord) :
    LaidFrom 0 (eventByte e ++ permitBytes r) 8
      [unsignedField 0 1 (bitNumber [e.sample, e.level, e.fault, e.record, e.opDone, e.permit, e.siren]),
        unsignedField 1 1 (match r.state with
          | .closed => 0
          | .open_ => 1
          | .standingDown => 2
          | .halted => 3),
        unsignedField 2 1 (permitCausePair r.cause).1, unsignedField 3 1 (permitCausePair r.cause).2, unsignedField 4 4 r.time.toNat] := by
  apply LaidFrom.closed
  cases hstate : r.state <;>
    simp [eventByte, permitBytes, permitCausePair_eq, permitStateCode, hstate, -List.append_nil]

theorem fieldAt_eventByte (e : EventSet) (rest : List Byte) :
    (fieldAt (eventByte e ++ rest) 0 1 : Int)
      = bitNumber [e.sample, e.level, e.fault, e.record, e.opDone, e.permit, e.siren] := by
  have hfits : (unsignedField 0 1
      (bitNumber [e.sample, e.level, e.fault, e.record, e.opDone, e.permit, e.siren])).Fits := by
    rw [bitNumber_eq]
    have := bitNumber_lt [e.sample, e.level, e.fault, e.record, e.opDone, e.permit, e.siren]
    have hlen : [e.sample, e.level, e.fault, e.record, e.opDone, e.permit, e.siren].length = 7 := rfl
    rw [hlen] at this
    exact ⟨Int.natCast_nonneg _, by simp only [unsignedField]; omega⟩
  have hbyte := (carried_bitByte 0
    (bs := [e.sample, e.level, e.fault, e.record, e.opDone, e.permit, e.siren]) (by simp)).2 hfits
  have hlow : (0 : Int) ≤ bitNumber [e.sample, e.level, e.fault, e.record, e.opDone, e.permit, e.siren] := hfits.1
  have hhigh : bitNumber [e.sample, e.level, e.fault, e.record, e.opDone, e.permit, e.siren] < (256 : Int) ^ 1 :=
    hfits.2
  rw [fieldAt_append_left _ _ _ _ le_rfl, fieldAt_whole (eventByte e) 1 (by rfl)]
  exact hbyte.trans (Int.emod_eq_of_lt hlow hhigh)

theorem permitCopyBytes_absent {u : PortUnit} (h : u.events.permit = false ∨ u.permitCopy = none) :
    permitCopyBytes u = [] := by
  unfold permitCopyBytes
  rcases h with h | h
  · rw [h]
  · rw [h]
    cases u.events.permit <;> rfl

theorem permitCopyBytes_some {u : PortUnit} {r : PermitRecord} (h : u.events.permit = true)
    (hr : u.permitCopy = some r) : permitCopyBytes u = permitBytes r := by
  rw [permitCopyBytes, h, hr]

theorem exec_getEvents (p : Port) (s : State) : exec (.getEvents p) s = execGetEvents p s := rfl

/-- The asking port after GET_EVENTS: nothing pending, but for RECORD by its cursor. -/
theorem emptied_port (p : Port) (s : State) :
    ((syncRecord (onPort p (fun u => { u with events := .none, permitCopy := none }) s)).ports.get p).permitCopy
        = none
      ∧ ((syncRecord (onPort p (fun u => { u with events := .none, permitCopy := none }) s)).ports.get p).events
        = { EventSet.none with
            record := match p with
              | .logger => decide (s.record.loggerCursor < s.record.next)
              | .warning => decide (s.record.warningCursor < s.record.next)
              | .cableway => false } := by
  cases p <;> exact ⟨rfl, rfl⟩

/-- Settles O13: the answer is formed from the set as it stood, and RECORD enters the emptied set by the
cursor. -/
theorem getEventsEmpties : Obligations.GetEventsEmpties := by
  intro p s hj e cause
  obtain ⟨t, ht, rfl, -, hanswered⟩ := gives_of_work hj (exec_getEvents p s) rfl
  have hcause : ∀ c, cause c = permitCausePair c := fun c => by
    cases c with
    | standDown why => cases why <;> rfl
    | halt why => cases why <;> rfl
    | _ => rfl
  obtain ⟨hcopy, hevents⟩ := emptied_port p s
  refine ⟨_, _, ht, ⟨_, rfl⟩, hanswered, ?set, fun habsent => ?absent, fun r hperm hr => ?copy, ?emptied,
    ?record⟩
  case set => rw [fieldAt_eventByte, weigh_events]
  case absent =>
    rw [permitCopyBytes_absent habsent]
    rfl
  case copy =>
    rw [permitCopyBytes_some hperm hr, hcause]
    exact (permitBytes_laid _ r).laid fun g hg => List.mem_cons_of_mem _ hg
  case emptied =>
    rw [giveAnswer, State.withPorts_ports, PerPort.get_set_same, PortUnit.answer_permitCopy, hcopy]
  case record =>
    rw [giveAnswer, State.withPorts_ports, PerPort.get_set_same, PortUnit.answer_events]
    exact hevents

/-! ### SET_EVENT_MASK and SET_REPORTING (R180, R192) -/

/-- A mask without bit 7 is the byte of the events it enables. -/
theorem eventByte_eventSetOf {m : Byte} (h : m.getLsbD 7 = false) : eventByte (eventSetOf m) = [m] := by
  have hall : ∀ b : Byte, b.getLsbD 7 = false → eventByte (eventSetOf b) = [b] := by decide
  exact hall m h

theorem thresholdOf_eq_some {b : Byte} (h : b.toNat ≤ 3) :
    ∃ t, thresholdOf b = some t ∧ thresholdCode t = b.toNat := by
  have hall : ∀ b : Byte, b.toNat ≤ 3 → ∃ t ∈ thresholdOf b, thresholdCode t = b.toNat := by decide
  exact hall b h

theorem thresholdOf_above {b : Byte} (h : 3 < b.toNat) : thresholdOf b = none := by
  unfold thresholdOf
  split
  case h_5 => rfl
  all_goals omega

theorem exec_setEventMask (p : Port) (m : Byte) (s : State) :
    exec (.setEventMask p m) s = execSetEventMask p m s := rfl

theorem exec_setReporting (p : Port) (b : Byte) (s : State) :
    exec (.setReporting p b) s = execSetReporting p b s := rfl

/-- Settles O14: by bit 7 of the mask, and by whether the byte names a threshold. -/
theorem portSettings : Obligations.PortSettings := by
  refine ⟨fun p m s hj => ⟨fun h => ?taken, fun h => ?bit7⟩, fun p b s hj => ⟨fun h => ?threshold, fun h => ?above⟩⟩
  case taken => exact ⟨gives_of_work hj (exec_setEventMask ..) (if_neg (by rw [h]; decide)), eventByte_eventSetOf h⟩
  case bit7 => exact gives_of_work hj (exec_setEventMask ..) (if_pos h)
  case threshold =>
    obtain ⟨t, ht, hcode⟩ := thresholdOf_eq_some h
    refine ⟨s.withFaults { s.faults with thresholds := s.faults.thresholds.set p t },
      gives_of_work hj (exec_setReporting ..) (by simp [ht]), ⟨_, rfl⟩, rfl, rfl, ?_, fun q hq => ?_⟩
    · simpa using hcode
    · exact PerPort.get_set_other _ hq t
  case above => exact gives_of_work hj (exec_setReporting ..) (by simp [thresholdOf_above h])

end Sys2Proof.Machine

/-! Rounding, the value of a pass (R28 to R30), a point velocity (R147), and the roles of the channels (R33, R34,
R46, R47). -/

namespace Sys2Proof.Machine

/-! ### Rounding -/

theorem halfUp_roundHalfUp (n : Int) {d : Int} (hd : 0 < d) : HalfUp n d (roundHalfUp n d) := by
  have h2d : 0 < 2 * d := by omega
  refine ⟨Int.mul_ediv_self_le h2d.ne', ?_⟩
  have h := Int.lt_mul_ediv_self_add (x := 2 * n + d) h2d
  rw [roundHalfUp]
  linarith

theorem halfAway_roundHalfAway (n : Int) {d : Int} (hd : 0 < d) : HalfAway n d (roundHalfAway n d) := by
  have hup : ∀ m : Int, 0 ≤ m → HalfAway m d (roundHalfUp m d) := by
    intro m hm
    obtain ⟨hlow, hhigh⟩ := halfUp_roundHalfUp m hd
    set q := roundHalfUp m d
    have hq : 0 ≤ q := by
      by_contra hneg
      have : d * (q + 1) ≤ 0 := mul_nonpos_of_nonneg_of_nonpos hd.le (by omega)
      nlinarith
    have hqd : 0 ≤ q * d := mul_nonneg hq hd.le
    refine ⟨?_, fun heq => ?_⟩
    · rcases abs_cases (m - q * d) with ⟨h, -⟩ | ⟨h, -⟩ <;> rw [h] <;> nlinarith
    · rw [abs_of_nonneg hm, abs_of_nonneg hqd]
      rcases abs_cases (m - q * d) with ⟨h, -⟩ | ⟨h, hlt⟩
      · rw [h] at heq; nlinarith
      · omega
  unfold roundHalfAway
  split
  case isTrue h => exact hup n h
  case isFalse h =>
    obtain ⟨hle, haway⟩ := hup (-n) (by omega)
    have habs : |n - -roundHalfUp (-n) d * d| = |-n - roundHalfUp (-n) d * d| := by
      rw [← abs_neg]
      congr 1
      ring
    refine ⟨by rw [habs]; exact hle, fun heq => ?_⟩
    rw [habs] at heq
    rw [neg_mul, abs_neg, ← abs_neg n]
    exact haway heq

theorem roundHalfUp_nonneg {n d : Int} (hn : 0 ≤ n) (hd : 0 < d) : 0 ≤ roundHalfUp n d :=
  Int.ediv_nonneg (by omega) (by omega)

/-! ### Point velocity (R147) -/

/-- Settles O55: the quotient is not negative, so its rounding half up is a natural number. -/
theorem pointVelocity_roundsHalfUp : Obligations.PointVelocity := by
  intro a b ppr pulses period
  refine ⟨fun h => if_pos h, fun hpulses hppr hperiod => ?_⟩
  have hd : 0 < (ppr : Int) * period := by positivity
  obtain ⟨hlow, hhigh⟩ := halfUp_roundHalfUp ((b : Int) * pulses) hd
  have hq := roundHalfUp_nonneg (n := (b : Int) * pulses) (by positivity) hd
  refine ⟨(roundHalfUp ((b : Int) * pulses) ((ppr : Int) * period)).toNat, if_neg hpulses, ?_, ?_⟩
  · zify
    rw [Int.toNat_of_nonneg hq]
    linarith
  · zify
    rw [Int.toNat_of_nonneg hq]
    linarith

/-! ### The value of a pass (R28 to R30) -/

theorem ascending_eq_insertionSort (vs : List Int) : ascending vs = vs.insertionSort (· ≤ ·) := by
  have hinsert : ∀ (v : Int) (ws : List Int), insertAscending v ws = ws.orderedInsert (· ≤ ·) v := by
    intro v ws
    induction ws with
    | nil => rfl
    | cons w ws ih => rw [insertAscending, List.orderedInsert, ih]
  induction vs with
  | nil => rfl
  | cons v vs ih => rw [ascending, ih, hinsert, List.insertionSort_cons]

/-- In an ascending list at most `k` items lie below the item at place `k`, and at least `k + 1` do not lie
above it. -/
theorem countP_of_pairwise_le {xs : List Int} (hs : xs.Pairwise (· ≤ ·)) {k : Nat} (hk : k < xs.length) :
    xs.countP (fun v => decide (v < xs[k])) ≤ k ∧ k < xs.countP (fun v => decide (v ≤ xs[k])) := by
  have hsplit : ∀ (p : Int → Bool) (n : Nat), xs.countP p = (xs.take n).countP p + (xs.drop n).countP p := by
    intro p n
    rw [← List.countP_append, List.take_append_drop]
  have hle : ∀ i j (hij : i ≤ j) (hj : j < xs.length), xs[i] ≤ xs[j] := by
    intro i j hij hj
    rcases hij.lt_or_eq with hlt | rfl
    · exact List.pairwise_iff_getElem.1 hs i j (by omega) hj hlt
    · exact le_rfl
  constructor
  · have hdrop : (xs.drop k).countP (fun v => decide (v < xs[k])) = 0 := by
      rw [List.countP_eq_zero]
      intro v hv
      obtain ⟨i, hi, rfl⟩ := List.mem_iff_getElem.1 hv
      rw [List.length_drop] at hi
      rw [List.getElem_drop, decide_eq_true_eq, not_lt]
      exact hle k (k + i) (by omega) (by omega)
    have htake := List.countP_le_length (p := fun v => decide (v < xs[k])) (l := xs.take k)
    rw [List.length_take] at htake
    rw [hsplit _ k]
    omega
  · have htake : (xs.take (k + 1)).countP (fun v => decide (v ≤ xs[k])) = (xs.take (k + 1)).length := by
      rw [List.countP_eq_length]
      intro v hv
      obtain ⟨i, hi, rfl⟩ := List.mem_iff_getElem.1 hv
      rw [List.length_take] at hi
      rw [List.getElem_take, decide_eq_true_eq]
      exact hle i k (by omega) hk
    rw [List.length_take] at htake
    rw [hsplit _ (k + 1)]
    omega

/-- Settles O28: the conversion by its rounding, the median by its place in the ascending order. -/
theorem passValue : Obligations.PassValue := by
  refine ⟨fun x raw => ?conversion, fun vs hvs => ?median⟩
  case conversion =>
    obtain ⟨hle, haway⟩ := halfAway_roundHalfAway (raw * x.gain) (d := 1048576) (by norm_num)
    have hdouble : |2 * (raw * x.gain - roundHalfAway (raw * x.gain) 1048576 * 1048576)|
        = 2 * |raw * x.gain - roundHalfAway (raw * x.gain) 1048576 * 1048576| := by
      rw [abs_mul, abs_two]
    refine ⟨roundHalfAway (raw * x.gain) 1048576, ?_, by rw [hdouble]; exact hle, fun heq => haway ?_⟩
    · simp [convert, inRange]
    · rwa [hdouble] at heq
  case median =>
    have hpos : 0 < vs.length := List.length_pos_iff.2 hvs
    have hperm : (ascending vs).Perm vs := by
      rw [ascending_eq_insertionSort]
      exact List.perm_insertionSort _ vs
    have hsorted : (ascending vs).Pairwise (· ≤ ·) := by
      rw [ascending_eq_insertionSort]
      exact List.pairwise_insertionSort _ vs
    have hk : (vs.length + 1) / 2 - 1 < (ascending vs).length := by
      rw [hperm.length_eq]
      omega
    have hmedian : median vs = (ascending vs)[(vs.length + 1) / 2 - 1] := by
      rw [median, List.getD_eq_getElem _ _ hk]
    obtain ⟨hbelow, habove⟩ := countP_of_pairwise_le hsorted hk
    rw [← hmedian, hperm.countP_eq] at hbelow habove
    refine ⟨?_, by omega, by omega⟩
    rw [hmedian]
    exact hperm.subset (List.getElem_mem hk)

/-! ### The roles of the channels (R33, R34, R46, R47) -/

theorem exec_selectPrimary (p : Port) (ch : Byte) (s : State) :
    exec (.selectPrimary p ch) s = execSelectPrimary p ch s := rfl

theorem exec_selectCheck (p : Port) (ch : Byte) (s : State) :
    exec (.selectCheck p ch) s = execSelectCheck p ch s := rfl

theorem exec_setCrosscheck (p : Port) (limit : U16) (k w : Byte) (s : State) :
    exec (.setCrosscheck p limit k w) s = execSetCrosscheck p limit k w s := rfl

theorem chanByte_ne_none (c : Chan) : chanByte c ≠ 0xFF := by cases c <;> decide

/-- Settles O25: each selection by its own checks, in their order. -/
theorem selectionsChange : Obligations.SelectionsChange := by
  refine ⟨fun c s hj => ⟨fun h => ?ready, fun h => ?notReady⟩, fun c s hj => ⟨fun h => ?inUse, fun h hd => ?state,
    fun h hd => ?taken⟩, fun ch s hch => ⟨fun hj => ?primaryAbove, fun hne hj => ?checkAbove⟩, fun s hj => ?none,
    fun limit k w s hj => ⟨fun h => ?fits, fun h => ?misfits⟩⟩
  case ready =>
    refine gives_of_work hj (exec_selectPrimary ..) ?_
    rw [withChannel_chanByte, if_pos h]
    rfl
  case notReady =>
    refine gives_of_work hj (exec_selectPrimary ..) ?_
    rw [withChannel_chanByte, if_neg h]
  case inUse =>
    refine gives_of_work hj (exec_selectCheck ..) ?_
    rw [if_neg (chanByte_ne_none c), withChannel_chanByte, if_pos h]
  case state =>
    refine gives_of_work hj (exec_selectCheck ..) ?_
    rw [if_neg (chanByte_ne_none c), withChannel_chanByte, if_neg h, if_pos hd]
  case taken =>
    refine gives_of_work hj (exec_selectCheck ..) ?_
    rw [if_neg (chanByte_ne_none c), withChannel_chanByte, if_neg h, if_neg hd]
    rfl
  case primaryAbove => exact gives_of_work hj (exec_selectPrimary ..) (withChannel_above hch _ s)
  case checkAbove =>
    refine gives_of_work hj (exec_selectCheck ..) ?_
    rw [if_neg hne, withChannel_above hch]
  case none =>
    refine gives_of_work hj (exec_selectCheck ..) ?_
    rw [if_pos rfl]
    rfl
  case fits =>
    refine gives_of_work hj (exec_setCrosscheck ..) (if_pos ?_)
    simpa [inRange, and_assoc] using h
  case misfits =>
    refine gives_of_work hj (exec_setCrosscheck ..) (if_neg ?_)
    simpa [inRange, and_assoc] using h

end Sys2Proof.Machine

/-! The schedule (chapter 1): the next due instant, the pre-warm set after it is placed, and SET_SCHEDULE. -/

namespace Sys2Proof.Machine

/-! ### Folds over distinct names -/

/-- A fold over distinct names, each of whose steps changes what is seen of its own name alone, by what all of them
leave as it was: what is seen of each name in the end. -/
theorem foldl_local {σ κ α β : Type} [DecidableEq κ] {f : σ → κ → σ} {view : κ → σ → α} {env : σ → β}
    {h : κ → β → α → α} (henv : ∀ s c, env (f s c) = env s)
    (hsame : ∀ s c, view c (f s c) = h c (env s) (view c s))
    (hother : ∀ s c k, k ≠ c → view k (f s c) = view k s) (cs : List κ) :
    ∀ s, cs.Nodup → env (cs.foldl f s) = env s
      ∧ ∀ k, view k (cs.foldl f s) = if k ∈ cs then h k (env s) (view k s) else view k s := by
  induction cs with
  | nil => intro s _; exact ⟨rfl, fun k => by simp⟩
  | cons c cs ih =>
    intro s hnodup
    obtain ⟨hc, hcs⟩ := List.nodup_cons.1 hnodup
    obtain ⟨he, hv⟩ := ih (f s c) hcs
    refine ⟨by rw [List.foldl_cons, he, henv], fun k => ?_⟩
    rw [List.foldl_cons, hv k, henv]
    by_cases hk : k = c
    · subst hk
      rw [if_neg hc, if_pos List.mem_cons_self, hsame]
    · rw [hother s c k hk]
      by_cases hmem : k ∈ cs
      · rw [if_pos hmem, if_pos (List.mem_cons_of_mem c hmem)]
      · rw [if_neg hmem, if_neg (by simp [hk, hmem])]

theorem allChans_nodup : allChans.Nodup := by decide

theorem mem_allChans (c : Chan) : c ∈ allChans := by cases c <;> decide

/-! ### One channel and its mark in the pre-warm set -/

/-- What the schedule and the channels show of one channel. -/
def chanView (c : Chan) (s : State) : Channel × Bool := (chan c s, s.schedule.preWarm.get c)

@[simp] theorem chan_setChan_same (c : Chan) (x : Channel) (s : State) : chan c (setChan c x s) = x := by
  simp [chan, setChan]

theorem chan_setChan_other {c k : Chan} (h : k ≠ c) (x : Channel) (s : State) : chan k (setChan c x s) = chan k s :=
  PerChan.get_set_other _ h x

@[simp] theorem chan_setPreWarm (c k : Chan) (b : Bool) (s : State) : chan k (setPreWarm c b s) = chan k s := rfl

theorem chanView_mark (c : Chan) (x : Channel) (s : State) :
    chanView c (setPreWarm c false (setChan c x s)) = (x, false) := by
  simp [chanView, setPreWarm, setChan, chan]

theorem chanView_mark_other {c k : Chan} (h : k ≠ c) (x : Channel) (s : State) :
    chanView k (setPreWarm c false (setChan c x s)) = chanView k s := by
  simp [chanView, setPreWarm, setChan, chan, PerChan.get_set_other _ h]

/-! ### Placing the next due instant (R9, R10) -/

/-- The schedule but for the pre-warm set, and the time. -/
def scheduleView (s : State) : Schedule × TimeBase := ({ s.schedule with preWarm := .all false }, s.time)

/-- A channel's pre-warm point by the schedule and the time. -/
def preWarmPoint (v : Schedule × TimeBase) (x : Channel) : U32 :=
  v.2.nextCount + 1000#32 * (v.1.nextDue - v.2.station - 1) - BitVec.ofNat 32 (warmUpMs x.config.warmUp)

theorem preWarmReading_eq (c : Chan) (s : State) : preWarmReading c s = preWarmPoint (scheduleView s) (chan c s) := rfl

/-- What the revision makes of one channel. -/
def revised (v : Schedule × TimeBase) (x : Channel × Bool) : Channel × Bool :=
  if x.2 && ahead (preWarmPoint v x.1) v.2.elapsed then (x.1.unpower .sleeping, false) else x

theorem foldl_revisePreWarm (s : State) :
    scheduleView (allChans.foldl revisePreWarm s) = scheduleView s
      ∧ ∀ c, chanView c (allChans.foldl revisePreWarm s) = revised (scheduleView s) (chanView c s) := by
  obtain ⟨henv, hview⟩ := foldl_local (f := revisePreWarm) (view := chanView) (env := scheduleView)
    (h := fun _ => revised) (fun s c => by unfold revisePreWarm; split <;> rfl)
    (fun s c => by
      unfold revisePreWarm revised
      rw [preWarmReading_eq]
      show chanView c (if _ then _ else _) = if _ then _ else _
      split
      case isTrue h => rw [chanView_mark, if_pos (by exact h)]; rfl
      case isFalse h => rw [if_neg (by exact h)])
    (fun s c k hk => by
      unfold revisePreWarm
      split
      · exact chanView_mark_other hk _ s
      · rfl)
    allChans s allChans_nodup
  exact ⟨henv, fun c => by rw [hview, if_pos (mem_allChans c)]⟩

/-- The schedule after the next due instant is placed: nothing but the instant and the pre-warm set differs. -/
theorem placeDue_schedule (s : State) :
    ∃ preWarm, (placeDue s).schedule
      = { s.schedule with
          preWarm := preWarm, nextDue := nextMultiple s.schedule.interval s.time.station } := by
  obtain ⟨henv, -⟩ := foldl_revisePreWarm
    (s.withSchedule { s.schedule with nextDue := nextMultiple s.schedule.interval s.time.station })
  have hschedule := congrArg Prod.fst henv
  refine ⟨(placeDue s).schedule.preWarm, ?_⟩
  have hfields : ∀ x y : Schedule, { x with preWarm := .all false } = { y with preWarm := .all false } →
      x = { y with preWarm := x.preWarm } := by
    intro x y h
    cases x; cases y
    cases h
    rfl
  exact hfields _ _ hschedule

@[simp] theorem placeDue_nextDue (s : State) :
    (placeDue s).schedule.nextDue = nextMultiple s.schedule.interval s.time.station := by
  obtain ⟨preWarm, h⟩ := placeDue_schedule s
  rw [h]

@[simp] theorem placeDue_interval (s : State) : (placeDue s).schedule.interval = s.schedule.interval := by
  obtain ⟨preWarm, h⟩ := placeDue_schedule s
  rw [h]
  rfl

/-- The smallest multiple of the interval after `now` (R9). -/
theorem nextMultiple_spec {interval : Nat} (hpos : 0 < interval) (now : U32) :
    (now.toNat < (nextMultiple interval now).toNat ∧ (nextMultiple interval now).toNat % interval = 0
        ∧ ∀ k, now.toNat < k → k < (nextMultiple interval now).toNat → k % interval ≠ 0)
      ∨ ((nextMultiple interval now).toNat = 0
        ∧ ∀ k, now.toNat < k → k < 4294967296 → k % interval ≠ 0) := by
  have hdiv := Nat.div_add_mod now.toNat interval
  have hmod := Nat.mod_lt now.toNat hpos
  have hnext : (now.toNat / interval + 1) * interval = interval * (now.toNat / interval) + interval := by ring
  have hgap : ∀ k, now.toNat < k → k < (now.toNat / interval + 1) * interval → k % interval ≠ 0 := by
    intro k hk hlt hzero
    obtain ⟨j, rfl⟩ := Nat.dvd_of_mod_eq_zero hzero
    have hj : j < now.toNat / interval + 1 := by
      rw [mul_comm] at hlt
      exact lt_of_mul_lt_mul_right hlt (Nat.zero_le _)
    have : interval * j ≤ interval * (now.toNat / interval) := Nat.mul_le_mul_left _ (by omega)
    omega
  unfold nextMultiple
  dsimp only
  split
  case isTrue h =>
    left
    have hval : (BitVec.ofNat 32 ((now.toNat / interval + 1) * interval)).toNat
        = (now.toNat / interval + 1) * interval := by
      rw [BitVec.toNat_ofNat, Nat.mod_eq_of_lt h]
    rw [hval]
    exact ⟨by omega, Nat.mul_mod_left _ _, hgap⟩
  case isFalse h => exact .inr ⟨rfl, fun k hk hlt => hgap k hk (by omega)⟩

/-! ### SET_SCHEDULE (R6) -/

theorem exec_setSchedule (p : Port) (n f : U16) (l : Byte) (s : State) :
    exec (.setSchedule p n f l) s = execSetSchedule p n f l s := rfl

theorem scheduleFits_iff (n f l : Nat) :
    scheduleFits n f l = true ↔ n ∈ normalIntervals ∧ f ∈ fastIntervals ∧ l ≤ 4 ∧ f ≤ n := by
  simp [scheduleFits, and_assoc]

theorem modeNow_eq_fast_iff (s : State) :
    modeNow s = .fast ↔ (s.schedule.fastLevel ≠ 0 ∧ s.schedule.fastLevel ≤ s.warning.level)
      ∨ s.permit.record.state = .open_ ∨ s.permit.record.state = .standingDown := by
  unfold modeNow
  split
  case isTrue h => simp [h]
  case isFalse h => simp [h]

/-- Settles O19: the next due instant by `nextMultiple_spec`, and the three items before the mode and the
instant that follow from them. -/
theorem setScheduleReplaces : Obligations.SetScheduleReplaces := by
  refine ⟨fun interval now hpos => nextMultiple_spec hpos now, fun n f l s hj => ⟨fun h => ?fits, fun h => ?misfits⟩⟩
  case fits =>
    have hgives := gives_of_work hj (exec_setSchedule ..)
      (if_pos ((scheduleFits_iff n.toNat f.toNat l.toNat).2 h))
    refine ⟨_, hgives, ?_⟩
    set s1 := s.withSchedule { s.schedule with normal := n.toNat, fast := f.toNat, fastLevel := l.toNat }
    set s2 := s1.withSchedule { s1.schedule with mode := modeNow s1 }
    have hplaced : setSchedule n.toNat f.toNat l.toNat s = placeDue s2 := rfl
    obtain ⟨preWarm, hschedule⟩ := placeDue_schedule s2
    obtain ⟨x, y, honly⟩ := placeDue_only s2
    rw [hplaced]
    refine ⟨⟨x, y, by rw [honly]; rfl⟩, ?_⟩
    rw [placeDue_interval, hschedule]
    exact ⟨rfl, rfl, rfl, rfl, modeNow_eq_fast_iff s1, rfl⟩
  case misfits =>
    exact gives_of_work hj (exec_setSchedule ..) (if_neg (mt (scheduleFits_iff n.toNat f.toNat l.toNat).1 h))

end Sys2Proof.Machine

/-! LOAD_RULE (R91): the rule a payload carries, and the level computation that follows it. -/

namespace Sys2Proof.Machine

theorem NoCompletion.of_due_nil {s : State} (h : s.due = []) : NoCompletion s := by
  simp [NoCompletion, h]

/-! ### The level computation that leaves L -/

/-- With the target at or below L and a hold time above 0, L stays and the hold timer runs while the target is
below it (R103, R104). -/
theorem computeLevel_of_le {s : State} (b : Bool) (hle : s.warning.formTarget ≤ s.warning.level)
    (hmin : s.warning.holdMin ≠ 0) :
    computeLevel b s
      = s.withWarning
          { s.warning with
            target := s.warning.formTarget
            hold := if s.warning.formTarget < s.warning.level then
                some (s.warning.hold.getD (after s.time.elapsed (s.warning.holdMin * 60000)))
              else none } := by
  unfold computeLevel
  dsimp only [State.withWarning_warning]
  simp only [hle.not_gt, ↓reduceIte]
  by_cases hlt : s.warning.formTarget < s.warning.level
  · cases hhold : s.warning.hold with
    | some t => simp only [hlt, ↓reduceIte, Option.getD_some]
    | none =>
      simp only [hlt, hmin, ↓reduceIte, Option.getD_none, State.withWarning_twice]
      rfl
  · simp only [hlt, ↓reduceIte, State.withWarning_twice]

/-! ### A rule that does not count (R100, R101) -/

theorem countingLevel_cons (r : Rule) (rs : List Rule) :
    countingLevel (r :: rs) = if r.counts then max r.level (countingLevel rs) else countingLevel rs := rfl

theorem countingLevel_set_le {r : Rule} (hr : r.counts = false) (rules : List Rule) (n : Nat) :
    countingLevel (rules.set n r) ≤ countingLevel rules := by
  induction rules generalizing n with
  | nil => exact le_rfl
  | cons x xs ih =>
    cases n with
    | zero =>
      rw [List.set_cons_zero, countingLevel_cons, countingLevel_cons, hr, if_neg (by simp)]
      split
      · exact le_max_right _ _
      · exact le_rfl
    | succ n =>
      rw [List.set_cons_succ, countingLevel_cons, countingLevel_cons]
      have := ih n
      split
      · exact max_le_max le_rfl this
      · exact this

/-! ### The rule of a payload -/

theorem quantityOf_eq_some {b : Byte} (h : b.toNat ≤ 5) :
    ∃ q, quantityOf b = some q ∧ quantityCode q = b.toNat := by
  have hall : ∀ b : Byte, b.toNat ≤ 5 → ∃ q ∈ quantityOf b, quantityCode q = b.toNat := by decide
  exact hall b h

theorem quantityOf_above {b : Byte} (h : 5 < b.toNat) : quantityOf b = none := by
  have hall : ∀ b : Byte, 5 < b.toNat → quantityOf b = none := by decide
  exact hall b h

theorem conditionOf_eq_some {b : Byte} (h : b.toNat ≤ 9) :
    ∃ c, conditionOf b = some c ∧ conditionCode c = b.toNat := by
  have hall : ∀ b : Byte, b.toNat ≤ 9 → ∃ c ∈ conditionOf b, conditionCode c = b.toNat := by decide
  exact hall b h

theorem conditionOf_above {b : Byte} (h : 9 < b.toNat) : conditionOf b = none := by
  have hall : ∀ b : Byte, 9 < b.toNat → conditionOf b = none := by decide
  exact hall b h

theorem yesByte_of_le_one {b : Byte} (h : b.toNat ≤ 1) : yesByte b = decide (b.toNat = 1) := by
  have hall : ∀ b : Byte, b.toNat ≤ 1 → yesByte b = decide (b.toNat = 1) := by decide
  exact hall b h

theorem ruleOf_of_outside {x : RulePayload}
    (h : ¬(x.quantity.toNat ≤ 5 ∧ x.condition.toNat ≤ 9 ∧ (1 ≤ x.level.toNat ∧ x.level.toNat ≤ 4)
      ∧ (1 ≤ x.persistence.toNat ∧ x.persistence.toNat ≤ 15))) : ruleOf x = none := by
  unfold ruleOf
  by_cases hq : x.quantity.toNat ≤ 5
  · by_cases hc : x.condition.toNat ≤ 9
    · obtain ⟨q, hq', -⟩ := quantityOf_eq_some hq
      obtain ⟨c, hc', -⟩ := conditionOf_eq_some hc
      rw [hq', hc']
      dsimp only
      rw [if_neg]
      intro hin
      refine h ⟨hq, hc, ?_⟩
      simpa [inRange, and_assoc] using hin
    · rw [conditionOf_above (not_le.1 hc)]
      cases quantityOf x.quantity <;> rfl
  · rw [quantityOf_above (not_le.1 hq)]

theorem exec_loadRule (p : Port) (n : Byte) (x : RulePayload) (s : State) :
    exec (.loadRule p n x) s = execLoadRule p n x s := rfl

/-- Settles O37: a rule just loaded does not count, so the target does not rise, and L is left to the hold
timer. -/
theorem ruleLoaded : Obligations.RuleLoaded := by
  intro n x s hj
  refine ⟨fun ⟨hn, hquantity, hcondition, hlevel, hpersistence⟩ => ?fits, fun h => ?misfits⟩
  case fits =>
    obtain ⟨q, hq, hqcode⟩ := quantityOf_eq_some hquantity
    obtain ⟨c, hc, hccode⟩ := conditionOf_eq_some hcondition
    set r : Rule :=
      { enabled := yesByte x.enabled, quantity := q, mask := x.mask, set := x.set, clear := x.clear
        condition := c, level := x.level.toNat, persistence := x.persistence.toNat, state := .inactive
        count := 0, last := none }
    have hrule : ruleOf x = some r := by
      unfold ruleOf
      rw [hq, hc]
      exact if_pos (by simp [inRange, hlevel, hpersistence])
    have hgives : Gives .logger (.loadRule .logger n x) s (settle (loadRule n.toNat r s)) (plain .ok) :=
      gives_of_work hj (exec_loadRule ..) (by simp [hrule, hn])
    have hdue : (s.withWarning { s.warning with rules := s.warning.rules.set n.toNat r }).due = [] := hj.2.2
    refine ⟨r, yesByte_of_le_one, hqcode, hccode, rfl, rfl, rfl, rfl, rfl, rfl, rfl, rfl, ⟨_, hgives, ?kept⟩,
      fun hsound hmin => ?sound⟩
    case kept =>
      rw [loadRule, kept_settle _ ((NoCompletion.of_due_nil hdue).computeLevel false), kept_computeLevel]
      exact kept_withWarning s _ ⟨rfl, rfl, rfl, rfl⟩
    case sound =>
      have htarget : max s.warning.floor (countingLevel (s.warning.rules.set n.toNat r)) ≤ s.warning.level := by
        have hcount := countingLevel_set_le (r := r) rfl s.warning.rules n.toNat
        have hupheld := hsound.upheld
        rw [hsound.target, Warning.formTarget] at hupheld
        omega
      have hlevel := computeLevel_of_le
        (s := s.withWarning { s.warning with rules := s.warning.rules.set n.toNat r }) false htarget hmin
      rw [loadRule, hlevel, settle_of_due_nil _ (by exact hdue), State.withWarning_twice] at hgives
      exact hgives
  case misfits =>
    refine gives_of_work hj (exec_loadRule ..) ?_
    by_cases hn : n.toNat < 16
    · rw [ruleOf_of_outside fun h' => h ⟨hn, h'⟩]
    · cases ruleOf x <;> simp [hn]

end Sys2Proof.Machine

/-! SET_CABLEWAY_CONFIG (R120, R123): its refusals, and the candidates that pass under the new filter width. -/

namespace Sys2Proof.Machine

/-- A filter under a width: a candidate that has held for it becomes the passed level (R120). -/
def Filter.underWidth (f : Filter) (width : Nat) (now : U32) : Filter :=
  match f.candidate with
  | some t => if ahead (after t width) now then f else { passed := !f.passed, candidate := none }
  | none => f

/-- Without an operation in flight a contact but the load trip's brings nothing about. -/
theorem contactAsserts_of_idle {s : State} (h : s.cableway.op = none) {i : Contact} (hi : i ≠ .loadTrip) :
    contactAsserts i s = s := by
  cases i with
  | surface => simp [contactAsserts, surfaceContact, h]
  | bottom => simp [contactAsserts, bottomContact, h]
  | meter => simp [contactAsserts, meterEdge, h]
  | loadTrip => exact absurd rfl hi

theorem Cableway.setFilter_same (c : Cableway) (i : Contact) : c.setFilter i (c.filter i) = c := by
  cases i <;> rfl

theorem Cableway.setFilter_op (c : Cableway) (i : Contact) (f : Filter) : (c.setFilter i f).op = c.op := by
  cases i <;> rfl

theorem passHeld_of_idle {s : State} (h : s.cableway.op = none) {i : Contact} (hi : i ≠ .loadTrip) :
    passHeld s i
      = s.withCableway (s.cableway.setFilter i
          ((s.cableway.filter i).underWidth (s.cableway.config.width i) s.time.elapsed)) := by
  have hsame : s = s.withCableway (s.cableway.setFilter i (s.cableway.filter i)) := by
    rw [Cableway.setFilter_same, State.withCableway_same]
  unfold passHeld Filter.underWidth
  dsimp only
  cases hcandidate : (s.cableway.filter i).candidate with
  | none => exact hsame
  | some t =>
    dsimp only
    split
    · exact hsame
    · unfold passLevel
      dsimp only
      split
      · rw [contactAsserts_of_idle (by simp [onCable, Cableway.setFilter_op, h]) hi]
        rfl
      · rfl

/-- The configuration replaced with no operation in flight. -/
theorem setCableConfig_of_idle {s : State} (h : s.cableway.op = none) (x : CableConfig) :
    setCableConfig x s
      = s.withCableway
          { s.cableway with
            config := x
            surface := s.cableway.surface.underWidth x.filterWidth s.time.elapsed
            bottom := s.cableway.bottom.underWidth x.filterWidth s.time.elapsed
            meter := s.cableway.meter.underWidth x.filterWidth s.time.elapsed } := by
  have hstart : onCable (fun c => { c with config := x }) s = s.withCableway { s.cableway with config := x } := rfl
  simp only [setCableConfig, List.foldl_cons, List.foldl_nil, hstart]
  rw [passHeld_of_idle (i := .surface) (by exact h) (by decide),
    passHeld_of_idle (i := .bottom) (by exact h) (by decide), passHeld_of_idle (i := .meter) (by exact h) (by decide)]
  rfl

theorem cableConfig_fits_iff (x : CablePayload) :
    (cableConfigOf x).fits = true ↔ (1000 ≤ x.span.toNat ∧ x.span.toNat ≤ 500000)
      ∧ (1 ≤ x.traverseScale.toNat ∧ x.traverseScale.toNat ≤ 10000)
      ∧ (1 ≤ x.reelScale.toNat ∧ x.reelScale.toNat ≤ 10000)
      ∧ (1 ≤ x.maxReel.toNat ∧ x.maxReel.toNat ≤ 40000) ∧ x.carry.toNat ≤ 2000
      ∧ x.hanger.toNat ≤ 1000 ∧ x.dwell.toNat ≤ 60000
      ∧ x.filterWidth.toNat ∈ [0, 1, 2, 4, 8] ∧ x.carry.toNat ≤ x.maxReel.toNat := by
  rw [CableConfig.fits, Bool.and_eq_true, decide_eq_true_iff]
  simp [cableConfigOf, inRange, and_assoc]

theorem OpKind.isObserve_iff (k : OpKind) : k.isObserve = true ↔ ∃ o, k = .observe o := by
  cases k <;> simp [OpKind.isObserve]

/-- The first refusal, or none (R123). -/
theorem configRefusal_eq (x : CableConfig) (s : State) :
    (((∃ o ph, s.cableway.op = some { kind := .observe o, phase := ph }) → configRefusal x s = some .busy)
      ∧ (¬(∃ o ph, s.cableway.op = some { kind := .observe o, phase := ph }) →
        configRefusal x s
          = if s.permit.record.state = .open_ ∨ s.permit.record.state = .standingDown ∨ s.cableway.op ≠ none then
              some .state
            else if x.fits = true then none else some .range)) := by
  refine ⟨fun ⟨o, ph, hop⟩ => ?observing, fun hnot => ?other⟩
  case observing => simp [configRefusal, hop, OpKind.isObserve]
  case other =>
    cases hop : s.cableway.op with
    | none => by_cases hfits : x.fits = true <;> simp [configRefusal, hop, hfits]
    | some op =>
      have hkind : op.kind.isObserve = false := by
        rw [Bool.eq_false_iff]
        intro hobserve
        obtain ⟨o, ho⟩ := (OpKind.isObserve_iff _).1 hobserve
        exact hnot ⟨o, op.phase, by rw [hop, ← ho]⟩
      simp [configRefusal, hop, hkind]

theorem exec_setCablewayConfig (p : Port) (x : CablePayload) (s : State) :
    exec (.setCablewayConfig p x) s = execSetCablewayConfig p x s := rfl

/-- Settles O45: by the first refusal, and with none by the three filters under the new width. -/
theorem cablewayConfigured : Obligations.CablewayConfigured := by
  intro x s hj c observing engaged fits refused passed
  obtain ⟨hbusy, hother⟩ := configRefusal_eq (cableConfigOf x) s
  have hrefused : ∀ st, configRefusal (cableConfigOf x) s = some st → refused st := fun st hst =>
    gives_of_work hj (exec_setCablewayConfig ..) (by simp [hst])
  refine ⟨fun h => hrefused _ (hbusy h), fun h he => ?engaged, fun h he hf => ?misfits, fun h he hf => ?taken⟩
  case engaged => exact hrefused _ (by rw [hother h]; exact if_pos he)
  case misfits =>
    refine hrefused _ ?_
    rw [hother h, if_neg (by exact he), if_neg (mt (cableConfig_fits_iff x).1 hf)]
  case taken =>
    have hnone : configRefusal (cableConfigOf x) s = none := by
      rw [hother h, if_neg (by exact he), if_pos ((cableConfig_fits_iff x).2 hf)]
    have hidle : s.cableway.op = none := by
      by_contra hop
      exact he (.inr (.inr hop))
    have hgives : Gives .cableway (.setCablewayConfig .cableway x) s
        (settle (setCableConfig (cableConfigOf x) s)) (plain .ok) :=
      gives_of_work hj (exec_setCablewayConfig ..) (by simp [hnone])
    rw [setCableConfig_of_idle hidle, settle_of_due_nil _ (by exact hj.2.2)] at hgives
    exact hgives

end Sys2Proof.Machine

/-! The rating (chapter 4): the checks of a load, the discharge of a stage, the shifts and the derived shift. -/

namespace Sys2Proof.Machine

theorem roundHalfUp_mono {n m d : Int} (h : n ≤ m) (hd : 0 < d) : roundHalfUp n d ≤ roundHalfUp m d :=
  Int.ediv_le_ediv (by omega) (by omega)

/-- The half that goes up from a multiple of the divisor is lost again. -/
theorem roundHalfUp_mul_self (k : Int) {d : Int} (hd : 0 < d) : roundHalfUp (k * d) d = k := by
  have h : 2 * (k * d) + d = d + (2 * d) * k := by ring
  rw [roundHalfUp, h, Int.add_mul_ediv_left _ _ (by omega), Int.ediv_eq_zero_of_lt hd.le (by omega), zero_add]

/-! ### The table of stages and discharges (R58, R59) -/

/-- The part of a segment's rise that lies below a stage in it. -/
def risen (a b : TablePoint) (h : Int) : Int :=
  roundHalfUp (((b.discharge : Int) - a.discharge) * (h - a.stage)) (b.stage - a.stage)

section
variable {t : List TablePoint}

/-- A stage within a segment of a table of rising stages is interpolated there. -/
theorem interpolate_segment {h : Int} : ∀ {t : List TablePoint}, t.Pairwise (fun a b => a.stage < b.stage) →
    ∀ {i : Nat} (hi : i + 1 < t.length), t[i].stage ≤ h → h < t[i + 1].stage →
      interpolate t h = t[i].discharge + (risen t[i] t[i + 1] h).toNat := by
  intro t
  induction t with
  | nil => intro _ i hi; simp at hi
  | cons a rest ih =>
    cases rest with
    | nil => intro _ i hi; simp at hi
    | cons b rest =>
      intro hs i hi hlow hhigh
      cases i with
      | zero =>
        simp only [List.getElem_cons_zero, List.getElem_cons_succ] at hlow hhigh
        exact if_pos ⟨hlow, hhigh⟩
      | succ i =>
        have hs' := (List.pairwise_cons.1 hs).2
        have hi' : i < (b :: rest).length := by simp at hi ⊢; omega
        have hb : b.stage ≤ (b :: rest)[i].stage := by
          rcases Nat.eq_zero_or_pos i with rfl | hpos
          · exact le_rfl
          · exact (List.pairwise_iff_getElem.1 hs' 0 i (by simp) hi' hpos).le
        simp only [List.getElem_cons_succ] at hlow hhigh ⊢
        have hpast : ¬(a.stage ≤ h ∧ h < b.stage) := fun hin => absurd hin.2 (by omega)
        exact (if_neg hpast).trans (ih hs' (by simpa using hi) hlow hhigh)

/-- A stage from the first point's up to below the last one's lies in a segment. -/
theorem exists_segment {h : Int} : ∀ {t : List TablePoint} (hlen : 0 < t.length), t[0].stage ≤ h →
    h < (t[t.length - 1]).stage →
    ∃ (i : Nat) (hi : i + 1 < t.length), t[i].stage ≤ h ∧ h < t[i + 1].stage := by
  intro t
  induction t with
  | nil => intro hlen; simp at hlen
  | cons a rest ih =>
    cases rest with
    | nil =>
      intro _ hlow hhigh
      simp only [List.getElem_cons_zero, List.length_singleton, Nat.sub_self] at hlow hhigh
      omega
    | cons b rest =>
      intro _ hlow hhigh
      by_cases hb : h < b.stage
      · exact ⟨0, by simp, hlow, hb⟩
      · obtain ⟨i, hi, hin⟩ := ih (by simp) (by simpa using hb) (by simpa using hhigh)
        exact ⟨i + 1, by simpa using hi, hin⟩

variable (hs : t.Pairwise fun a b => a.stage < b.stage) (hd : t.Pairwise fun a b => a.discharge ≤ b.discharge)

include hs in
theorem stage_lt_iff {i j : Nat} (hi : i < t.length) (hj : j < t.length) : t[i].stage < t[j].stage ↔ i < j := by
  have hlt := List.pairwise_iff_getElem.1 hs
  constructor
  · intro h
    by_contra hle
    rcases (not_lt.1 hle).lt_or_eq with hji | rfl
    · exact absurd (hlt j i hj hi hji) (by omega)
    · omega
  · exact fun h => hlt i j hi hj h

include hd in
theorem discharge_le {i j : Nat} (hij : i ≤ j) (hj : j < t.length) : t[i].discharge ≤ t[j].discharge := by
  rcases hij.lt_or_eq with hlt | rfl
  · exact List.pairwise_iff_getElem.1 hd i j (by omega) hj hlt
  · exact le_rfl

include hd in
/-- What a segment adds to its lower discharge is rounded half up, and at most its rise. -/
theorem risen_spec {h : Int} {i : Nat} (hi : i + 1 < t.length) (hlow : t[i].stage ≤ h) (hhigh : h < t[i + 1].stage) :
    0 ≤ risen t[i] t[i + 1] h ∧ risen t[i] t[i + 1] h ≤ (t[i + 1].discharge : Int) - t[i].discharge
      ∧ HalfUp (((t[i + 1].discharge : Int) - t[i].discharge) * (h - t[i].stage)) (t[i + 1].stage - t[i].stage)
        (risen t[i] t[i + 1] h) := by
  have hrise : (t[i].discharge : Int) ≤ t[i + 1].discharge := by
    exact_mod_cast discharge_le hd (i.le_add_right 1) hi
  have hwide : 0 < t[i + 1].stage - t[i].stage := by omega
  refine ⟨roundHalfUp_nonneg (mul_nonneg (by omega) (by omega)) hwide, ?_, halfUp_roundHalfUp _ hwide⟩
  calc risen t[i] t[i + 1] h
      ≤ roundHalfUp (((t[i + 1].discharge : Int) - t[i].discharge) * (t[i + 1].stage - t[i].stage))
          (t[i + 1].stage - t[i].stage) :=
        roundHalfUp_mono (mul_le_mul_of_nonneg_left (by omega) (by omega)) hwide
    _ = (t[i + 1].discharge : Int) - t[i].discharge := roundHalfUp_mul_self _ hwide

include hs hd in
theorem interpolate_eq_add_risen {h : Int} {i : Nat} (hi : i + 1 < t.length) (hlow : t[i].stage ≤ h)
    (hhigh : h < t[i + 1].stage) : (interpolate t h : Int) = t[i].discharge + risen t[i] t[i + 1] h := by
  obtain ⟨hnonneg, -, -⟩ := risen_spec hd hi hlow hhigh
  rw [interpolate_segment hs hi hlow hhigh, Nat.cast_add, Int.toNat_of_nonneg hnonneg]

include hs hd in
/-- Within the table the discharge does not fall as the stage rises. -/
theorem interpolate_mono {h h' : Int} (hle : h ≤ h') (hlen : 0 < t.length) (hfirst : t[0].stage ≤ h)
    (htop : h' < t[t.length - 1].stage) : interpolate t h ≤ interpolate t h' := by
  obtain ⟨i, hi, hlow, hhigh⟩ := exists_segment hlen hfirst (hle.trans_lt htop)
  obtain ⟨j, hj, hlow', hhigh'⟩ := exists_segment hlen (hfirst.trans hle) htop
  have hv := interpolate_eq_add_risen hs hd hi hlow hhigh
  have hv' := interpolate_eq_add_risen hs hd hj hlow' hhigh'
  obtain ⟨-, hbelow, -⟩ := risen_spec hd hi hlow hhigh
  obtain ⟨habove, -, -⟩ := risen_spec hd hj hlow' hhigh'
  have hij : i < j + 1 := (stage_lt_iff hs (by omega) hj).1 (by omega)
  rcases (Nat.lt_succ_iff.1 hij).lt_or_eq with hlt | rfl
  · have hstep : t[i + 1].discharge ≤ t[j].discharge := discharge_le hd hlt (by omega)
    omega
  · have hmono : risen t[i] t[i + 1] h ≤ risen t[i] t[i + 1] h' :=
      roundHalfUp_mono (mul_le_mul_of_nonneg_left (by omega)
        (by have : t[i].discharge ≤ t[i + 1].discharge := discharge_le hd (i.le_add_right 1) hi; omega)) (by omega)
    omega

end

/-! ### The discharge of a stage (R57, R58, R61) -/

theorem effectiveStage_eq (v shift : Int) : effectiveStage v shift = max (-32000) (min 32000 (v + shift)) :=
  clampInt_eq_max_min (by decide) _

theorem noted_computeDischarge (r : Rating) (v : Int) (quality : Quality) :
    r.noted (computeDischarge r (some v) quality) = { r with lastEffective := some (effectiveStage v r.shift) } := by
  cases ht : r.table <;> simp [computeDischarge, Rating.noted, ht]

theorem computeDischarge_noTable {r : Rating} (ht : r.table = none) (v : Int) (quality : Quality) :
    computeDischarge r (some v) quality
      = { discharge := 0, quality := .noRating, effective := some (effectiveStage v r.shift), above := false } := by
  simp [computeDischarge, ht]

theorem computeDischarge_table {r : Rating} {t : List TablePoint} (ht : r.table = some t) (v : Int)
    (quality : Quality) :
    computeDischarge r (some v) quality
      = { discharge := (rateStage t (effectiveStage v r.shift)).1
          quality := if quality = .held then .held else (rateStage t (effectiveStage v r.shift)).2
          effective := some (effectiveStage v r.shift)
          above := decide ((rateStage t (effectiveStage v r.shift)).2 = .aboveRating) } := by
  simp [computeDischarge, ht]

section
variable {t : List TablePoint} {first top : TablePoint} (hfirst : t.head? = some first)
  (htop : t.getLast? = some top)

include hfirst htop in
/-- The rows of R58 for a table with its first and its last point. -/
theorem rateStage_eq (h : Int) :
    rateStage t h = if h ≤ first.stage then (0, .zeroFlow)
      else if top.stage ≤ h then (top.discharge, .aboveRating) else (interpolate t h, .rated) := by
  simp only [rateStage, hfirst, htop]

include hfirst in
theorem head_eq_getElem (hlen : 0 < t.length) : t[0] = first := by
  rw [List.head?_eq_getElem?, List.getElem?_eq_getElem hlen] at hfirst
  exact Option.some.inj hfirst

include htop in
theorem getLast_eq_getElem (hlen : 0 < t.length) : t[t.length - 1] = top := by
  rw [List.getLast?_eq_getElem?, List.getElem?_eq_getElem (by omega)] at htop
  exact Option.some.inj htop

variable (hlen : 0 < t.length) (hs : t.Pairwise fun a b => a.stage < b.stage)
  (hd : t.Pairwise fun a b => a.discharge ≤ b.discharge) {h : Int}

include hfirst htop hlen in
/-- A stage strictly within the table lies in a segment, and its discharge is interpolated there. -/
theorem rateStage_within (hlow : first.stage < h) (hhigh : h < top.stage) :
    rateStage t h = (interpolate t h, .rated)
      ∧ ∃ (i : Nat) (hi : i + 1 < t.length), t[i].stage ≤ h ∧ h < t[i + 1].stage := by
  refine ⟨?_, exists_segment hlen (by rw [head_eq_getElem hfirst hlen]; omega)
    (by rw [getLast_eq_getElem htop hlen]; exact hhigh)⟩
  rw [rateStage_eq hfirst htop, if_neg (by omega), if_neg (by omega)]

include hfirst htop hlen hs hd in
theorem rateStage_le_top : (rateStage t h).1 ≤ top.discharge := by
  by_cases hlow : h ≤ first.stage
  · simp [rateStage_eq hfirst htop, hlow]
  · by_cases hhigh : top.stage ≤ h
    · simp [rateStage_eq hfirst htop, hlow, hhigh]
    · obtain ⟨he, i, hi, hin⟩ := rateStage_within hfirst htop hlen (h := h) (by omega) (by omega)
      have hv := interpolate_eq_add_risen hs hd hi hin.1 hin.2
      obtain ⟨-, hle, -⟩ := risen_spec hd hi hin.1 hin.2
      have hlast : t[i + 1].discharge ≤ t[t.length - 1].discharge := discharge_le hd (by omega) (by omega)
      rw [getLast_eq_getElem htop hlen] at hlast
      rw [he]
      dsimp only
      omega

include hfirst htop hlen hs hd in
theorem rateStage_mono {h' : Int} (hle : h ≤ h') : (rateStage t h).1 ≤ (rateStage t h').1 := by
  by_cases hlow : h ≤ first.stage
  · simp [rateStage_eq hfirst htop h, hlow]
  · by_cases hhigh' : top.stage ≤ h'
    · have htop' : (rateStage t h').1 = top.discharge := by
        simp [rateStage_eq hfirst htop h', hhigh', show ¬h' ≤ first.stage by omega]
      exact htop' ▸ rateStage_le_top hfirst htop hlen hs hd
    · rw [(rateStage_within hfirst htop hlen (h := h) (by omega) (by omega)).1,
        (rateStage_within hfirst htop hlen (h := h') (by omega) (by omega)).1]
      exact interpolate_mono hs hd hle hlen (by rw [head_eq_getElem hfirst hlen]; omega)
        (by rw [getLast_eq_getElem htop hlen]; omega)

include hfirst htop hs hd in
/-- Between two neighbouring points the discharge is theirs, interpolated and rounded half up (R59). -/
theorem rateStage_between {before after : List TablePoint} {a b : TablePoint} (ht : t = before ++ a :: b :: after)
    (hlow : first.stage < h) (ha : a.stage ≤ h) (hb : h < b.stage) :
    ∃ q : Nat, (rateStage t h).1 = a.discharge + q
      ∧ HalfUp (((b.discharge : Int) - a.discharge) * (h - a.stage)) (b.stage - a.stage) q := by
  have hi : before.length + 1 < t.length := by simp [ht]
  have hlen : 0 < t.length := by omega
  have hea : t[before.length] = a := by simp [ht]
  have heb : t[before.length + 1] = b := by simp [ht]
  have hbelow : h < top.stage := by
    rcases (show before.length + 1 ≤ t.length - 1 by omega).lt_or_eq with hlt | heq
    · have := (stage_lt_iff hs hi (by omega)).2 hlt
      rw [heb, getLast_eq_getElem htop hlen] at this
      omega
    · have hlast : t[before.length + 1] = t[t.length - 1] := by simp only [heq]
      rw [heb, getLast_eq_getElem htop hlen] at hlast
      rwa [← hlast]
  have ha' : t[before.length].stage ≤ h := by rwa [hea]
  have hb' : h < t[before.length + 1].stage := by rwa [heb]
  obtain ⟨hnonneg, -, hhalf⟩ := risen_spec hd hi ha' hb'
  rw [(rateStage_within hfirst htop hlen hlow hbelow).1]
  refine ⟨(risen a b h).toNat, ?_, ?_⟩
  · dsimp only
    rw [interpolate_segment hs hi ha' hb', hea, heb]
  · rw [hea, heb] at hhalf hnonneg
    rwa [Int.toNat_of_nonneg hnonneg]

include hfirst htop hs in
/-- At a point of the table above the first one the discharge is the point's. -/
theorem rateStage_point {q : TablePoint} (hq : q ∈ t) (hat : q.stage = h) (hlow : first.stage < h) :
    (rateStage t h).1 = q.discharge := by
  obtain ⟨i, hi, rfl⟩ := List.mem_iff_getElem.1 hq
  have hlen : 0 < t.length := by omega
  rcases (show i ≤ t.length - 1 by omega).lt_or_eq with hlt | heq
  · have hi' : i + 1 < t.length := by omega
    have habove : h < t[i + 1].stage := hat ▸ (stage_lt_iff hs hi hi').2 (Nat.lt_succ_self i)
    have hbelow : h < top.stage := by
      have := (stage_lt_iff hs hi (by omega : t.length - 1 < t.length)).2 hlt
      rw [getLast_eq_getElem htop hlen] at this
      omega
    rw [(rateStage_within hfirst htop hlen hlow hbelow).1]
    dsimp only
    rw [interpolate_segment hs hi' hat.le habove, risen, hat, sub_self, mul_zero]
    have hzero := roundHalfUp_mul_self 0 (d := t[i + 1].stage - h) (by omega)
    rw [zero_mul] at hzero
    simp [hzero]
  · have hlast : t[i] = top := by simp only [heq, getLast_eq_getElem htop hlen]
    rw [hlast] at hat ⊢
    simp [rateStage_eq hfirst htop, hat, show ¬h ≤ first.stage by omega]

end

/-- Settles O33: the rows of R58 by the table's ends, and R59 within a segment. -/
theorem ratedDischargeBounds : Obligations.RatedDischargeBounds := by
  unfold Obligations.RatedDischargeBounds
  refine ⟨fun r quality => ⟨rfl, rfl, fun v => ?_⟩, fun t first top hfirst htop hlen hs hd h => ?_⟩
  · dsimp only
    rw [← effectiveStage_eq]
    refine ⟨noted_computeDischarge r v quality, fun ht => computeDischarge_noTable ht v quality, fun t ht => ?_⟩
    rw [computeDischarge_table ht]
    exact ⟨rfl, rfl, fun hheld => if_pos hheld, fun hread => if_neg hread, by simp [DischargeResult.reports]⟩
  · have hpos : 0 < t.length := by omega
    have hends : first.stage < top.stage := by
      have := (stage_lt_iff hs hpos (by omega : t.length - 1 < t.length)).2 (by omega)
      rwa [head_eq_getElem hfirst hpos, getLast_eq_getElem htop hpos] at this
    refine ⟨fun hlow => ?zero, fun habove => ?top, fun hlow hhigh => ?within,
      fun before a b after ht hlow ha hb => rateStage_between hfirst htop hs hd ht hlow ha hb,
      fun q hq hat hlow => rateStage_point hfirst htop hs hq hat hlow,
      rateStage_le_top hfirst htop hpos hs hd, fun h' hle => rateStage_mono hfirst htop hpos hs hd hle⟩
    case zero => rw [rateStage_eq hfirst htop, if_pos hlow]
    case top => rw [rateStage_eq hfirst htop, if_neg (by omega), if_pos habove]
    case within => rw [(rateStage_within hfirst htop hpos hlow hhigh).1]

end Sys2Proof.Machine

/-! LOAD_RATING and the shift commands (sections 4.2, 4.4 and 4.5). -/

namespace Sys2Proof.Machine

/-! ### The checks of a load (R55) -/

theorem exec_loadRating (count : Byte) (points : List RatingPoint) (s : State) :
    exec (.loadRating .logger count points) s = execLoadRating .logger count points s := rfl

theorem stagesRise_iff : ∀ t : List TablePoint,
    stagesRise t = true ↔ t.Pairwise fun a b => a.stage < b.stage
  | [] => by simp [stagesRise]
  | [_] => by simp [stagesRise]
  | a :: b :: rest => by
    have : IsTrans TablePoint fun a b => a.stage < b.stage := ⟨fun _ _ _ => lt_trans⟩
    rw [stagesRise, Bool.and_eq_true, decide_eq_true_iff, stagesRise_iff (b :: rest),
      List.pairwise_cons_cons_iff_of_trans]

theorem dischargesRise_iff : ∀ t : List TablePoint,
    dischargesRise t = true ↔ t.Pairwise fun a b => a.discharge ≤ b.discharge
  | [] => by simp [dischargesRise]
  | [_] => by simp [dischargesRise]
  | a :: b :: rest => by
    have : IsTrans TablePoint fun a b => a.discharge ≤ b.discharge := ⟨fun _ _ _ => le_trans⟩
    rw [dischargesRise, Bool.and_eq_true, decide_eq_true_iff, dischargesRise_iff (b :: rest),
      List.pairwise_cons_cons_iff_of_trans]

section
variable {count : Nat} {t : List TablePoint}

theorem loadFault_count (h : count < 2 ∨ 24 < count ∨ count ≠ t.length) : loadFault count t = some 0 := if_pos h

variable (hcount : ¬(count < 2 ∨ 24 < count ∨ count ≠ t.length))

include hcount in
theorem loadFault_range (h : ¬t.all (fun q => inRange (-32000) 32000 q.stage) = true) : loadFault count t = some 1 := by
  simp only [loadFault, hcount, h, Bool.not_false, ↓reduceIte]

variable (hrange : t.all (fun q => inRange (-32000) 32000 q.stage) = true)

include hcount hrange in
theorem loadFault_stages (h : ¬stagesRise t = true) : loadFault count t = some 2 := by
  simp only [loadFault, hcount, hrange, h, Bool.not_true, Bool.not_false, Bool.false_eq_true, ↓reduceIte]

variable (hstages : stagesRise t = true)

include hcount hrange hstages in
theorem loadFault_discharges (h : ¬dischargesRise t = true) : loadFault count t = some 3 := by
  simp only [loadFault, hcount, hrange, hstages, h, Bool.not_true, Bool.not_false, Bool.false_eq_true, ↓reduceIte]

include hcount hrange hstages in
theorem loadFault_none (h : dischargesRise t = true) : loadFault count t = none := by
  simp only [loadFault, hcount, hrange, hstages, h, Bool.not_true, Bool.false_eq_true, ↓reduceIte]

end

theorem tableOf_length (points : List RatingPoint) : (tableOf points).length = points.length := List.length_map ..

theorem tableOf_inRange_iff (points : List RatingPoint) :
    (tableOf points).all (fun q => inRange (-32000) 32000 q.stage) = true
      ↔ ¬∃ q ∈ points, q.stage.toInt < -32000 ∨ 32000 < q.stage.toInt := by
  simp [tableOf, inRange, not_or, not_lt]

/-! ### The recomputation (R60) -/

/-- The rating and the station stage right after a recomputation. -/
def recomputedWith (r : Rating) (s : State) : State :=
  let d := computeDischarge r s.stage.record.value s.stage.record.quality
  (s.withRating (r.noted d)).withStage { s.stage with record := s.stage.record.withDischarge d r.generation }

@[simp] theorem recomputedWith_generation (r : Rating) (s : State) :
    (recomputedWith r s).rating.generation = r.generation := by
  show (r.noted _).generation = r.generation
  unfold Rating.noted
  split <;> rfl

theorem kept_recompute_withRating (r : Rating) (s : State) :
    (recompute (s.withRating r)).kept = (recomputedWith r s).kept := kept_takeBatch _ _

theorem NoCompletion.recompute {s : State} (h : NoCompletion s) : NoCompletion (recompute s) := by
  unfold Machine.recompute
  exact NoCompletion.takeBatch (by exact h) _

theorem kept_settle_recompute {s : State} (hdue : s.due = []) (r : Rating) :
    (settle (recompute (s.withRating r))).kept = (recomputedWith r s).kept := by
  rw [kept_settle _ (NoCompletion.recompute (by exact NoCompletion.of_due_nil hdue)), kept_recompute_withRating]

theorem rating_of_kept {s t : State} (h : s.kept = t.kept) : s.rating = t.rating := by
  have := congrArg State.rating h
  exact this

theorem stage_of_kept {s t : State} (h : s.kept = t.kept) : s.stage = t.stage := by
  have := congrArg State.stage h
  exact this

/-- Settles O31: the checks in their order, and the recomputation of an accepted load. -/
theorem loadRatingJudged : Obligations.LoadRatingJudged := by
  unfold Obligations.LoadRatingJudged
  intro count points s hj
  dsimp only
  have hrefuse : ∀ reason, loadFault count.toNat (tableOf points) = some reason →
      Gives .logger (.loadRating .logger count points) s s { status := .invalid, payload := u8 reason } :=
    fun reason hf => gives_of_work hj (exec_loadRating ..) (by simp only [hf])
  have hlen := tableOf_length points
  have hin := tableOf_inRange_iff points
  have hst : stagesRise (tableOf points) = true ↔ points.Pairwise fun a b => a.stage.toInt < b.stage.toInt :=
    (stagesRise_iff _).trans List.pairwise_map
  have hdi : dischargesRise (tableOf points) = true
      ↔ points.Pairwise fun a b => a.discharge.toNat ≤ b.discharge.toNat :=
    (dischargesRise_iff _).trans List.pairwise_map
  rw [← hlen]
  refine ⟨fun hc => hrefuse 0 (loadFault_count hc), fun hc hr => hrefuse 1 (loadFault_range hc ?_),
    fun hc hr hs => hrefuse 2 (loadFault_stages hc (hin.2 hr) (hst.not.2 hs)),
    fun hc hr hs hd => hrefuse 3 (loadFault_discharges hc (hin.2 hr) (hst.2 (not_not.1 hs)) (hdi.not.2 hd)),
    fun hc hr hs hd => ?_⟩
  · rw [hin, not_not]
    exact hr
  · have hnone := loadFault_none hc (hin.2 hr) (hst.2 (not_not.1 hs)) (hdi.2 (not_not.1 hd))
    let r : Rating :=
      { s.rating with table := some (tableOf points), generation := s.rating.generation + 1, shift := 0 }
    have hkept := kept_settle_recompute hj.2.2 r
    have hrating := rating_of_kept hkept
    refine ⟨settle (recompute (s.withRating r)), gives_of_work hj (exec_loadRating ..) ?_, hrating, hkept⟩
    simp only [hnone]
    refine Prod.ext rfl ?_
    show okWith ([(settle (recompute (s.withRating r))).rating.generation]
      ++ dischargeBytes (settle (recompute (s.withRating r))).stage.record) = _
    rw [hrating, stage_of_kept hkept, recomputedWith_generation, List.append_assoc]
    rfl

/-! ### The shift (R62, R63, R66) -/

theorem exec_setShift (v : U32) (s : State) : exec (.setShift .logger v) s = execSetShift .logger v s := rfl

theorem exec_setShiftLimit (l : U16) (s : State) :
    exec (.setShiftLimit .logger l) s = execSetShiftLimit .logger l s := rfl

theorem exec_applyShift (s : State) : exec (.applyShift .logger) s = execApplyShift .logger s := rfl

theorem clampShift_eq (limit : Nat) (v : Int) : clampShift limit v = max (-(limit : Int)) (min (limit : Int) v) :=
  clampInt_eq_max_min (by omega) v

theorem shiftAnswer_eq (given taken : Int) :
    shiftAnswer given taken = okWith (s32 taken ++ [if taken = given then 0 else 1]) := by
  by_cases h : taken = given <;> simp [shiftAnswer, yes, h]

theorem installShift_eq (v : Int) (s : State) :
    installShift v s = s.withRating { s.rating with shift := clampShift s.rating.shiftLimit v } := rfl

theorem appliedShift_eq_some {r : RunRecord} {shift : Int} {generation : Byte} :
    appliedShift r = some (shift, generation) ↔ ∃ b c, r.body = some b ∧ b.closing = some c
      ∧ c.outcome = .complete ∧ c.status = .available ∧ c.shift = shift ∧ c.generation = generation := by
  unfold appliedShift
  cases r.body with
  | none => simp
  | some b => cases hb : b.closing with
    | none => simp [hb]
    | some c => simp [hb, and_assoc]

theorem appliedShift_eq_none {r : RunRecord} (h : ∀ b c, r.body = some b → b.closing = some c →
    ¬(c.outcome = .complete ∧ c.status = .available)) : appliedShift r = none := by
  rw [Option.eq_none_iff_forall_ne_some]
  rintro ⟨shift, generation⟩ hsome
  obtain ⟨b, c, hb, hc, ho, hs, -⟩ := appliedShift_eq_some.1 hsome
  exact h b c hb hc ⟨ho, hs⟩

/-! ### The derived shift (R64, R65) -/

/-- A segment whose discharges rise and contain the measured one (R65 step 3). -/
def Rises (t : List TablePoint) (q : Int) (i : Nat) (a b : TablePoint) : Prop :=
  t[i]? = some a ∧ t[i + 1]? = some b ∧ (a.discharge : Int) ≤ q ∧ q ≤ b.discharge ∧ a.discharge < b.discharge

/-- The first rising segment that contains the measured discharge gives the rated stage. -/
theorem ratedStage_first {q : Int} : ∀ {t : List TablePoint} {i : Nat} {a b : TablePoint}, Rises t q i a b →
    (∀ j < i, ∀ a' b', ¬Rises t q j a' b') →
    ratedStage t q = some (a.stage
      + roundHalfUp ((b.stage - a.stage) * (q - a.discharge)) ((b.discharge : Int) - a.discharge))
  | [], _, _, _, h, _ => by simp [Rises] at h
  | [_], _, _, _, h, _ => by simp [Rises] at h
  | c :: d :: rest, 0, a, b, h, _ => by
    obtain ⟨ha, hb, hin⟩ := h
    simp only [List.getElem?_cons_zero, List.getElem?_cons_succ, Option.some.injEq] at ha hb
    subst ha hb
    exact if_pos hin
  | c :: d :: rest, i + 1, a, b, h, hfirst => by
    have hnot : ¬((c.discharge : Int) ≤ q ∧ q ≤ d.discharge ∧ c.discharge < d.discharge) :=
      fun hin => hfirst 0 (by omega) c d ⟨rfl, rfl, hin⟩
    rw [ratedStage, if_neg hnot]
    exact ratedStage_first (i := i) h fun j hj a' b' hr => hfirst (j + 1) (by omega) a' b' hr

theorem ratedStage_none {q : Int} : ∀ {t : List TablePoint}, (∀ i a b, ¬Rises t q i a b) → ratedStage t q = none
  | [], _ => rfl
  | [_], _ => rfl
  | c :: d :: rest, hno => by
    rw [ratedStage, if_neg fun hin => hno 0 c d ⟨rfl, rfl, hin⟩]
    exact ratedStage_none fun i a b hr => hno (i + 1) a b hr

/-- The first point that stands for no flow (R65 step 1). -/
def NoFlow (t : List TablePoint) (q : Int) (first : TablePoint) : Prop :=
  t.head? = some first ∧ q = 0 ∧ first.discharge = 0

section
variable {r : Rating} {t : List TablePoint} (ht : r.table = some t) (q mean : Int)

/-- What the rating unit hands back for a rated stage. -/
def foundShift (limit : Nat) (h mean : Int) : DerivedShift :=
  { status := .available, shift := clampShift limit (h - mean)
    clamped := decide (clampShift limit (h - mean) ≠ h - mean) }

include ht in
theorem deriveShift_noFlow {first : TablePoint} (h : NoFlow t q first) :
    deriveShift r q mean = foundShift r.shiftLimit first.stage mean := by
  obtain ⟨hhead, hq, hd⟩ := h
  simp [deriveShift, ht, hhead, hq, hd, foundShift]

include ht in
/-- Without the row of no flow the rated stage is that of the first rising segment. -/
theorem deriveShift_segment (h : ∀ first, ¬NoFlow t q first) :
    deriveShift r q mean = match ratedStage t q with
      | none => { status := .outOfRating, shift := 0, clamped := false }
      | some h => foundShift r.shiftLimit h mean := by
  cases hhead : t.head? with
  | none =>
    simp only [deriveShift, ht, hhead]
    rfl
  | some first =>
    have hz : ¬(q = 0 ∧ first.discharge = 0) := fun hz => h first ⟨hhead, hz⟩
    simp only [deriveShift, ht, hhead, hz, ↓reduceIte]
    rfl

end

theorem kept_settle_installShift {s : State} (hdue : s.due = []) (v : Int) :
    (settle (recompute (installShift v s))).kept
      = (recomputedWith { s.rating with shift := clampShift s.rating.shiftLimit v } s).kept := by
  rw [installShift_eq, kept_settle_recompute hdue]

/-- Settles O32: each command installs a clamped shift, and the derived shift is that of the rated stage. -/
theorem shiftsInstalled : Obligations.ShiftsInstalled := by
  unfold Obligations.ShiftsInstalled
  simp only [← clampShift_eq]
  refine ⟨fun v s hj => ?set, fun l s hj => ⟨fun hl => ?limit, fun hl => ?beyond⟩,
    fun s hj => ⟨fun b c hb hc ho hs => ?applied, fun hno => ?state⟩, fun r q mean => ⟨fun ht => ?noTable,
      fun t ht => ⟨fun first hflow => ?noFlow, fun i a b hflow hrise hfirst => ?rated, fun hflow hno => ?out⟩⟩⟩
  case set =>
    refine ⟨_, gives_of_work hj (exec_setShift v s) (by rw [shiftAnswer_eq]), ?_⟩
    exact kept_settle_installShift hj.2.2 v.toInt
  case limit =>
    refine ⟨settle (setShiftLimit l.toNat s), gives_of_work hj (exec_setShiftLimit l s) (if_pos hl),
      fun heq => ?same, fun hne => ?changed⟩
    case same =>
      rw [setShiftLimit, if_pos heq]
      exact settle_of_due_nil _ (by exact hj.2.2)
    case changed =>
      rw [setShiftLimit, if_neg hne]
      exact kept_settle_recompute hj.2.2 _
  case beyond => exact gives_of_work hj (exec_setShiftLimit l s) (if_neg (by omega))
  case applied =>
    have happ : appliedShift s.run = some (c.shift, c.generation) :=
      appliedShift_eq_some.2 ⟨b, c, hb, hc, ho, hs, rfl, rfl⟩
    refine ⟨fun hgen => ⟨settle (recompute (installShift c.shift s)), ?_, ?_⟩, fun hgen => ?_⟩
    · exact gives_of_work hj (exec_applyShift s) (by simp [happ, hgen, shiftAnswer_eq])
    · exact kept_settle_installShift hj.2.2 c.shift
    · exact gives_of_work hj (exec_applyShift s) (by simp [happ, hgen])
  case state => exact gives_of_work hj (exec_applyShift s) (by simp [appliedShift_eq_none hno])
  case noTable => simp [deriveShift, ht]
  case noFlow => exact deriveShift_noFlow ht q mean hflow
  case rated =>
    refine ⟨_, (deriveShift_segment ht q mean hflow).trans (by rw [ratedStage_first hrise hfirst]; rfl), ?_⟩
    obtain ⟨-, -, -, -, hlt⟩ := hrise
    rw [add_sub_cancel_left]
    exact halfUp_roundHalfUp _ (by omega)
  case out => exact (deriveShift_segment ht q mean hflow).trans (by rw [ratedStage_none hno])

end Sys2Proof.Machine

/-! What the hand-ons of a step reach: a record entry, a batch, a round and a change of L leave everything but the
warning, the schedule with the channels it revises, the record, the fault unit, the ports' events and the agenda. -/

namespace Sys2Proof.Machine

/-- The part of the state that no round, entry, batch or change of L touches; everything else stands at its reset
value. -/
def State.steady (s : State) : State :=
  { s with
    schedule := State.reset.schedule, chans := State.reset.chans, warning := State.reset.warning
    record := State.reset.record, faults := State.reset.faults, ports := State.reset.ports, due := [] }

section
variable (s : State)

@[simp] theorem steady_withSchedule (x : Schedule) : (s.withSchedule x).steady = s.steady := rfl
@[simp] theorem steady_withChans (x : PerChan Channel) : (s.withChans x).steady = s.steady := rfl
@[simp] theorem steady_withWarning (x : Warning) : (s.withWarning x).steady = s.steady := rfl
@[simp] theorem steady_withRecord (x : Record) : (s.withRecord x).steady = s.steady := rfl
@[simp] theorem steady_withFaults (x : FaultUnit) : (s.withFaults x).steady = s.steady := rfl
@[simp] theorem steady_withPorts (x : PerPort PortUnit) : (s.withPorts x).steady = s.steady := rfl
@[simp] theorem steady_withDue (x : List Work) : (s.withDue x).steady = s.steady := rfl
@[simp] theorem steady_owe (w : List Work) : (s.owe w).steady = s.steady := rfl
@[simp] theorem steady_raiseEvent (e : Event) : (raiseEvent e s).steady = s.steady := rfl

@[simp] theorem steady_takeBatch (rs : List Report) : (takeBatch rs s).steady = s.steady := by
  simp only [takeBatch]
  split <;> rfl

@[simp] theorem steady_append (e : Entry) : (append e s).steady = s.steady := by
  obtain ⟨_, _, _, _, h⟩ := append_only e s
  simp [h]

@[simp] theorem steady_decideMode : (decideMode s).steady = s.steady := by
  obtain ⟨_, _, h⟩ := decideMode_only s
  simp [h]

@[simp] theorem steady_sirenOff : (sirenOff s).steady = s.steady := by
  unfold sirenOff
  split <;> simp

@[simp] theorem steady_sirenOnRise : (sirenOnRise s).steady = s.steady := by
  simp only [sirenOnRise]
  split
  · split <;> simp
  · rfl

@[simp] theorem steady_sirenOnFall : (sirenOnFall s).steady = s.steady := by
  unfold sirenOnFall
  split <;> simp

@[simp] theorem steady_changeLevel (n : Nat) (c : WarningCause) : (changeLevel n c s).steady = s.steady := by
  simp only [changeLevel, steady_raiseEvent]
  split <;> simp

@[simp] theorem steady_computeLevel (b : Bool) : (computeLevel b s).steady = s.steady := by
  rcases computeLevel_cases s b with ⟨c, -, -, h⟩ | ⟨h', -, -, h⟩ <;> rw [h] <;> simp

@[simp] theorem steady_faultRound (word : U32) : (faultRound word s).steady = s.steady := by
  simp [faultRound, evaluateRound]

@[simp] theorem steady_stageRound : (stageRound s).steady = s.steady := by
  simp [stageRound, evaluateRound]

variable {s}

/-- A permit that is not OPEN has nothing to test. -/
theorem permitTest_shut (h : s.permit.record.state ≠ .open_) : permitTest s = s := if_neg h

theorem steady_permit {s t : State} (h : s.steady = t.steady) : s.permit = t.permit := by
  have := congrArg State.permit h
  exact this

theorem steady_run {s t : State} (h : s.steady = t.steady) : s.run = t.run := by
  have := congrArg State.run h
  exact this

theorem steady_cableway {s t : State} (h : s.steady = t.steady) : s.cableway = t.cableway := by
  have := congrArg State.cableway h
  exact this

theorem steady_working {s t : State} (h : s.steady = t.steady) : s.working = t.working := by
  have := congrArg State.working h
  exact this

theorem steady_doWork (hp : s.permit.record.state ≠ .open_) {w : Work} (hw : w ≠ .completion) :
    (doWork w s).steady = s.steady := by
  cases w with
  | batch rs => exact steady_takeBatch s rs
  | faultRound word => exact steady_faultRound s word
  | stageRound => exact steady_stageRound s
  | permitTest => rw [doWork, permitTest_shut hp]
  | sampleEntry time cause => exact steady_append s _
  | completion => exact absurd rfl hw

/-- What every hand-on but a completion keeps, making a step whole keeps where no completion is owed. -/
theorem settle_keeps_uncompleted (P : State → Prop) (hdue : ∀ s ws, P s → P (s.withDue ws))
    (hwork : ∀ s w, w ≠ .completion → P s → P (doWork w s)) (hn : NoCompletion s) (h : P s) : P (settle s) := by
  have hdrain : ∀ (n : Nat) (s : State), NoCompletion s → P s → P (drain n s) := by
    intro n
    induction n with
    | zero => exact fun s _ h => h
    | succ n ih =>
      intro s hn h
      simp only [drain]
      split
      · exact h
      · rename_i w rest e
        obtain ⟨hw, hrest⟩ : w ≠ .completion ∧ Work.completion ∉ rest := by
          rw [NoCompletion, e, List.mem_cons, not_or] at hn
          exact ⟨fun he => hn.1 he.symm, hn.2⟩
        have hdone : NoCompletion (doWork w (s.withDue [])) :=
          NoCompletion.doWork (s := s.withDue []) (by simp [NoCompletion]) w hw
        refine ih _ ?_ (hdue _ _ (hwork _ w hw (hdue _ _ h)))
        exact fun hm => (List.mem_append.1 hm).elim hdone hrest
  exact hdue _ _ (hdrain 400 s hn h)

/-- With the permit not OPEN and no completion owed, making a step whole leaves the steady part. -/
theorem steady_settle (hp : s.permit.record.state ≠ .open_) (hn : NoCompletion s) :
    (settle s).steady = s.steady :=
  settle_keeps_uncompleted (fun t => t.steady = s.steady) (fun _ _ h => h)
    (fun t w hw h => (steady_doWork (by rwa [steady_permit h]) hw).trans h) hn rfl

end

/-! ### The permit's change (R162) and the mode (R7) -/

@[simp] theorem decideMode_ports (s : State) : (decideMode s).ports = s.ports := by
  obtain ⟨_, _, h⟩ := decideMode_only s
  simp [h]

@[simp] theorem decideMode_record (s : State) : (decideMode s).record = s.record := by
  obtain ⟨_, _, h⟩ := decideMode_only s
  simp [h]

@[simp] theorem decideMode_permit (s : State) : (decideMode s).permit = s.permit := by
  obtain ⟨_, _, h⟩ := decideMode_only s
  simp [h]

@[simp] theorem decideMode_faults (s : State) : (decideMode s).faults = s.faults := by
  obtain ⟨_, _, h⟩ := decideMode_only s
  simp [h]

/-- The mode decided is the mode of the state decided upon (R7). -/
@[simp] theorem decideMode_mode (s : State) : (decideMode s).schedule.mode = modeNow s := by
  unfold decideMode
  split
  · rename_i h
    exact h.symm
  · obtain ⟨preWarm, h⟩ := placeDue_schedule (s.withSchedule { s.schedule with mode := modeNow s })
    rw [h]
    rfl

/-- The permit record of a change at this moment. -/
def changedPermit (st : PermitState) (cause : PermitCause) (s : State) : PermitRecord :=
  { state := st, cause := cause, time := s.time.station }

theorem permitChange_of_ne {st : PermitState} {s : State} (h : s.permit.record.state ≠ st) (cause : PermitCause) :
    permitChange st cause s
      = decideMode (raisePermit (changedPermit st cause s)
          (s.withPermit { s.permit with record := changedPermit st cause s })) := if_neg h

section
variable {st : PermitState} {s : State} (h : s.permit.record.state ≠ st) (cause : PermitCause)

include h in
theorem permitChange_permit :
    (permitChange st cause s).permit = { s.permit with record := changedPermit st cause s } := by
  rw [permitChange_of_ne h, decideMode_permit]
  rfl

include h in
theorem permitChange_mode : (permitChange st cause s).schedule.mode
    = modeNow (s.withPermit { s.permit with record := changedPermit st cause s }) := by
  rw [permitChange_of_ne h, decideMode_mode]
  rfl

include h in
/-- A change of the permit's state is an event with the permit's copy, but for the logger port (R162, R192). -/
theorem permitChange_raises {p : Port} (hp : p ≠ .logger) :
    ((permitChange st cause s).ports.get p).events.permit = true
      ∧ ((permitChange st cause s).ports.get p).permitCopy = some (changedPermit st cause s) := by
  rw [permitChange_of_ne h, decideMode_ports]
  cases p with
  | logger => exact absurd rfl hp
  | cableway => exact ⟨rfl, rfl⟩
  | warning => exact ⟨rfl, rfl⟩

end

@[simp] theorem permitChange_working (st : PermitState) (cause : PermitCause) (s : State) :
    (permitChange st cause s).working = s.working := by
  obtain ⟨_, _, _, _, h⟩ := permitChange_only st cause s
  simp [h]

@[simp] theorem permitChange_cableway (st : PermitState) (cause : PermitCause) (s : State) :
    (permitChange st cause s).cableway = s.cableway := by
  obtain ⟨_, _, _, _, h⟩ := permitChange_only st cause s
  simp [h]

@[simp] theorem permitChange_recordUnit (st : PermitState) (cause : PermitCause) (s : State) :
    (permitChange st cause s).record = s.record := by
  obtain ⟨_, _, _, _, h⟩ := permitChange_only st cause s
  simp [h]

@[simp] theorem permitChange_stage (st : PermitState) (cause : PermitCause) (s : State) :
    (permitChange st cause s).stage = s.stage := by
  obtain ⟨_, _, _, _, h⟩ := permitChange_only st cause s
  simp [h]

/-! ### The close of the run (R157) -/

theorem closeRun_of_open {s : State} {b : RunBody} (hb : s.run.openBody = some b) (o : RunOutcome) :
    closeRun o s
      = append (.run (runEntry s.run.number b (closingOf s.rating b o s.time.station)))
          (clearWorking (s.withRun
            { s.run with body := some { b with closing := some (closingOf s.rating b o s.time.station) } })) := by
  simp only [closeRun, hb]

/-- An append with room in the record places the entry and settles the readers' RECORD events. -/
theorem append_of_not_full {s : State} (h : s.record.full = false) (e : Entry) :
    append e s = syncRecord (s.withRecord (s.record.placeOrRenumber e s.time.station)) := by
  simp [append, h]

end Sys2Proof.Machine

/-! The gauging run's commands (chapter 8): OPEN_RUN and the stack. -/

namespace Sys2Proof.Machine

/-! ### OPEN_RUN (R142, R164, R165) -/

theorem exec_openRun (m : OpenRunPayload) (s : State) :
    exec (.openRun .cableway m) s = execOpenRun .cableway m s := rfl

theorem meterFits_iff (m : OpenRunPayload) : meterFits m = true ↔
    m.a.toNat ≤ 1000 ∧ (1 ≤ m.b.toNat ∧ m.b.toNat ≤ 2000000) ∧ (1 ≤ m.ppr.toNat ∧ m.ppr.toNat ≤ 20)
      ∧ m.unsteady.toNat ≤ 1000 := by
  simp only [meterFits, inRange, Bool.and_eq_true, decide_eq_true_eq]
  omega

/-- The conditions for the grant, in the order of their codes (R164). -/
def grantConditions (s : State) : List Prop :=
  [ s.permit.record.state = .closed, s.cableway.referenced = true, s.cableway.loadTrip.passed = false,
    s.stage.record.quality = .good ∨ s.stage.record.quality = .suspect,
    s.permit.level = 0 ∨ s.warning.level < s.permit.level,
    s.permit.rate = 0 ∨ (s.stage.record.rateValid = true ∧ s.stage.record.rate < s.permit.rate),
    ∀ limit v, s.permit.stage = some limit → s.stage.record.value = some v → v < limit ]

open Classical in
/-- The code of the first condition of a list that fails, the first of them having code `n`. -/
noncomputable def firstFault : Nat → List Prop → Option Nat
  | _, [] => none
  | n, p :: ps => if p then firstFault (n + 1) ps else some n

theorem firstFault_none : ∀ {n : Nat} {ps : List Prop}, (∀ p ∈ ps, p) → firstFault n ps = none
  | _, [], _ => rfl
  | _, p :: ps, h => by
    rw [firstFault, if_pos (h p List.mem_cons_self)]
    exact firstFault_none fun q hq => h q (List.mem_cons_of_mem p hq)

theorem firstFault_some : ∀ {n k : Nat} {ps : List Prop} (hk : k < ps.length), (∀ p ∈ ps.take k, p) → ¬ps[k] →
    firstFault n ps = some (n + k)
  | _, 0, p :: ps, _, _, hnot => if_neg hnot
  | n, k + 1, p :: ps, hk, hbefore, hnot => by
    rw [List.take_succ_cons, List.forall_mem_cons] at hbefore
    rw [firstFault, if_pos hbefore.1, firstFault_some (Nat.lt_of_succ_lt_succ hk) hbefore.2 hnot]
    simp only [Option.some.injEq]
    omega

/-- A test that refuses exactly where the condition fails is the condition's part in the chain. -/
theorem ite_eq_firstFault {p q : Prop} [Decidable q] {n : Nat} {ps : List Prop} {x : Option Nat} (hq : q ↔ ¬p)
    (hx : x = firstFault (n + 1) ps) : (if q then some n else x) = firstFault n (p :: ps) := by
  by_cases hp : p
  · rw [if_neg (by simp [hq, hp]), hx, firstFault, if_pos hp]
  · rw [if_pos (hq.2 hp), firstFault, if_neg hp]

/-- The grant's tests are its conditions, in their order. -/
theorem grantFault_eq (s : State) : grantFault s = firstFault 0 (grantConditions s) := by
  unfold grantFault
  refine ite_eq_firstFault (by simp) (ite_eq_firstFault (by simp) (ite_eq_firstFault (by simp)
    (ite_eq_firstFault (by simp) (ite_eq_firstFault (by simp) (ite_eq_firstFault (by simp) ?_)))))
  cases hl : s.permit.stage with
  | none => exact (firstFault_none (by simp)).symm
  | some l => cases hv : s.stage.record.value with
    | none => exact (firstFault_none (by simp)).symm
    | some v => exact ite_eq_firstFault (by simp) rfl

theorem u8_permitStateCode (x : PermitState) : u8 (permitStateCode x) = [BitVec.ofNat 8 (permitStateCode x)] := by
  cases x <;> rfl

/-- Settles O51: the grant's tests in their order, and the run and the permit opened together. -/
theorem runOpens : Obligations.RunOpens := by
  unfold Obligations.RunOpens
  intro m s hj
  dsimp only
  rw [← meterFits_iff]
  refine ⟨fun hf => ?range, fun hf hop => ?busy, fun hf hop k hk hbefore hnot => ?refused,
    fun hf hop hall => ?granted⟩
  case range => exact gives_of_work hj (exec_openRun m s) (by simp [hf])
  case busy => exact gives_of_work hj (exec_openRun m s) (by simp [hf, hop, Option.isSome_iff_ne_none])
  case refused =>
    have hfault : grantFault s = some k := by
      rw [grantFault_eq, firstFault_some (ps := grantConditions s) hk hbefore hnot, zero_add]
    have hcode : u8 k = [BitVec.ofNat 8 k] := by
      have hk' : k < 7 := hk
      interval_cases k <;> rfl
    refine gives_of_work hj (exec_openRun m s) ?_
    simp [hf, hop, hfault, hcode, u8_permitStateCode]
  case granted =>
    have hfault : grantFault s = none := by
      rw [grantFault_eq, firstFault_none (by exact hall)]
    have hne : (clearWorking (s.withRun (openedRun m s))).permit.record.state ≠ .open_ := by
      have hclosed : s.permit.record.state = .closed := hall _ (by simp)
      rw [show (clearWorking (s.withRun (openedRun m s))).permit = s.permit from rfl, hclosed]
      decide
    have hpermit := permitChange_permit hne .granted
    have hrun : (grantRun m s).run = openedRun m s := by
      rw [grantRun, permitChange_run]
      rfl
    have hstage : (grantRun m s).stage = s.stage := by
      rw [grantRun, permitChange_stage]
      rfl
    have hdue : (grantRun m s).due = [] := by
      rw [grantRun, due_permitChange]
      exact hj.2.2
    refine ⟨grantRun m s, gives_of_work hj (exec_openRun m s) ?answer, hrun, ?working, ?cableway, hpermit, ?mode,
      fun p hp => ?raised, ?kept⟩
    case answer =>
      simp only [hf, hop, hfault, settle_of_due_nil _ hdue]
      refine Prod.ext rfl ?_
      simp only [grantAnswer]
      rw [hrun, show (grantRun m s).permit = _ from hpermit, hstage, u8_permitStateCode]
      simp only [openedRun, absentZero, absentTime, changedPermit]
      simp [permitStateCode]
    case working => rw [grantRun, permitChange_working]; rfl
    case cableway => rw [grantRun, permitChange_cableway]; rfl
    case mode =>
      rw [grantRun, permitChange_mode hne, modeNow_eq_fast_iff]
      exact .inr (.inl rfl)
    case raised => rw [grantRun, hpermit]; exact permitChange_raises hne .granted hp
    case kept => rw [grantRun, kept_permitChange]; rfl

/-! ### The working vertical and the stack (R144 to R149) -/

/-- The newest observation at a fraction is the last of them (R146). -/
theorem Working.newestAt_eq_some_iff {w : Working} {fraction : Nat} {o : Observation} :
    w.newestAt fraction = some o ↔ ∃ before later, w.observations = before ++ o :: later ∧ o.fraction = fraction
      ∧ ∀ o' ∈ later, o'.fraction ≠ fraction := by
  rw [Working.newestAt, List.find?_eq_some_iff_append]
  constructor
  · rintro ⟨hf, as, bs, heq, hno⟩
    refine ⟨bs.reverse, as.reverse, ?_, by simpa using hf, fun o' ho' => by simpa using hno o' (by simpa using ho')⟩
    rw [← List.reverse_reverse w.observations, heq]
    simp
  · rintro ⟨before, later, heq, hf, hno⟩
    exact ⟨by simpa using hf, later.reverse, before.reverse, by simp [heq],
      fun o' ho' => by simpa using hno o' (by simpa using ho')⟩

theorem liesBeyond_empty {b : RunBody} (h : b.stack = []) (d : Int) : liesBeyond b d = false := by
  simp [liesBeyond, h]

theorem liesBeyond_iff {b : RunBody} {newest : StackItem} (h : b.stack.getLast? = some newest) (d : Int) :
    liesBeyond b d = true ↔ match b.direction with
      | .ascending => newest.distance < d
      | .descending => d < newest.distance
      | .unset => d ≠ newest.distance := by
  cases hd : b.direction <;> simp [liesBeyond, h, hd]

theorem stackClosed_iff {st : List StackItem} :
    stackClosed st = true ↔ ∃ i, st.getLast? = some i ∧ i.kind = .finish := by
  unfold stackClosed
  cases hl : st.getLast? with
  | none => simp
  | some i => cases hk : i.kind <;> simp [hk, ItemKind.isFinish]

theorem stackShut_iff {b : RunBody} :
    stackShut b = true ↔ 40 ≤ b.stack.length ∨ ∃ i, b.stack.getLast? = some i ∧ i.kind = .finish := by
  rw [stackShut, Bool.or_eq_true, stackClosed_iff, decide_eq_true_iff, or_comm]

theorem stack_ne_nil {st : List StackItem} {newest : StackItem} (h : st.getLast? = some newest) : st ≠ [] := by
  rintro rfl
  simp at h

theorem not_stackShut {b : RunBody} {newest : StackItem} (h : b.stack.getLast? = some newest)
    (hk : newest.kind ≠ .finish) (hlen : b.stack.length < 40) : ¬stackShut b = true := by
  rw [stackShut_iff, h]
  rintro (hfull | ⟨i, hi, hkind⟩)
  · omega
  · exact hk (Option.some.inj hi ▸ hkind)

/-- The push of an item, with the direction that a second item sets (R149). -/
theorem RunBody.push_eq (b : RunBody) (i : StackItem) : b.push i
    = { b with
        stack := b.stack ++ [i]
        direction := match b.stack with
          | [first] => if first.distance < i.distance then .ascending else .descending
          | _ => b.direction } := by
  unfold RunBody.push
  match b.stack with
  | [] => rfl
  | [_] => rfl
  | _ :: _ :: _ => rfl

theorem RunBody.pop_eq (b : RunBody) : b.pop
    = { b with stack := b.stack.dropLast
               direction := if b.stack.length ≤ 2 then .unset else b.direction } := by
  simp only [RunBody.pop, List.length_dropLast, Nat.sub_le_iff_le_add]

/-! ### The run commands' common checks (R148) -/

section
variable {c : Instr} {s u : State} {a : Answer} {work : RunBody → State → State × Answer}
  (hj : Judged .cableway c s) (he : exec c s = command .cableway c (onOpenRun work) s)

include hj he

theorem gives_of_noRun (h : s.run.openBody = none) : Gives .cableway c s s (plain .state) :=
  gives_of_work hj he (by simp only [onOpenRun, h])

theorem gives_of_runBusy (h : s.run.openBody ≠ none) (hop : s.cableway.op ≠ none) :
    Gives .cableway c s s (plain .busy) := by
  obtain ⟨b, hb⟩ := Option.ne_none_iff_exists'.1 h
  refine gives_of_work hj he ?_
  simp only [onOpenRun, hb, Option.isSome_iff_ne_none.2 hop, ↓reduceIte]

theorem gives_of_runWork {b : RunBody} (hb : s.run.openBody = some b) (hop : s.cableway.op = none)
    (hw : work b s = (u, a)) : Gives .cableway c s u a := by
  refine gives_of_work hj he ?_
  simp only [onOpenRun, hb, hop, Option.isSome_none, Bool.false_eq_true, ↓reduceIte, hw]

end

/-- The work of ADD_EDGE on the open run (R150). -/
def addEdgeWork (kind : Byte) (depth : U16) (b : RunBody) (s : State) : State × Answer :=
  match edgeOf kind with
  | none => (s, plain .range)
  | some k =>
    if 30000 < depth.toNat then (s, plain .range)
    else match edgeRefusal k b s.cableway.x with
      | some st => (s, plain st)
      | none => (withBody (b.push (edgeItem k s.cableway.x depth.toNat)) s,
          okWith (u8 b.stack.length ++ s32 s.cableway.x))

theorem exec_addEdge (kind : Byte) (depth : U16) (s : State) : exec (.addEdge .cableway kind depth) s
    = command .cableway (.addEdge .cableway kind depth) (onOpenRun (addEdgeWork kind depth)) s := by
  rfl


/-- The work of ACCEPT_VERTICAL on the open run (R151). -/
def acceptWork (method : Byte) (b : RunBody) (s : State) : State × Answer :=
  match methodOf method with
  | none => (s, plain .range)
  | some m =>
    if stackShut b then (s, plain .state)
    else
      match s.working.sounding, methodResult m s.working with
      | some x, some r =>
        if b.stack.isEmpty || !liesBeyond b x.x then (s, plain .order)
        else
          let i := verticalItem m x r s.stage.record
          (clearWorking (withBody (b.push i) s),
            okWith (u8 b.stack.length ++ s32 i.distance ++ beU 2 i.depth ++ u16 i.velocity
              ++ itemMarks i ++ itemStage i))
      | some _, none => (s, { status := .missing, payload := wanting m s.working })
      | none, _ => (s, { status := .missing, payload := wanting m s.working })

theorem exec_acceptVertical (method : Byte) (s : State) : exec (.acceptVertical .cableway method) s
    = command .cableway (.acceptVertical .cableway method) (onOpenRun (acceptWork method)) s := by
  rfl

/-- The work of DISCARD_LAST on the open run (R152). -/
def discardWork (b : RunBody) (s : State) : State × Answer :=
  match b.stack.getLast? with
  | none => (s, plain .state)
  | some i => (withBody b.pop s, okWith (u8 (itemKindCode i.kind) ++ u8 (b.stack.length - 1)))

theorem exec_discardLast (s : State) : exec (.discardLast .cableway) s
    = command .cableway (.discardLast .cableway) (onOpenRun discardWork) s := by
  rfl

/-- The work of CLOSE_RUN on the open run (R153). -/
def closeWork (abandon : Byte) (b : RunBody) (s : State) : State × Answer :=
  let finish (outcome : RunOutcome) : State × Answer :=
    (settle (closeByCommand outcome s), closeAnswer (closingOf s.rating b outcome s.time.station))
  if yesByte abandon then finish .abandonedOperator
  else
    match completeFault b.stack with
    | some code => (s, { status := .state, payload := u8 code })
    | none => finish .complete

theorem exec_closeRun (abandon : Byte) (s : State) : exec (.closeRun .cableway abandon) s
    = command .cableway (.closeRun .cableway abandon) (onOpenRun (closeWork abandon)) s := by
  rfl

/-! ### Edges (R150) -/

section
variable {b : RunBody} {s : State} {depth : U16}

theorem addEdgeWork_range {kind : Byte} (h : 1 < kind.toNat ∨ 30000 < depth.toNat) :
    addEdgeWork kind depth b s = (s, plain .range) := by
  unfold addEdgeWork
  cases hk : edgeOf kind with
  | none => rfl
  | some k =>
    have hle : kind.toNat ≤ 1 := by
      unfold edgeOf at hk
      split at hk
      · simp [*]
      · split at hk
        · simp [*]
        · simp at hk
    exact if_pos (by omega)

theorem addEdgeWork_start (hd : depth.toNat ≤ 30000) : addEdgeWork 0 depth b s
    = if b.stack = [] then
        (withBody (b.push (edgeItem .start s.cableway.x depth.toNat)) s, okWith (u8 b.stack.length ++ s32 s.cableway.x))
      else (s, plain .order) := by
  cases hst : b.stack <;>
    simp [addEdgeWork, edgeOf, edgeRefusal, ItemKind.isStart, hst, not_lt.2 hd]

theorem addEdgeWork_finish (hd : depth.toNat ≤ 30000) : addEdgeWork 1 depth b s
    = if b.stack = [] then (s, plain .order)
      else if stackShut b then (s, plain .state)
      else if liesBeyond b s.cableway.x = false then (s, plain .order)
      else (withBody (b.push (edgeItem .finish s.cableway.x depth.toNat)) s,
        okWith (u8 b.stack.length ++ s32 s.cableway.x)) := by
  have hkind : edgeOf 1 = some .finish := rfl
  simp only [addEdgeWork, hkind, not_lt.2 hd, ↓reduceIte, edgeRefusal, ItemKind.isStart, Bool.false_eq_true,
    List.isEmpty_iff, Bool.not_eq_true']
  by_cases hst : b.stack = []
  · simp [hst]
  · by_cases hshut : stackShut b = true
    · simp [hst, hshut]
    · by_cases hl : liesBeyond b s.cableway.x = false <;> simp [hst, hshut, hl]

end

/-! ### Verticals (R151) -/

theorem methodOf_above : ∀ {method : Byte}, 2 < method.toNat → methodOf method = none := by decide

theorem methodOf_within {method : Byte} (h : method.toNat ≤ 2) : ∃ m, methodOf method = some m := by
  have hsome : ∀ b : Byte, b.toNat ≤ 2 → (methodOf b).isSome = true := by decide
  exact Option.isSome_iff_exists.1 (hsome method h)

theorem methodOf_eq_some_iff {method : Byte} {m : Method} : methodOf method = some m ↔
    (method = 0 ∧ m = .onePoint) ∨ (method = 1 ∧ m = .twoPoint) ∨ (method = 2 ∧ m = .none) := by
  unfold methodOf
  by_cases h0 : method = 0
  · simp [h0, eq_comm (a := m)]
  · by_cases h1 : method = 1
    · simp [h1, eq_comm (a := m)]
    · by_cases h2 : method = 2
      · simp [h2, eq_comm (a := m)]
      · simp only [h0, h1, h2, ↓reduceIte, false_and, or_self, reduceCtorEq]

/-- What a method lacks, as the sum of the marks' weights (11.4). -/
def wantingNumber (m : Method) (w : Working) : Int :=
  weigh w.sounding.isNone 1 + weigh (decide (m = .onePoint) && (w.newestAt 60).isNone) 2
    + weigh (decide (m = .twoPoint) && (w.newestAt 20).isNone) 4
    + weigh (decide (m = .twoPoint) && (w.newestAt 80).isNone) 8

theorem wantingNumber_eq {method : Byte} {m : Method} (hm : methodOf method = some m) (w : Working) :
    weigh w.sounding.isNone 1 + weigh (decide (method = 0) && (w.newestAt 60).isNone) 2
        + weigh (decide (method = 1) && (w.newestAt 20).isNone) 4
        + weigh (decide (method = 1) && (w.newestAt 80).isNone) 8
      = wantingNumber m w := by
  rcases methodOf_eq_some_iff.1 hm with ⟨rfl, rfl⟩ | ⟨rfl, rfl⟩ | ⟨rfl, rfl⟩ <;> rfl

theorem wanting_eq (m : Method) (w : Working) : wanting m w = [BitVec.ofInt 8 (wantingNumber m w)] := by
  rw [wantingNumber, weigh_add_weigh, bitNumber_add_weigh (by rfl), List.cons_append, List.cons_append,
    List.nil_append, bitNumber_add_weigh (by rfl), bitNumber_eq, BitVec.ofInt_natCast]
  rfl

theorem methodResult_eq_none_iff {m : Method} {w : Working} : methodResult m w = none ↔
    (m = .onePoint ∧ w.newestAt 60 = none)
      ∨ (m = .twoPoint ∧ (w.newestAt 20 = none ∨ w.newestAt 80 = none)) := by
  cases m with
  | onePoint => simp [methodResult]
  | twoPoint => cases h20 : w.newestAt 20 <;> cases h80 : w.newestAt 80 <;> simp [methodResult, h20, h80]
  | none => simp [methodResult]

/-- Nothing is wanting exactly where the sounding and the method's observations are there. -/
theorem wantingNumber_eq_zero_iff {m : Method} {w : Working} :
    wantingNumber m w = 0 ↔ w.sounding ≠ none ∧ methodResult m w ≠ none := by
  have hzero : ∀ b c d e : Bool, weigh b 1 + weigh c 2 + weigh d 4 + weigh e 8 = 0
      ↔ b = false ∧ c = false ∧ d = false ∧ e = false := by decide
  rw [wantingNumber, hzero, Ne, Ne, methodResult_eq_none_iff]
  cases m <;> simp [not_or, Option.isSome_iff_ne_none]

section
variable {b : RunBody} {s : State} {method : Byte} {m : Method} (hm : methodOf method = some m)

include hm

theorem acceptWork_shut (h : stackShut b = true) : acceptWork method b s = (s, plain .state) := by
  simp only [acceptWork, hm, h, ↓reduceIte]

theorem acceptWork_missing (h : stackShut b = false) (hw : wantingNumber m s.working ≠ 0) :
    acceptWork method b s = (s, { status := .missing, payload := wanting m s.working }) := by
  simp only [acceptWork, hm, h, Bool.false_eq_true, ↓reduceIte]
  rw [Ne, wantingNumber_eq_zero_iff] at hw
  cases hx : s.working.sounding with
  | none => rfl
  | some x => cases hr : methodResult m s.working with
    | none => rfl
    | some r => exact absurd ⟨by simp [hx], by simp [hr]⟩ hw

variable {x : Sounding} {r : Nat × Bool × Bool} (h : stackShut b = false) (hx : s.working.sounding = some x)
  (hr : methodResult m s.working = some r)

include h hx hr

theorem acceptWork_order (hl : b.stack = [] ∨ liesBeyond b x.x = false) :
    acceptWork method b s = (s, plain .order) := by
  simp only [acceptWork, hm, h, hx, hr, Bool.false_eq_true, ↓reduceIte, Bool.or_eq_true, List.isEmpty_iff,
    Bool.not_eq_true', hl]

theorem acceptWork_pushes (hst : b.stack ≠ []) (hl : liesBeyond b x.x = true) :
    acceptWork method b s
      = (clearWorking (withBody (b.push (verticalItem m x r s.stage.record)) s),
        okWith (u8 b.stack.length ++ s32 x.x ++ beU 2 x.d ++ u16 r.1
          ++ itemMarks (verticalItem m x r s.stage.record) ++ itemStage (verticalItem m x r s.stage.record))) := by
  simp only [acceptWork, hm, h, hx, hr, Bool.false_eq_true, ↓reduceIte, Bool.or_eq_true, List.isEmpty_iff,
    Bool.not_eq_true', hst, hl, Bool.true_eq_false, or_self]
  rfl

end

/-- The answer to an accepted vertical (11.4). -/
theorem verticalAnswer_laid (n : Nat) (i : StackItem) :
    Laid (u8 n ++ s32 i.distance ++ beU 2 i.depth ++ u16 i.velocity ++ itemMarks i ++ itemStage i) 16
      [unsignedField 0 1 n, signedField 1 4 i.distance, unsignedField 5 2 i.depth, unsignedField 7 2 i.velocity,
        unsignedField 9 1 (weigh i.low 1 + weigh i.saturated 2 + weigh i.stage.isSome 4),
        signedField 10 2 (i.stage.elim 0 fun h => h.1), unsignedField 12 4 (i.stage.elim 0 fun h => h.2.toNat)] := by
  refine LaidFrom.laid (LaidFrom.closed ?_) fun g hg => hg
  simp [itemStage_eq, itemMarks, List.append_assoc, weigh_add_weigh, bitNumber_add_weigh, -List.append_nil]

theorem verticalStage_eq (x : StageRecord) : verticalStage x
    = if x.quality = .good ∨ x.quality = .suspect then x.value.map fun h => (h, x.sampleTime.getD 0) else none := by
  unfold verticalStage
  by_cases h : x.quality = .good ∨ x.quality = .suspect
  · rw [if_neg (by simp [(unread_eq_false_iff _).2 h]), if_pos h]
    rfl
  · rw [if_pos (by simpa using mt (unread_eq_false_iff _).1 h), if_neg h]

theorem withBody_push (b : RunBody) (i : StackItem) (s : State) : withBody (b.push i) s
    = s.withRun
        { s.run with
          body := some
            { b with
              stack := b.stack ++ [i]
              direction := match b.stack with
                | [first] => if first.distance < i.distance then .ascending else .descending
                | _ => b.direction } } := by
  rw [RunBody.push_eq]
  rfl

/-- The mean velocity and the marks of each method (R151). -/
theorem methodResult_eq_some {method : Byte} {m : Method} {w : Working} {v : Nat} {low sat : Bool}
    (h : (method = 2 ∧ m = .none ∧ v = 0 ∧ low = false ∧ sat = false)
      ∨ (∃ o, method = 0 ∧ m = .onePoint ∧ w.newestAt 60 = some o ∧ v = o.velocity
        ∧ low = o.low ∧ sat = o.saturated)
      ∨ (∃ o o', method = 1 ∧ m = .twoPoint ∧ w.newestAt 20 = some o
        ∧ w.newestAt 80 = some o' ∧ v = (o.velocity + o'.velocity + 1) / 2
        ∧ low = (o.low || o'.low) ∧ sat = (o.saturated || o'.saturated))) :
    methodOf method = some m ∧ methodResult m w = some (v, low, sat) := by
  rcases h with ⟨rfl, rfl, rfl, rfl, rfl⟩ | ⟨o, rfl, rfl, ho, rfl, rfl, rfl⟩ | ⟨o, o', rfl, rfl, ho, ho', rfl, rfl, rfl⟩
  · exact ⟨rfl, rfl⟩
  · exact ⟨rfl, by simp [methodResult, ho]⟩
  · have hmean : (roundHalfUp ((o.velocity : Int) + o'.velocity) 2).toNat = (o.velocity + o'.velocity + 1) / 2 := by
      unfold roundHalfUp
      omega
    exact ⟨rfl, by simp [methodResult, ho, ho', hmean]⟩

/-- Settles O52: each run command's own checks in their order, and its push or pop. -/
theorem stackItems : Obligations.StackItems := by
  unfold Obligations.StackItems
  refine ⟨fun b d => ⟨fun h => liesBeyond_empty h d, fun newest h => liesBeyond_iff h d⟩,
    fun w fraction o => Working.newestAt_eq_some_iff, fun s => ?_⟩
  dsimp only
  refine ⟨fun kind depth method abandon => ?refusals, fun b hb hop => ?_⟩
  case refusals =>
    simp only [List.forall_mem_cons]
    exact ⟨fun hj => ⟨gives_of_noRun hj (exec_addEdge kind depth s), gives_of_runBusy hj (exec_addEdge kind depth s)⟩,
      fun hj => ⟨gives_of_noRun hj (exec_acceptVertical method s), gives_of_runBusy hj (exec_acceptVertical method s)⟩,
      fun hj => ⟨gives_of_noRun hj (exec_discardLast s), gives_of_runBusy hj (exec_discardLast s)⟩,
      fun hj => ⟨gives_of_noRun hj (exec_closeRun abandon s), gives_of_runBusy hj (exec_closeRun abandon s)⟩,
      fun i hi => absurd hi List.not_mem_nil⟩
  · refine ⟨fun kind depth hj h => ?range, fun depth hj hd => ⟨fun hst => ?start, fun hst => ?second⟩,
      fun depth hj hd => ⟨fun hst => ?bare, fun newest hlast => ⟨fun hshut => ?shut,
        fun hfin hlen => ⟨fun hl => ?finish, fun hl => ?order⟩⟩⟩,
      fun method hj => ⟨fun hm => ?noMethod, fun hm hshut => ?full, fun hm hshut hw => ?missing,
        fun x hm hshut hw hx hl => ?misplaced⟩,
      fun method m x newest v low sat hj hx hlast hfin hlen hl hmethod => ?accepted,
      fun hj => ⟨fun hst => ?nothing, fun newest hlast => ?popped⟩⟩
    case range => exact gives_of_runWork hj (exec_addEdge kind depth s) hb hop (addEdgeWork_range h)
    case start =>
      refine gives_of_runWork hj (exec_addEdge 0 depth s) hb hop ?_
      rw [addEdgeWork_start hd, if_pos hst, withBody_push, hst]
      rfl
    case second =>
      exact gives_of_runWork hj (exec_addEdge 0 depth s) hb hop (by rw [addEdgeWork_start hd, if_neg hst])
    case bare =>
      exact gives_of_runWork hj (exec_addEdge 1 depth s) hb hop (by rw [addEdgeWork_finish hd, if_pos hst])
    case shut =>
      have hshut' : stackShut b = true := stackShut_iff.2 (hshut.symm.imp_right fun hk => ⟨newest, hlast, hk⟩)
      refine gives_of_runWork hj (exec_addEdge 1 depth s) hb hop ?_
      rw [addEdgeWork_finish hd, if_neg (stack_ne_nil hlast), if_pos hshut']
    case finish =>
      refine gives_of_runWork hj (exec_addEdge 1 depth s) hb hop ?_
      rw [addEdgeWork_finish hd, if_neg (stack_ne_nil hlast), if_neg (not_stackShut hlast hfin hlen), if_neg (by simp [hl]),
        withBody_push]
      rfl
    case order =>
      refine gives_of_runWork hj (exec_addEdge 1 depth s) hb hop ?_
      rw [addEdgeWork_finish hd, if_neg (stack_ne_nil hlast), if_neg (not_stackShut hlast hfin hlen), if_pos hl]
    case noMethod =>
      exact gives_of_runWork hj (exec_acceptVertical method s) hb hop (by simp only [acceptWork, methodOf_above hm])
    case full =>
      obtain ⟨m, hm⟩ := methodOf_within hm
      exact gives_of_runWork hj (exec_acceptVertical method s) hb hop (acceptWork_shut hm (stackShut_iff.2 hshut))
    case missing =>
      obtain ⟨m, hm⟩ := methodOf_within hm
      rw [wantingNumber_eq hm] at hw ⊢
      refine gives_of_runWork hj (exec_acceptVertical method s) hb hop ?_
      rw [acceptWork_missing hm (by simpa using mt stackShut_iff.1 hshut) hw, wanting_eq]
    case misplaced =>
      obtain ⟨m, hm⟩ := methodOf_within hm
      rw [wantingNumber_eq hm, wantingNumber_eq_zero_iff] at hw
      obtain ⟨r, hr⟩ := Option.ne_none_iff_exists'.1 hw.2
      exact gives_of_runWork hj (exec_acceptVertical method s) hb hop
        (acceptWork_order hm (by simpa using mt stackShut_iff.1 hshut) hx hr hl)
    case accepted =>
      obtain ⟨hm, hr⟩ := methodResult_eq_some hmethod
      rw [← verticalStage_eq]
      refine ⟨_, verticalAnswer_laid _ (verticalItem m x (v, low, sat) s.stage.record),
        gives_of_runWork hj (exec_acceptVertical method s) hb hop ?_⟩
      rw [acceptWork_pushes hm (by simpa using not_stackShut hlast hfin hlen) hx hr (stack_ne_nil hlast) hl,
        withBody_push]
      rfl
    case nothing =>
      exact gives_of_runWork hj (exec_discardLast s) hb hop (by simp [discardWork, hst])
    case popped =>
      refine gives_of_runWork hj (exec_discardLast s) hb hop ?_
      simp only [discardWork, hlast, RunBody.pop_eq]
      rfl

end Sys2Proof.Machine

/-! The close of a run (section 8.4): its results, its answer, and CLOSE_RUN. -/

namespace Sys2Proof.Machine

/-! ### The width factors (R154) -/

theorem widthFactors_length : ∀ (before : Option Int) (ds : List Int), (widthFactors before ds).length = ds.length
  | _, [] => rfl
  | _, d :: rest => by rw [widthFactors, List.length_cons, widthFactors_length, List.length_cons]

/-- Each factor is the distance from the item before to the item after, the last item standing in for its own
successor. -/
theorem widthFactors_getElem (p : Int) : ∀ (ds : List Int) (i : Nat) (hi : i < ds.length),
    (widthFactors (some p) ds)[i]'(by rw [widthFactors_length]; exact hi)
      = |ds[min (i + 1) (ds.length - 1)]'(by omega) - (p :: ds)[i]'(by simp; omega)|
  | [d], 0, _ => by simp [widthFactors]
  | d :: e :: rest, 0, _ => by simp [widthFactors]
  | d :: e :: rest, i + 1, hi => by
    have ih := widthFactors_getElem d (e :: rest) i (by simpa using hi)
    have hmin : min (i + 1 + 1) ((d :: e :: rest).length - 1) = min (i + 1) ((e :: rest).length - 1) + 1 := by
      simp
    simp only [widthFactors, List.getElem_cons_succ] at ih ⊢
    simp only [hmin, List.getElem_cons_succ]
    exact ih

/-- Without an item before the first one, the first item stands in for it. -/
theorem widthFactors_none : ∀ ds : List Int, widthFactors none ds = widthFactors (some (ds.headD 0)) ds
  | [] => rfl
  | _ :: _ => rfl

/-! ### The sums over the items (R154, R155) -/

/-- A field of the item at a place, 0 beyond the items. -/
def itemAt (st : List StackItem) (f : StackItem → Int) (i : Nat) : Int := st[i]?.elim 0 f

/-- The width factor of the item at a place. -/
def factorAt (st : List StackItem) (i : Nat) : Int :=
  |itemAt st (·.distance) (min (i + 1) (st.length - 1)) - itemAt st (·.distance) (i - 1)|

theorem itemAt_of_lt {st : List StackItem} {i : Nat} (h : i < st.length) (f : StackItem → Int) :
    itemAt st f i = f st[i] := by
  simp [itemAt, h]

theorem widthFactors_eq (st : List StackItem) :
    widthFactors none (st.map (·.distance)) = (List.range st.length).map (factorAt st) := by
  refine List.ext_getElem (by simp [widthFactors_length]) fun i hi _ => ?_
  rw [widthFactors_length, List.length_map] at hi
  have hbefore : ((st.map (·.distance)).headD 0 :: st.map (·.distance))[i]'(by simp; omega)
      = itemAt st (·.distance) (i - 1) := by
    cases i with
    | zero => cases st with
      | nil => rfl
      | cons x rest => rfl
    | succ i => simp [itemAt, show i < st.length by omega]
  simp only [widthFactors_none]
  rw [widthFactors_getElem ((st.map (·.distance)).headD 0) (st.map (·.distance)) i (by simpa using hi), hbefore]
  simp [factorAt, itemAt, show min (i + 1) (st.length - 1) < st.length by omega]

/-- The sum over the items with their width factors. -/
theorem sum_weighted (st : List StackItem) (f : StackItem → Int) :
    ((weighted st).map fun x => f x.1 * x.2).sum
      = ((List.range st.length).map fun i => itemAt st f i * factorAt st i).sum := by
  refine congrArg List.sum (List.ext_getElem (by simp [weighted, widthFactors_length]) fun i hi _ => ?_)
  have hi' : i < st.length := by
    simp [weighted] at hi
    omega
  simp [weighted, widthFactors_eq, itemAt_of_lt hi']

/-! ### The greatest and the smallest value -/

theorem greatest_spec : ∀ (vs : List Int) (v : Int),
    (greatest v vs = v ∨ greatest v vs ∈ vs) ∧ v ≤ greatest v vs ∧ ∀ x ∈ vs, x ≤ greatest v vs
  | [], v => ⟨.inl rfl, le_rfl, fun _ h => absurd h List.not_mem_nil⟩
  | x :: vs, v => by
    obtain ⟨hmem, hle, hall⟩ := greatest_spec vs (max v x)
    have hstep : greatest v (x :: vs) = greatest (max v x) vs := rfl
    rw [hstep]
    refine ⟨?_, by omega, List.forall_mem_cons.2 ⟨by omega, hall⟩⟩
    rcases hmem with he | hin
    · rcases max_choice v x with hv | hx
      · exact .inl (he.trans hv)
      · exact .inr (by rw [he, hx]; exact List.mem_cons_self)
    · exact .inr (List.mem_cons_of_mem x hin)

theorem smallest_spec : ∀ (vs : List Int) (v : Int),
    (smallest v vs = v ∨ smallest v vs ∈ vs) ∧ smallest v vs ≤ v ∧ ∀ x ∈ vs, smallest v vs ≤ x
  | [], v => ⟨.inl rfl, le_rfl, fun _ h => absurd h List.not_mem_nil⟩
  | x :: vs, v => by
    obtain ⟨hmem, hle, hall⟩ := smallest_spec vs (min v x)
    have hstep : smallest v (x :: vs) = smallest (min v x) vs := rfl
    rw [hstep]
    refine ⟨?_, by omega, List.forall_mem_cons.2 ⟨by omega, hall⟩⟩
    rcases hmem with he | hin
    · rcases min_choice v x with hv | hx
      · exact .inl (he.trans hv)
      · exact .inr (by rw [he, hx]; exact List.mem_cons_self)
    · exact .inr (List.mem_cons_of_mem x hin)

/-! ### The results (R154 to R156) -/

theorem any_vertical_iff (st : List StackItem) (f : StackItem → Bool) :
    (st.any fun i => i.kind.isVertical && f i) = true
      ↔ ∃ i ∈ st, (∃ m, i.kind = .vertical m) ∧ f i = true := by
  have hkind : ∀ k : ItemKind, k.isVertical = true ↔ ∃ m, k = .vertical m := by
    intro k
    cases k <;> simp [ItemKind.isVertical]
  simp [hkind]

theorem sectionWidth_eq (st : List StackItem) :
    sectionWidth st = |itemAt st (·.distance) (st.length - 1) - itemAt st (·.distance) 0| := by
  unfold sectionWidth itemAt
  rw [← List.head?_eq_getElem?, ← List.getLast?_eq_getElem?]
  cases st with
  | nil => rfl
  | cons a rest => cases hl : (a :: rest).getLast? with
    | none => simp at hl
    | some z => rfl

theorem partialSum_eq (st : List StackItem) : partialSum st
    = ((List.range st.length).map fun i =>
        itemAt st (·.velocity) i * itemAt st (·.depth) i * factorAt st i).sum := by
  have h := sum_weighted st fun x => (x.velocity : Int) * x.depth
  refine h.trans (congrArg List.sum (List.map_congr_left fun i hi => ?_))
  have hi' : i < st.length := List.mem_range.1 hi
  simp only [itemAt_of_lt hi']

theorem areaSum_eq (st : List StackItem) : areaSum st
    = ((List.range st.length).map fun i => itemAt st (·.depth) i * factorAt st i).sum :=
  sum_weighted st fun x => x.depth

/-- The results follow the run's items. -/
theorem runResults_spec (b : RunBody) :
    let x := runResults b
    let stages := b.openStage :: b.stack.filterMap fun i => i.stage.map (·.1)
    (∃ q, HalfUp (partialSum b.stack) 2000000 q ∧ x.q = min 4294967295 q)
    ∧ HalfUp (areaSum b.stack) 2 x.area
    ∧ x.width = sectionWidth b.stack
    ∧ (x.area = 0 → x.velocity = 0)
    ∧ (0 < x.area → ∃ v, HalfUp (x.q * 1000000) x.area v ∧ x.velocity = min 20000 v)
    ∧ HalfUp stages.sum stages.length x.meanStage
    ∧ (∃ high ∈ stages, ∃ low ∈ stages, (∀ v ∈ stages, low ≤ v ∧ v ≤ high) ∧ x.stageChange = high - low)
    ∧ (x.unsteady = true ↔ (b.unsteady : Int) < x.stageChange) := by
  dsimp only
  obtain ⟨hhigh, hhigh0, hhighs⟩ := greatest_spec b.stageList b.openStage
  obtain ⟨hlow, hlow0, hlows⟩ := smallest_spec b.stageList b.openStage
  refine ⟨⟨_, halfUp_roundHalfUp _ (by decide), rfl⟩, halfUp_roundHalfUp _ (by decide), rfl, fun h => if_pos h,
    fun h => ⟨_, halfUp_roundHalfUp _ h, ?_⟩, halfUp_roundHalfUp _ (by simp),
    ⟨greatest b.openStage b.stageList, hhigh.elim (fun h => List.mem_cons.2 (.inl h)) id,
      smallest b.openStage b.stageList, hlow.elim (fun h => List.mem_cons.2 (.inl h)) id,
      fun v hv => ⟨hlows v hv, hhighs v hv⟩, rfl⟩, decide_eq_true_iff⟩
  exact (if_neg h.ne').trans (if_pos h)

/-! ### The answer (11.4) -/

theorem closeAnswer_laid (c : Closing) :
    let u := unsignedField
    let i := signedField
    let after_ : Nat → List Field := fun e =>
      [u e 1 (shiftStatusCode c.status), i (e + 1) 4 c.shift, u (e + 5) 1 (weigh c.clamped 1)]
    (c.results = none → Laid (closeAnswer c).payload 7 (u 0 1 (runOutcomeCode c.outcome) :: after_ 1))
    ∧ ∀ r, c.results = some r → Laid (closeAnswer c).payload 30
        ([u 0 1 (runOutcomeCode c.outcome), u 1 4 r.q, u 5 8 r.area, u 13 4 r.width, u 17 2 r.velocity,
          i 19 2 r.meanStage, u 21 2 r.stageChange,
          u 23 1 (weigh r.unsteady 1 + weigh r.low 2 + weigh r.saturated 4)] ++ after_ 24) := by
  dsimp only
  refine ⟨fun hr => ?_, fun r hr => ?_⟩
  · refine LaidFrom.laid (LaidFrom.closed ?_) fun g hg => hg
    simp [closeAnswer, okWith, hr, -List.append_nil]
  · refine LaidFrom.laid (LaidFrom.closed ?_) fun g hg => hg
    simp [closeAnswer, okWith, hr, resultsBytes, weigh_add_weigh, bitNumber_add_weigh, -List.append_nil]

theorem steady_time {s t : State} (h : s.steady = t.steady) : s.time = t.time := by
  have := congrArg State.time h
  exact this

/-! ### CLOSE_RUN (R153, R157, R172) -/

theorem completeFault_eq (st : List StackItem) : completeFault st = firstFault 0
    [∃ i, st.head? = some i ∧ i.kind = .start, ∃ i, st.getLast? = some i ∧ i.kind = .finish,
      ∃ i ∈ st, (∃ m, i.kind = .vertical m) ∧ 0 < i.velocity] := by
  refine ite_eq_firstFault ?_ (ite_eq_firstFault ?_ (ite_eq_firstFault ?_ rfl))
  · cases hh : st.head? with
    | none => simp
    | some i => cases hk : i.kind <;> simp [hk, ItemKind.isStart]
  · rw [← stackClosed_iff, Bool.not_eq_true, Bool.not_eq_true']
  · rw [Bool.not_eq_true', ← Bool.not_eq_true, not_iff_not]
    refine (any_vertical_iff st fun i => decide (0 < i.velocity)).trans ?_
    simp only [decide_eq_true_iff]

section
variable {s : State} {b : RunBody} (hb : s.run.openBody = some b) (hopen : s.permit.record.state = .open_)
  (o : RunOutcome)

/-- The run record that a close leaves (R157). -/
def closedRun (s : State) (b : RunBody) (o : RunOutcome) : RunRecord :=
  { s.run with body := some { b with closing := some (closingOf s.rating b o s.time.station) } }

include hb in
theorem closeRun_steady : (closeRun o s).steady = (clearWorking (s.withRun (closedRun s b o))).steady := by
  rw [closeRun_of_open hb, steady_append]
  rfl

include hopen in
theorem closeByCommand_permit : (closeByCommand o s).permit
    = { s.permit with record := changedPermit .closed .runClosed (closeRun o s) } := by
  have hne : (closeRun o s).permit.record.state ≠ .closed := by
    rw [closeRun_permit, hopen]
    decide
  rw [closeByCommand, permitChange_permit hne, closeRun_permit]

include hb hopen in
/-- What the step of a close leaves of the run, the working vertical and the permit. -/
theorem settle_closeByCommand (hdue : s.due = []) :
    (settle (closeByCommand o s)).run = closedRun s b o
      ∧ (settle (closeByCommand o s)).working = .empty
      ∧ (settle (closeByCommand o s)).cableway.placement = none
      ∧ (settle (closeByCommand o s)).permit.record
        = { state := .closed, cause := .runClosed, time := s.time.station } := by
  have hpermit := closeByCommand_permit hopen o
  have hclosed := closeRun_steady hb o
  have hsettle : (settle (closeByCommand o s)).steady = (closeByCommand o s).steady := by
    refine steady_settle (by rw [hpermit]; simp [changedPermit]) ?_
    exact NoCompletion.of_due ((NoCompletion.of_due_nil hdue).closeRun o) (by rw [closeByCommand, due_permitChange])
  have htime : (closeRun o s).time = s.time := (steady_time hclosed).trans rfl
  refine ⟨?_, ?_, ?_, ?_⟩
  · rw [steady_run hsettle, closeByCommand, permitChange_run, steady_run hclosed]
    rfl
  · rw [steady_working hsettle, closeByCommand, permitChange_working, steady_working hclosed]
    rfl
  · rw [steady_cableway hsettle, closeByCommand, permitChange_cableway, steady_cableway hclosed]
    rfl
  · rw [steady_permit hsettle, hpermit, changedPermit, htime]

include hb in
/-- With room in the record, the close adds its RUN entry (R159). -/
theorem settle_closeByCommand_record (hdue : s.due = []) (hroom : s.record.full = false) :
    (settle (closeByCommand o s)).record
      = s.record.placeOrRenumber (.run (runEntry s.run.number b (closingOf s.rating b o s.time.station)))
          s.time.station := by
  have hclose := closeRun_of_open hb o
  rw [append_of_not_full (by exact hroom)] at hclose
  have hdue' : (closeByCommand o s).due = [] := by
    rw [closeByCommand, due_permitChange, hclose]
    exact hdue
  rw [settle_of_due_nil _ hdue', closeByCommand, permitChange_recordUnit, hclose]
  rfl

end

/-- Settles O53: the results by the sums over the items, the answer's layout, and the closes. -/
theorem runCloses : Obligations.RunCloses := by
  unfold Obligations.RunCloses
  refine ⟨fun b => ?results, fun c => closeAnswer_laid c, fun b s hb hop hopen => ?closes⟩
  case results =>
    dsimp only
    obtain ⟨hq, harea, hwidth, hstill, hvelocity, hmean, hchange, hunsteady⟩ := runResults_spec b
    rw [partialSum_eq] at hq
    rw [areaSum_eq] at harea
    rw [sectionWidth_eq] at hwidth
    exact ⟨hq, harea, hwidth, hstill, hvelocity, hmean, hchange, hunsteady,
      any_vertical_iff b.stack (·.low), any_vertical_iff b.stack (·.saturated)⟩
  case closes =>
    dsimp only
    have hcloses : ∀ (abandon : Byte) (o : RunOutcome), Judged .cableway (.closeRun .cableway abandon) s →
        closeWork abandon b s
          = (settle (closeByCommand o s), closeAnswer (closingOf s.rating b o s.time.station)) →
        ∃ u, Gives .cableway (.closeRun .cableway abandon) s u
            (closeAnswer (closingOf s.rating b o s.time.station))
          ∧ u.run = closedRun s b o
          ∧ u.permit.record = { state := .closed, cause := .runClosed, time := s.time.station }
          ∧ u.working = .empty ∧ u.cableway.placement = none ∧ u.kept = s.kept
          ∧ (s.record.full = false →
            u.record = s.record.placeOrRenumber
              (.run (runEntry s.run.number b (closingOf s.rating b o s.time.station))) s.time.station) := by
      intro abandon o hj hw
      obtain ⟨hrun, hworking, hplacement, hpermit⟩ := settle_closeByCommand hb hopen o hj.2.2
      refine ⟨_, gives_of_runWork hj (exec_closeRun abandon s) hb hop hw, hrun, hpermit, hworking, hplacement, ?_,
        settle_closeByCommand_record hb o hj.2.2⟩
      rw [kept_settle _ (NoCompletion.of_due ((NoCompletion.of_due_nil hj.2.2).closeRun o)
        (by rw [closeByCommand, due_permitChange])), closeByCommand, kept_permitChange, kept_closeRun]
    have hyes : yesByte 1 = true ∧ yesByte 0 = false := by decide
    have hrefused : ∀ code, Judged .cableway (.closeRun .cableway 0) s → completeFault b.stack = some code →
        Gives .cableway (.closeRun .cableway 0) s s { status := .state, payload := u8 code } :=
      fun code hj hc => gives_of_runWork hj (exec_closeRun 0 s) hb hop
        (by simp only [closeWork, hyes.2, hc, Bool.false_eq_true, ↓reduceIte])
    rw [completeFault_eq] at hrefused
    refine ⟨fun hj => hcloses 1 .abandonedOperator hj (by simp only [closeWork, hyes.1, ↓reduceIte]),
      fun hj => ⟨fun hs => hrefused 0 hj (if_neg hs),
        fun hs he => hrefused 1 hj ((if_pos hs).trans (if_neg he)),
        fun hs he hf => hrefused 2 hj ((if_pos hs).trans ((if_pos he).trans (if_neg hf))),
        fun hs he hf => hcloses 0 .complete hj ?_⟩⟩
    have hnone : completeFault b.stack = none := by
      rw [completeFault_eq]
      exact (if_pos hs).trans ((if_pos he).trans (if_pos hf))
    simp only [closeWork, hyes.2, hnone, Bool.false_eq_true, ↓reduceIte]

end Sys2Proof.Machine

/-! The fault word and a batch of reports (chapter 10). -/

namespace Sys2Proof.Machine

/-! ### The bits of the fault word (R174) -/

theorem faultBit_lt (f : StationFault) : faultBit f < 21 := by
  cases f with
  | channelFailed c => cases c <;> decide
  | _ => decide

/-- The faults in the order of their bits (R174). -/
def faultsByBit : List StationFault :=
  [.channelFailed .ch0, .channelFailed .ch1, .channelFailed .ch2, .channelFailed .ch3, .primaryPromoted, .stageHeld,
    .disagree, .stageClamped, .recordCorrected, .recordDamaged, .recordMappedOut, .recordMapFull, .readerLoss,
    .timeStep, .cableLoadTrip, .cableStall, .cableLimit, .encoderFault, .sirenTimeout, .aboveRating, .restart]

theorem faultsByBit_faultBit (f : StationFault) : faultsByBit[faultBit f]? = some f := by
  cases f with
  | channelFailed c => cases c <;> rfl
  | _ => rfl

theorem faultBit_inj {f g : StationFault} : faultBit f = faultBit g ↔ f = g := by
  refine ⟨fun h => Option.some.inj ?_, fun h => h ▸ rfl⟩
  rw [← faultsByBit_faultBit f, h, faultsByBit_faultBit]

theorem getLsbD_faultMask (f : StationFault) (n : Nat) : (faultMask f).getLsbD n = decide (n = faultBit f) := by
  have hlt := faultBit_lt f
  have hone : ∀ k : Nat, (1#32).getLsbD k = decide (k = 0) := fun k => by
    rw [BitVec.getLsbD_one]
    simp
  rw [faultMask, BitVec.getLsbD_shiftLeft, hone]
  by_cases h : n = faultBit f
  · simp [h]
    omega
  · simp [h]
    omega

theorem bitSet_takeReports (time : U32) (x : StationFault) : ∀ (rs : List Report) (u : FaultUnit),
    bitSet (takeReports time u rs).word x = true ↔ bitSet u.word x = true ∨ ∃ r ∈ rs, r.fault = x
  | [], u => by simp [takeReports]
  | r :: rs, u => by
    have hstep : takeReports time u (r :: rs) = takeReports time (takeReport time u r) rs := rfl
    rw [hstep, bitSet_takeReports time x rs]
    simp [bitSet, takeReport, getLsbD_faultMask, faultBit_inj, eq_comm (a := x), or_assoc]

theorem takeReports_concat (time : U32) (u : FaultUnit) (before : List Report) (r : Report) :
    takeReports time u (before ++ [r]) = takeReport time (takeReports time u before) r := by
  simp [takeReports]

theorem mem_newlySet {word : U32} {rs : List Report} {f : StationFault} :
    f ∈ newlySet word rs ↔ ∃ r ∈ rs, r.fault = f ∧ bitSet word f = false := by
  simp only [newlySet, List.mem_filter, List.mem_map, Bool.not_eq_true']
  grind

theorem newlySet_isEmpty_iff {word : U32} {rs : List Report} :
    (newlySet word rs).isEmpty = true ↔ ¬∃ r ∈ rs, bitSet word r.fault = false := by
  rw [List.isEmpty_iff, List.eq_nil_iff_forall_not_mem]
  simp only [mem_newlySet]
  grind

theorem admits_iff (threshold : Threshold) (sev : Severity) : admits threshold sev = true ↔
    match threshold with
    | .quiet => False
    | .severe => sev = .severe
    | .degraded => sev = .degraded ∨ sev = .severe
    | .all => True := by
  cases threshold <;> cases sev <;> simp [admits]

/-! ### A batch (R175) -/

section
variable (rs : List Report) (s : State)

theorem takeBatch_stale (h : ¬∃ r ∈ rs, bitSet s.faults.word r.fault = false) :
    takeBatch rs s = s.withFaults (takeReports s.time.station s.faults rs) := by
  simp only [takeBatch, newlySet_isEmpty_iff.2 h, ↓reduceIte]

theorem takeBatch_fresh (h : ∃ r ∈ rs, bitSet s.faults.word r.fault = false) :
    takeBatch rs s = (raiseFaultEvents (newlySet s.faults.word rs)
      (s.withFaults (takeReports s.time.station s.faults rs))).owe
        [.faultRound (takeReports s.time.station s.faults rs).word] := by
  simp only [takeBatch, newlySet_isEmpty_iff, h, not_true_eq_false, ↓reduceIte]
  rfl

end

/-- A batch reaches the fault unit, the ports' events and the agenda alone. -/
theorem takeBatch_frame (rs : List Report) (s : State) :
    ∃ x y z, takeBatch rs s = ((s.withFaults x).withPorts y).withDue z := by
  by_cases h : ∃ r ∈ rs, bitSet s.faults.word r.fault = false
  · rw [takeBatch_fresh rs s h]
    exact ⟨_, _, _, rfl⟩
  · rw [takeBatch_stale rs s h]
    exact ⟨takeReports s.time.station s.faults rs, s.ports, s.due, rfl⟩

/-- The detail after a batch's last report (R178). -/
theorem takeBatch_detail (before : List Report) (r : Report) (s : State) :
    (takeBatch (before ++ [r]) s).faults.detail
      = detailAfter s.time.station r (takeBatch before s).faults.detail := by
  simp only [takeBatch_faults, takeReports_concat]
  rfl

/-- The FAULT events of a batch (R179). -/
theorem takeBatch_fault_event (rs : List Report) (s : State) (p : Port) :
    ((takeBatch rs s).ports.get p).events.fault = true ↔ (s.ports.get p).events.fault = true
      ∨ ∃ r ∈ rs, bitSet s.faults.word r.fault = false
        ∧ admits (s.faults.thresholds.get p) (faultSeverity r.fault) = true := by
  by_cases h : ∃ r ∈ rs, bitSet s.faults.word r.fault = false
  · rw [takeBatch_fresh rs s h]
    simp only [State.owe, raiseFaultEvents, State.withDue_ports, State.withPorts_ports, State.withFaults_ports,
      State.withFaults_faults, PerPort.get_map, takeReports_thresholds]
    by_cases hany : (newlySet s.faults.word rs).any
        (fun f => admits (s.faults.thresholds.get p) (faultSeverity f)) = true
    · rw [if_pos hany]
      refine iff_of_true rfl (.inr ?_)
      obtain ⟨f, hf, hadmits⟩ := List.any_eq_true.1 hany
      obtain ⟨r, hr, rfl, hbit⟩ := mem_newlySet.1 hf
      exact ⟨r, hr, hbit, hadmits⟩
    · rw [if_neg hany]
      refine (or_iff_left ?_).symm
      rintro ⟨r, hr, hbit, hadmits⟩
      exact hany (List.any_eq_true.2 ⟨r.fault, mem_newlySet.2 ⟨r, hr, rfl, hbit⟩, hadmits⟩)
  · rw [takeBatch_stale rs s h]
    refine (or_iff_left ?_).symm
    rintro ⟨r, hr, hbit, -⟩
    exact h ⟨r, hr, hbit⟩

/-- Settles O43: a batch, report by report. -/
theorem batchTaken : Obligations.BatchTaken := by
  unfold Obligations.BatchTaken
  intro rs s
  dsimp only
  refine ⟨fun x => ?bits, ?thresholds, fun h => ?nothing, fun before r hrs => ?detail, fun p => ?events,
    fun h => ?owed, fun h => ?stale, takeBatch_frame rs s⟩
  case bits => rw [takeBatch_faults]; exact bitSet_takeReports s.time.station x rs s.faults
  case thresholds => rw [takeBatch_faults, takeReports_thresholds]
  case nothing => rw [takeBatch_faults, h]; rfl
  case detail =>
    rw [hrs, takeBatch_detail]
    refine ⟨fun hd => by rw [hd]; rfl, fun d hd => by rw [hd]; rfl⟩
  case events =>
    rw [takeBatch_fault_event]
    simp only [admits_iff, and_assoc] <;> rfl
  case owed => rw [takeBatch_faults, takeBatch_fresh rs s (by simpa using h)]; rfl
  case stale => rw [takeBatch_stale rs s (by simpa using h)]; exact ⟨rfl, rfl⟩

end Sys2Proof.Machine

/-! The agenda (section 10.2, log entry 5): what the hand-ons of a step add up to. Each of them only sets fault
bits and raises events, owes rounds and permit tests alone, and the whole of them comes to an end. -/

namespace Sys2Proof.Machine

/-! ### What a hand-on may do -/

/-- Every event but RECORD that stands in the one set stands in the other. -/
structure EventSet.Within (x y : EventSet) : Prop where
  sample : x.sample = true → y.sample = true
  level  : x.level = true → y.level = true
  fault  : x.fault = true → y.fault = true
  opDone : x.opDone = true → y.opDone = true
  permit : x.permit = true → y.permit = true
  siren  : x.siren = true → y.siren = true

theorem EventSet.Within.refl (x : EventSet) : x.Within x := ⟨id, id, id, id, id, id⟩

theorem EventSet.Within.trans {x y z : EventSet} (h : x.Within y) (h' : y.Within z) : x.Within z :=
  ⟨h'.sample ∘ h.sample, h'.level ∘ h.level, h'.fault ∘ h.fault, h'.opDone ∘ h.opDone, h'.permit ∘ h.permit,
    h'.siren ∘ h.siren⟩

theorem EventSet.within_insert (x : EventSet) (e : Event) : x.Within (x.insert e) := by
  cases e <;> exact ⟨fun h => by simp [EventSet.insert, h], fun h => by simp [EventSet.insert, h],
    fun h => by simp [EventSet.insert, h], fun h => by simp [EventSet.insert, h],
    fun h => by simp [EventSet.insert, h], fun h => by simp [EventSet.insert, h]⟩

/-- How many of the word's bits are still clear. -/
def clearBits (word : U32) : Nat := ((Finset.range 21).filter fun n => word.getLsbD n = false).card

theorem clearBits_le (word : U32) : clearBits word ≤ 21 := by
  have := Finset.card_filter_le (Finset.range 21) fun n => word.getLsbD n = false
  rwa [Finset.card_range] at this

/-- The most that a piece of work can still bring, itself included: a fault round may bring a permit test. A
completion is not counted. -/
def Work.weight : Work → Nat
  | .faultRound _ => 2
  | .stageRound => 2
  | .batch _ => 1
  | .permitTest => 1
  | .sampleEntry _ _ => 1
  | .completion => 0

/-- A bound on what a step still has to do: each clear bit may bring one fault round with its permit test. -/
def State.load (s : State) : Nat := 2 * clearBits s.faults.word + (s.due.map Work.weight).sum

/-- What a hand-on may do from `s` to `t`: it sets fault bits, raises events, owes fault rounds and permit tests,
and adds at most `k` to the load. -/
structure HandsOn (k : Nat) (s t : State) : Prop where
  bits   : ∀ f, bitSet s.faults.word f = true → bitSet t.faults.word f = true
  events : ∀ p, (s.ports.get p).events.Within (t.ports.get p).events
  owes   : ∃ ws, t.due = s.due ++ ws ∧ ∀ w ∈ ws, w = .permitTest ∨ ∃ word, w = .faultRound word
  load   : t.load ≤ s.load + k

section
variable {k : Nat} {s t u : State}

theorem HandsOn.refl (s : State) : HandsOn 0 s s :=
  ⟨fun _ h => h, fun _ => .refl _, ⟨[], by simp, by simp⟩, le_rfl⟩

theorem HandsOn.trans {l : Nat} (h : HandsOn k s t) (h' : HandsOn l t u) : HandsOn (k + l) s u := by
  obtain ⟨ws, hws, hall⟩ := h.owes
  obtain ⟨ws', hws', hall'⟩ := h'.owes
  refine ⟨fun f hf => h'.bits f (h.bits f hf), fun p => (h.events p).trans (h'.events p),
    ⟨ws ++ ws', by rw [hws', hws, List.append_assoc], fun w hw => ?_⟩, ?_⟩
  · exact (List.mem_append.1 hw).elim (hall w) (hall' w)
  · have := h.load
    have := h'.load
    omega

/-- A change beside the fault word, the ports and the agenda. -/
theorem HandsOn.beside (h : HandsOn k s t) (hf : u.faults = t.faults) (hp : u.ports = t.ports)
    (hd : u.due = t.due) : HandsOn k s u := by
  refine ⟨by rw [hf]; exact h.bits, by rw [hp]; exact h.events, by rw [hd]; exact h.owes, ?_⟩
  rw [State.load, hf, hd]
  exact h.load

theorem HandsOn.withWarning (h : HandsOn k s t) (x : Warning) : HandsOn k s (t.withWarning x) :=
  ⟨h.bits, h.events, h.owes, h.load⟩

theorem HandsOn.withRecord (h : HandsOn k s t) (x : Record) : HandsOn k s (t.withRecord x) :=
  ⟨h.bits, h.events, h.owes, h.load⟩

theorem HandsOn.withPermit (h : HandsOn k s t) (x : Permit) : HandsOn k s (t.withPermit x) :=
  ⟨h.bits, h.events, h.owes, h.load⟩

theorem HandsOn.onCable (h : HandsOn k s t) (f : Cableway → Cableway) : HandsOn k s (onCable f t) :=
  ⟨h.bits, h.events, h.owes, h.load⟩

theorem HandsOn.closedRun (h : HandsOn k s t) (x : RunRecord) : HandsOn k s (clearWorking (t.withRun x)) :=
  ⟨h.bits, h.events, h.owes, h.load⟩

/-- A change of the ports that keeps the events. -/
theorem HandsOn.withPorts (h : HandsOn k s t) {x : PerPort PortUnit}
    (hx : ∀ p, (t.ports.get p).events.Within (x.get p).events) : HandsOn k s (t.withPorts x) :=
  ⟨h.bits, fun p => (h.events p).trans (hx p), h.owes, h.load⟩

theorem HandsOn.raiseEvent (h : HandsOn k s t) (e : Event) : HandsOn k s (raiseEvent e t) :=
  h.withPorts fun p => by
    rw [PerPort.get_map]
    split
    · exact EventSet.within_insert _ e
    · exact .refl _

theorem HandsOn.raisePermit (h : HandsOn k s t) (r : PermitRecord) : HandsOn k s (raisePermit r t) :=
  h.withPorts fun p => by
    rw [PerPort.get_map]
    split
    · exact EventSet.within_insert _ .permit
    · exact .refl _

theorem HandsOn.raiseFaultEvents (h : HandsOn k s t) (fs : List StationFault) :
    HandsOn k s (raiseFaultEvents fs t) :=
  h.withPorts fun p => by
    rw [PerPort.get_map]
    split
    · exact EventSet.within_insert _ .fault
    · exact .refl _

theorem HandsOn.syncRecord (h : HandsOn k s t) : HandsOn k s (syncRecord t) :=
  h.withPorts fun p => by cases p <;> exact ⟨id, id, id, id, id, id⟩

/-! ### Batches and appends -/

theorem getLsbD_takeReports (time : U32) (n : Nat) : ∀ (rs : List Report) (u : FaultUnit),
    u.word.getLsbD n = true → (takeReports time u rs).word.getLsbD n = true
  | [], _, h => h
  | r :: rs, u, h => getLsbD_takeReports time n rs (takeReport time u r) (by simp [takeReport, h])

theorem clearBits_mono {word word' : U32} (h : ∀ n, word.getLsbD n = true → word'.getLsbD n = true) :
    clearBits word' ≤ clearBits word := by
  refine Finset.card_le_card fun n hn => ?_
  rw [Finset.mem_filter] at hn ⊢
  exact ⟨hn.1, Bool.eq_false_iff.2 fun hset => Bool.eq_false_iff.1 hn.2 (h n hset)⟩

/-- A batch that sets a bit leaves fewer of them clear. -/
theorem clearBits_takeReports (time : U32) (rs : List Report) (u : FaultUnit)
    (h : ∃ r ∈ rs, bitSet u.word r.fault = false) : clearBits (takeReports time u rs).word < clearBits u.word := by
  obtain ⟨r, hr, hbit⟩ := h
  refine Finset.card_lt_card (Finset.ssubset_iff_of_subset (fun n hn => ?_) |>.2 ⟨faultBit r.fault, ?_, ?_⟩)
  · rw [Finset.mem_filter] at hn ⊢
    exact ⟨hn.1, Bool.eq_false_iff.2 fun hset => Bool.eq_false_iff.1 hn.2 (getLsbD_takeReports time n rs u hset)⟩
  · exact Finset.mem_filter.2 ⟨Finset.mem_range.2 (faultBit_lt _), hbit⟩
  · rw [Finset.mem_filter, not_and, Bool.not_eq_false]
    exact fun _ => (bitSet_takeReports time r.fault rs u).2 (.inr ⟨r, hr, rfl⟩)

theorem HandsOn.takeBatch (h : HandsOn k s t) (rs : List Report) : HandsOn k s (takeBatch rs t) := by
  have hbits : ∀ f, bitSet t.faults.word f = true → bitSet (takeReports t.time.station t.faults rs).word f = true :=
    fun f hf => (bitSet_takeReports t.time.station f rs t.faults).2 (.inl hf)
  refine (Nat.add_zero k) ▸ h.trans ?_
  by_cases hfresh : ∃ r ∈ rs, bitSet t.faults.word r.fault = false
  · have hclear := clearBits_takeReports t.time.station rs t.faults hfresh
    rw [takeBatch_fresh rs t hfresh]
    refine ⟨hbits, ((HandsOn.refl (t.withFaults (takeReports t.time.station t.faults rs))).raiseFaultEvents _).events,
      ⟨_, rfl, by simp⟩, ?_⟩
    show 2 * clearBits (takeReports t.time.station t.faults rs).word
      + ((t.due ++ [Work.faultRound (takeReports t.time.station t.faults rs).word]).map Work.weight).sum ≤ t.load + 0
    simp only [State.load, List.map_append, List.sum_append, List.map_cons, List.map_nil, List.sum_cons, List.sum_nil,
      Work.weight]
    omega
  · rw [takeBatch_stale rs t hfresh]
    refine ⟨hbits, fun p => .refl _, ⟨[], by simp, by simp⟩, ?_⟩
    have hclear : clearBits (takeReports t.time.station t.faults rs).word ≤ clearBits t.faults.word :=
      clearBits_mono fun n => getLsbD_takeReports t.time.station n rs t.faults
    show 2 * clearBits (takeReports t.time.station t.faults rs).word + (t.due.map Work.weight).sum ≤ t.load + 0
    simp only [State.load]
    omega

theorem HandsOn.discardSteps (n : Nat) : ∀ {t : State}, HandsOn k s t → HandsOn k s (discardSteps n t) := by
  induction n with
  | zero => exact fun h => h
  | succ n ih =>
    intro t h
    have hstep : HandsOn k s (Machine.takeBatch t.record.discard.2.1 (t.withRecord t.record.discard.1)) :=
      (h.withRecord _).takeBatch _
    simp only [Machine.discardSteps]
    split
    · exact hstep
    · exact ih hstep

theorem HandsOn.append (h : HandsOn k s t) (e : Entry) : HandsOn k s (append e t) := by
  unfold Machine.append
  refine HandsOn.syncRecord (HandsOn.withRecord ?_ _)
  split
  · exact h.discardSteps _
  · exact h

/-! ### The schedule, the permit, the run and the retract -/

theorem HandsOn.decideMode (h : HandsOn k s t) : HandsOn k s (decideMode t) := by
  obtain ⟨x, y, he⟩ := decideMode_only t
  exact h.beside (by simp [he]) (by simp [he]) (by simp [he])

theorem HandsOn.permitChange (h : HandsOn k s t) (st : PermitState) (cause : PermitCause) :
    HandsOn k s (permitChange st cause t) := by
  unfold Machine.permitChange
  split
  · exact h
  · exact ((h.withPermit _).raisePermit _).decideMode

theorem HandsOn.closeRun (h : HandsOn k s t) (o : RunOutcome) : HandsOn k s (closeRun o t) := by
  unfold Machine.closeRun
  split
  · exact h
  · exact (h.closedRun _).append _

theorem HandsOn.endOp (h : HandsOn k s t) (o : OpOutcome) (r : OpResults) : HandsOn k s (endOp o r t) := by
  unfold Machine.endOp
  split
  · exact h
  · exact (h.onCable _).raiseEvent _

theorem HandsOn.beginReelHome (h : HandsOn k s t) : HandsOn k s (beginReelHome t).1 := by
  unfold Machine.beginReelHome
  split
  · exact h.onCable (·.zero .reel)
  · exact h.onCable (·.energise .reelUp true t.time.elapsed)

theorem HandsOn.beginTraverseHome (h : HandsOn k s t) : HandsOn k s (beginTraverseHome t).1 := by
  unfold Machine.beginTraverseHome
  split
  · exact h.onCable (·.zero .traverse)
  · exact h.onCable fun c => c.energise .traverseIn c.homingFast t.time.elapsed

theorem HandsOn.retractTraverse (h : HandsOn k s t) : HandsOn k s (retractTraverse t) := by
  simp only [Machine.retractTraverse]
  split
  · exact h.beginTraverseHome.onCable _
  · simp only [Machine.finishRetract]
    split
    · exact (h.beginTraverseHome.onCable _).permitChange _ _
    · exact h.beginTraverseHome.onCable _

theorem HandsOn.startRetract (h : HandsOn k s t) : HandsOn k s (startRetract t) := by
  simp only [Machine.startRetract, Machine.retractReel]
  split
  · split
    · exact h.beginReelHome.onCable _
    · exact h.beginReelHome.retractTraverse
  · exact h.onCable _

theorem HandsOn.permitTest (h : HandsOn k s t) : HandsOn k s (permitTest t) := by
  unfold Machine.permitTest
  split
  · split
    · exact ((((h.onCable _).endOp _ _).closeRun _).permitChange _ _).startRetract
    · exact h
  · exact h

/-! ### The warning -/

theorem HandsOn.sirenOff (h : HandsOn k s t) : HandsOn k s (sirenOff t) := by
  unfold Machine.sirenOff
  split
  · exact (h.withWarning _).raiseEvent _
  · exact h

theorem HandsOn.sirenOnRise (h : HandsOn k s t) : HandsOn k s (sirenOnRise t) := by
  have hw : ∀ w, HandsOn k s (t.withWarning w) := h.withWarning
  simp only [Machine.sirenOnRise]
  split
  · split
    · exact hw _
    · exact (hw _).raiseEvent _
  · exact h

theorem HandsOn.sirenOnFall (h : HandsOn k s t) : HandsOn k s (sirenOnFall t) := by
  unfold Machine.sirenOnFall
  split
  · exact h.sirenOff
  · exact h

theorem HandsOn.owePermitTest (h : HandsOn k s t) : HandsOn (k + 1) s (t.owe [.permitTest]) := by
  refine h.trans ⟨fun _ h => h, fun _ => .refl _, ⟨_, rfl, by simp⟩, ?_⟩
  simp only [State.load, due_owe, List.map_append, List.sum_append]
  simp [State.owe, Work.weight, Nat.add_assoc]

theorem HandsOn.changeLevel (h : HandsOn k s t) (n : Nat) (c : WarningCause) :
    HandsOn (k + 1) s (changeLevel n c t) := by
  have hbefore : ∀ (w : Warning) (e : Entry), HandsOn (k + 1) s ((Machine.decideMode (Machine.append e (t.withWarning w))).owe
      [.permitTest]) := fun w e => ((h.withWarning w).append e).decideMode.owePermitTest
  simp only [Machine.changeLevel]
  split
  · exact (hbefore _ _).sirenOnRise.raiseEvent _
  · exact (hbefore _ _).sirenOnFall.raiseEvent _

theorem HandsOn.computeLevel (h : HandsOn k s t) (b : Bool) : HandsOn (k + 1) s (computeLevel b t) := by
  rcases computeLevel_cases t b with ⟨c, -, -, he⟩ | ⟨hold, -, -, he⟩ <;> rw [he]
  · exact (h.withWarning _).changeLevel _ c
  · exact ⟨h.bits, h.events, h.owes, h.load.trans (by omega)⟩

/-- Every piece of work but a completion is a hand-on that adds less than its own weight. -/
theorem handsOn_doWork {w : Work} (hw : w ≠ .completion) (s : State) : HandsOn (w.weight - 1) s (doWork w s) := by
  have h := HandsOn.refl s
  cases w with
  | batch rs => exact h.takeBatch rs
  | faultRound word => exact (h.withWarning _).computeLevel true
  | stageRound => exact (h.withWarning _).computeLevel true
  | permitTest => exact h.permitTest
  | sampleEntry time cause => exact h.append _
  | completion => exact absurd rfl hw

/-! ### The agenda comes to an end -/

/-- The state after the first of what is owed has been done. -/
def State.afterFirst (s : State) (w : Work) (rest : List Work) : State :=
  (doWork w (s.withDue [])).withDue ((doWork w (s.withDue [])).due ++ rest)

theorem drain_cons {w : Work} {rest : List Work} (h : s.due = w :: rest) (n : Nat) :
    drain (n + 1) s = drain n (s.afterFirst w rest) := by
  simp only [drain, h, State.afterFirst]

theorem drain_nil (h : s.due = []) (n : Nat) : drain n s = s := by
  cases n with
  | zero => rfl
  | succ n => simp only [drain, h]

section
variable {w : Work} {rest : List Work} (hn : NoCompletion s) (h : s.due = w :: rest)

include hn h

theorem ne_completion_of_first : w ≠ .completion := by
  rintro rfl
  exact hn (h ▸ List.mem_cons_self)

theorem NoCompletion.afterFirst : NoCompletion (s.afterFirst w rest) := by
  have hdone : NoCompletion (Machine.doWork w (s.withDue [])) :=
    NoCompletion.doWork (s := s.withDue []) (by simp [NoCompletion]) w (ne_completion_of_first hn h)
  exact fun hm => (List.mem_append.1 hm).elim hdone fun hr => hn (h ▸ List.mem_cons_of_mem w hr)

/-- Doing the first of what is owed lightens the load. -/
theorem load_afterFirst : (s.afterFirst w rest).load < s.load := by
  have hw := ne_completion_of_first hn h
  have hload := (handsOn_doWork hw (s.withDue [])).load
  have hweight : 0 < w.weight := by
    cases w with
    | completion => exact absurd rfl hw
    | _ => simp [Work.weight]
  have hafter : (s.afterFirst w rest).load = (doWork w (s.withDue [])).load + (rest.map Work.weight).sum := by
    simp only [State.load, State.afterFirst, State.withDue_due, State.withDue_faults, List.map_append, List.sum_append]
    omega
  have hbefore : s.load = (s.withDue []).load + w.weight + (rest.map Work.weight).sum := by
    simp only [State.load, h, State.withDue_due, State.withDue_faults, List.map_cons, List.sum_cons, List.map_nil,
      List.sum_nil]
    omega
  omega

end

/-- With fuel for its load, the agenda comes to its end, and more fuel changes nothing. -/
theorem drain_ends : ∀ (n : Nat) {s : State}, NoCompletion s → s.load ≤ n →
    (drain n s).due = [] ∧ ∀ m, n ≤ m → drain m s = drain n s := by
  intro n
  induction n with
  | zero =>
    intro s hn hl
    cases hd : s.due with
    | nil => exact ⟨hd, fun m _ => (drain_nil hd m).trans (drain_nil hd 0).symm⟩
    | cons w rest =>
      have := load_afterFirst hn hd
      omega
  | succ n ih =>
    intro s hn hl
    cases hd : s.due with
    | nil => exact ⟨by rw [drain_nil hd]; exact hd, fun m _ => (drain_nil hd m).trans (drain_nil hd (n + 1)).symm⟩
    | cons w rest =>
      have hlt := load_afterFirst hn hd
      obtain ⟨hend, hmore⟩ := ih (hn.afterFirst hd) (show (s.afterFirst w rest).load ≤ n by omega)
      refine ⟨by rw [drain_cons hd]; exact hend, fun m hm => ?_⟩
      obtain ⟨m, rfl⟩ : ∃ k, m = k + 1 := ⟨m - 1, by omega⟩
      rw [drain_cons hd, drain_cons hd]
      exact hmore m (by omega)

/-- A step's load is within the fuel of `settle` when few things are owed. -/
theorem load_le (hw : (s.due.map Work.weight).sum ≤ 100) : s.load ≤ 400 := by
  have := clearBits_le s.faults.word
  simp only [State.load]
  omega

/-- What is owed is done one thing after the other. -/
theorem settle_cons (hn : NoCompletion s) (hl : s.load ≤ 400) {w : Work} {rest : List Work} (h : s.due = w :: rest) :
    settle s = settle (s.afterFirst w rest) := by
  have hlt := load_afterFirst hn h
  unfold settle
  rw [show (400 : Nat) = 399 + 1 from rfl, drain_cons h,
    (drain_ends 399 (hn.afterFirst h) (by omega)).2 (399 + 1) (by omega)]

/-- Making a step whole is a chain of hand-ons. -/
theorem settle_bits (hn : NoCompletion s) {f : StationFault} (h : bitSet s.faults.word f = true) :
    bitSet (settle s).faults.word f = true :=
  settle_keeps_uncompleted (fun t => bitSet t.faults.word f = true) (fun _ _ h => h)
    (fun t _ hw h => (handsOn_doWork hw t).bits f h) hn h

theorem settle_events (hn : NoCompletion s) (p : Port) :
    (s.ports.get p).events.Within ((settle s).ports.get p).events :=
  settle_keeps_uncompleted (fun t => (s.ports.get p).events.Within (t.ports.get p).events) (fun _ _ h => h)
    (fun t _ hw h => h.trans ((handsOn_doWork hw t).events p)) hn (.refl _)

end

end Sys2Proof.Machine

/-! The warning level's moves (sections 6.6 to 6.9) and the fault rounds that leave it. -/

namespace Sys2Proof.Machine

/-! ### The level computation, case by case (R101 to R104) -/

section
variable {s : State} (b : Bool)

/-- The warning unit with its target formed. -/
def Warning.targeted (w : Warning) : Warning := { w with target := w.formTarget }

/-- The cause of a rise (R102). -/
def riseCause (byRound : Bool) (target : Nat) (rules : List Rule) : WarningCause :=
  match byRound, lowestRule target 0 rules with
  | true, some n => .rule n
  | true, none => .manual
  | false, _ => .manual

theorem computeLevel_rises (h : s.warning.level < s.warning.formTarget) :
    computeLevel b s = changeLevel s.warning.formTarget (riseCause b s.warning.formTarget s.warning.rules)
      (s.withWarning s.warning.targeted) := by
  unfold computeLevel
  dsimp only [State.withWarning_warning]
  simp only [h, ↓reduceIte]
  rfl

theorem computeLevel_falls (h : s.warning.formTarget < s.warning.level) (hold : s.warning.hold = none)
    (hmin : s.warning.holdMin = 0) :
    computeLevel b s = changeLevel s.warning.formTarget .holdExpiry (s.withWarning s.warning.targeted) := by
  unfold computeLevel
  dsimp only [State.withWarning_warning]
  simp only [h.not_gt, h, hold, hmin, ↓reduceIte, Warning.targeted]

/-- L stays where the target does not rise above it, with the hold timer running below it (R103, R104). -/
theorem computeLevel_stays (hle : s.warning.formTarget ≤ s.warning.level)
    (hno : ¬(s.warning.formTarget < s.warning.level ∧ s.warning.hold = none ∧ s.warning.holdMin = 0)) :
    computeLevel b s
      = s.withWarning
          { s.warning with
            target := s.warning.formTarget
            hold := if s.warning.formTarget < s.warning.level then
                some (s.warning.hold.getD (after s.time.elapsed (s.warning.holdMin * 60000)))
              else none } := by
  unfold computeLevel
  dsimp only [State.withWarning_warning]
  simp only [hle.not_gt, ↓reduceIte]
  by_cases hlt : s.warning.formTarget < s.warning.level
  · cases hold : s.warning.hold with
    | some t => simp only [hlt, ↓reduceIte, Option.getD_some]
    | none =>
      have hmin : s.warning.holdMin ≠ 0 := fun h0 => hno ⟨hlt, hold, h0⟩
      simp only [hlt, hmin, ↓reduceIte, Option.getD_none, State.withWarning_twice]
      rfl
  · simp only [hlt, ↓reduceIte, State.withWarning_twice]

end

/-! ### Fault rounds that no rule watches -/

section
variable {s : State}

/-- A sound warning unit is where its level computation would put it. -/
theorem computeLevel_sound (h : WarningSound s.warning) (b : Bool) : computeLevel b s = s := by
  have htarget := h.target
  have hup := h.upheld
  have hhold := h.hold
  rw [htarget] at hup hhold
  rw [computeLevel_stays b hup (fun hno => by rw [hno.2.1] at hhold; simp at hhold; omega)]
  have hsame : (if s.warning.formTarget < s.warning.level then
      some (s.warning.hold.getD (after s.time.elapsed (s.warning.holdMin * 60000))) else none) = s.warning.hold := by
    split
    · rename_i hlt
      obtain ⟨t, ht⟩ := Option.isSome_iff_exists.1 (hhold.2 hlt)
      rw [ht]
      rfl
    · rename_i hlt
      exact (Option.not_isSome_iff_eq_none.1 (mt hhold.1 hlt)).symm
  rw [hsame, ← htarget]
  exact State.withWarning_same s

theorem evaluateRound_unwatched (h : ∀ r ∈ s.warning.rules, r.quantity = .faults → r.enabled = false) (word : U32) :
    evaluateRound true word s = s := by
  have hrules : (s.warning.rules.map fun r => r.inRound true word s) = s.warning.rules := by
    refine (List.map_congr_left (g := id) fun r hr => ?_).trans (List.map_id _)
    unfold Rule.inRound
    refine if_neg fun hin => ?_
    simp only [Bool.not_true, Bool.false_or, Bool.and_eq_true, decide_eq_true_eq] at hin
    exact Bool.noConfusion ((h r hr hin.2).symm.trans hin.1)
  rw [evaluateRound, hrules]
  exact State.withWarning_same s

theorem faultRound_unwatched (h : Unwatched s.warning) (word : U32) : faultRound word s = s := by
  rw [faultRound, evaluateRound_unwatched h.rules, computeLevel_sound h.sound]

/-! ### Making a step whole without a completion or a stage round -/

/-- What a kind of work keeps, making a step whole keeps, where fault rounds and permit tests are of that kind. -/
theorem settle_keeps_within (A : Work → Prop) (hA : ∀ w, A w → w ≠ .completion) (htest : A .permitTest)
    (hround : ∀ word, A (.faultRound word)) (P : State → Prop) (hdue : ∀ s ws, P s → P (s.withDue ws))
    (hwork : ∀ s w, A w → P s → P (doWork w s)) (hs : ∀ w ∈ s.due, A w) (h : P s) : P (settle s) := by
  have hdrain : ∀ (n : Nat) (s : State), (∀ w ∈ s.due, A w) → P s → P (drain n s) := by
    intro n
    induction n with
    | zero => exact fun s _ h => h
    | succ n ih =>
      intro s hs h
      cases hd : s.due with
      | nil => rwa [drain_nil hd]
      | cons w rest =>
        rw [hd] at hs
        have hw : A w := hs w List.mem_cons_self
        rw [drain_cons hd]
        refine ih _ (fun x hx => ?_) (hdue _ _ (hwork _ w hw (hdue _ _ h)))
        obtain ⟨ws, hws, hall⟩ := (handsOn_doWork (hA w hw) (s.withDue [])).owes
        rcases List.mem_append.1 hx with hx | hx
        · rw [hws] at hx
          rcases hall x hx with rfl | ⟨word, rfl⟩
          · exact htest
          · exact hround word
        · exact hs x (List.mem_cons_of_mem w hx)
  exact hdue _ _ (hdrain 400 s hs h)

/-! ### What leaves the warning unit -/

@[simp] theorem takeBatch_warning (rs : List Report) (s : State) : (takeBatch rs s).warning = s.warning := by
  obtain ⟨_, _, _, h⟩ := takeBatch_frame rs s
  simp [h]

@[simp] theorem permitChange_warning (st : PermitState) (cause : PermitCause) (s : State) :
    (permitChange st cause s).warning = s.warning := by
  obtain ⟨_, _, _, _, h⟩ := permitChange_only st cause s
  simp [h]

@[simp] theorem closeRun_warning (o : RunOutcome) (s : State) : (closeRun o s).warning = s.warning := by
  obtain ⟨_, _, _, _, _, _, _, h⟩ := closeRun_only o s
  simp [h]

@[simp] theorem onCable_warning (f : Cableway → Cableway) (s : State) : (onCable f s).warning = s.warning := rfl

@[simp] theorem endOp_warning (o : OpOutcome) (r : OpResults) (s : State) : (endOp o r s).warning = s.warning := by
  unfold endOp
  split <;> rfl

@[simp] theorem beginReelHome_warning (s : State) : (beginReelHome s).1.warning = s.warning := by
  unfold beginReelHome
  split <;> rfl

@[simp] theorem beginTraverseHome_warning (s : State) : (beginTraverseHome s).1.warning = s.warning := by
  unfold beginTraverseHome
  split <;> rfl

@[simp] theorem retractTraverse_warning (s : State) : (retractTraverse s).warning = s.warning := by
  simp only [retractTraverse, setRetract, finishRetract]
  split
  · simp
  · split <;> simp

@[simp] theorem startRetract_warning (s : State) : (startRetract s).warning = s.warning := by
  simp only [startRetract, retractReel, setRetract]
  split
  · split <;> simp
  · rfl

@[simp] theorem permitTest_warning (s : State) : (permitTest s).warning = s.warning := by
  unfold permitTest
  split
  · split
    · simp [standDown, cutDrives]
    · rfl
  · rfl

/-- No fault round moves a warning unit that no rule lets watch the fault word. -/
theorem settle_unwatched (h : Unwatched s.warning) (hs : ∀ w ∈ s.due, w ≠ .completion ∧ w ≠ .stageRound) :
    (settle s).warning = s.warning := by
  refine settle_keeps_within (fun w => w ≠ .completion ∧ w ≠ .stageRound) (fun _ hw => hw.1) (by simp) (by simp)
    (fun t => t.warning = s.warning) (fun _ _ h => h) (fun t w hw ht => ?_) hs rfl
  cases w with
  | batch rs => rw [doWork, takeBatch_warning, ht]
  | faultRound word => rw [doWork, faultRound_unwatched (by rwa [ht]), ht]
  | stageRound => exact absurd rfl hw.2
  | permitTest => rw [doWork, permitTest_warning, ht]
  | sampleEntry time cause => rw [doWork, append_warning, ht]
  | completion => exact absurd rfl hw.1

/-! ### A permit that is shut, and a record with room -/

/-- Where a permit test alone is owed and the permit is not OPEN, nothing is left to do. -/
theorem settle_permitTest_shut (h : s.due = [.permitTest]) (hp : s.permit.record.state ≠ .open_) :
    settle s = s.withDue [] := by
  have hn : NoCompletion s := by simp [NoCompletion, h]
  have hfirst : s.afterFirst .permitTest [] = s.withDue [] := by
    rw [State.afterFirst, doWork, permitTest_shut (by exact hp)]
    rfl
  rw [settle_cons hn (load_le (by simp [h, Work.weight])) h, hfirst]
  exact settle_of_due_nil _ rfl

/-- The part after a change of L has reached the record, the schedule and the permit (R106). -/
def levelHanded (new : Nat) (cause : WarningCause) (s : State) : State :=
  (decideMode (append (.warning s.time.station s.warning.level new cause)
    (s.withWarning
      { s.warning with level := new, hold := none, beacon := startBeacon new s.time.elapsed }))).owe [.permitTest]

theorem changeLevel_eq (new : Nat) (cause : WarningCause) (s : State) : changeLevel new cause s
    = raiseEvent .level
        (if s.warning.level < new then sirenOnRise (levelHanded new cause s)
         else sirenOnFall (levelHanded new cause s)) := rfl

theorem levelHanded_warning (new : Nat) (cause : WarningCause) (s : State) : (levelHanded new cause s).warning
    = { s.warning with level := new, hold := none, beacon := startBeacon new s.time.elapsed } := by
  simp [levelHanded]

/-- What a change of L enters, with room in the record. -/
def levelEntered (new : Nat) (cause : WarningCause) (s : State) : State :=
  let w : Warning := { s.warning with level := new, hold := none, beacon := startBeacon new s.time.elapsed }
  syncRecord ((s.withWarning w).withRecord
    (s.record.placeOrRenumber (.warning s.time.station s.warning.level new cause) s.time.station))

theorem levelHanded_with_room (hroom : s.record.full = false) (new : Nat) (cause : WarningCause) :
    levelHanded new cause s = (decideMode (levelEntered new cause s)).owe [.permitTest] := by
  rw [levelHanded, append_of_not_full (by exact hroom)]
  rfl

/-- The siren's part of a change of L reaches the warning unit and the ports alone. -/
theorem sirenOff_only (s : State) : ∃ x y, sirenOff s = (s.withWarning x).withPorts y := by
  unfold sirenOff
  split
  · exact ⟨_, _, rfl⟩
  · exact ⟨s.warning, s.ports, by simp⟩

theorem sirenOnRise_only (s : State) : ∃ x y, sirenOnRise s = (s.withWarning x).withPorts y := by
  simp only [sirenOnRise]
  split
  · split
    · exact ⟨{ s.warning with siren := some (after s.time.elapsed (s.warning.sirenRun * 60000)) }, s.ports, rfl⟩
    · exact ⟨_, _, rfl⟩
  · exact ⟨s.warning, s.ports, by simp⟩

theorem sirenOnFall_only (s : State) : ∃ x y, sirenOnFall s = (s.withWarning x).withPorts y := by
  unfold sirenOnFall
  split
  · exact sirenOff_only s
  · exact ⟨s.warning, s.ports, by simp⟩

theorem raiseEvent_sirenOnRise_only (e : Event) (s : State) :
    ∃ x y, raiseEvent e (sirenOnRise s) = (s.withWarning x).withPorts y := by
  obtain ⟨x, y, h⟩ := sirenOnRise_only s
  rw [h]
  exact ⟨x, _, rfl⟩

theorem raiseEvent_sirenOnFall_only (e : Event) (s : State) :
    ∃ x y, raiseEvent e (sirenOnFall s) = (s.withWarning x).withPorts y := by
  obtain ⟨x, y, h⟩ := sirenOnFall_only s
  rw [h]
  exact ⟨x, _, rfl⟩

section
variable (hroom : s.record.full = false) (new : Nat) (cause : WarningCause)

include hroom

/-- A change of L with room in the record: its entry, its mode and the permit test it owes (R106). -/
theorem changeLevel_reaches :
    (changeLevel new cause s).record
        = s.record.placeOrRenumber (.warning s.time.station s.warning.level new cause) s.time.station
      ∧ (changeLevel new cause s).faults = s.faults
      ∧ (changeLevel new cause s).due = s.due ++ [.permitTest]
      ∧ (changeLevel new cause s).schedule.mode = modeNow (levelEntered new cause s) := by
  obtain ⟨x, y, hentered⟩ : ∃ x y, changeLevel new cause s
      = ((levelHanded new cause s).withWarning x).withPorts y := by
    rw [changeLevel_eq]
    by_cases h : s.warning.level < new
    · rw [if_pos h]
      exact raiseEvent_sirenOnRise_only .level (levelHanded new cause s)
    · rw [if_neg h]
      exact raiseEvent_sirenOnFall_only .level (levelHanded new cause s)
  rw [levelHanded_with_room hroom] at hentered
  rw [hentered]
  simp only [State.owe, State.withPorts_record, State.withWarning_record, State.withDue_record, decideMode_record,
    State.withPorts_faults, State.withWarning_faults, State.withDue_faults, decideMode_faults, State.withPorts_due,
    State.withWarning_due, State.withDue_due, due_decideMode, State.withPorts_schedule, State.withWarning_schedule,
    State.withDue_schedule, decideMode_mode]
  exact ⟨rfl, rfl, rfl, trivial⟩

end

/-! ### The events of a change of L (R106, R109, R112) -/

theorem raiseEvent_level (s : State) (p : Port) : ((raiseEvent .level s).ports.get p).events.level = true := by
  cases p <;> rfl

theorem raiseEvent_level_siren (s : State) :
    (raiseEvent .level s).ports.warning.events.siren = s.ports.warning.events.siren := rfl

theorem sirenOff_event (h : s.warning.siren ≠ none) : (sirenOff s).ports.warning.events.siren = true := by
  rw [sirenOff, if_pos (Option.isSome_iff_ne_none.2 h)]
  rfl

theorem changeLevel_level (new : Nat) (cause : WarningCause) (s : State) (p : Port) :
    ((changeLevel new cause s).ports.get p).events.level = true := raiseEvent_level _ p

theorem sirenOnRise_event (h : s.warning.siren.isSome ≠ (sirenOnRise s).warning.siren.isSome) :
    (sirenOnRise s).ports.warning.events.siren = true := by
  simp only [sirenOnRise] at h ⊢
  by_cases hl : s.warning.sirenLevel ≠ 0 ∧ s.warning.sirenLevel ≤ s.warning.level
  · by_cases hs : s.warning.siren.isSome = true
    · simp [hl, hs] at h
    · rw [if_pos hl, if_neg hs]
      rfl
  · simp only [hl, ↓reduceIte, ne_eq, not_true_eq_false] at h

theorem sirenOnFall_event (h : s.warning.siren.isSome ≠ (sirenOnFall s).warning.siren.isSome) :
    (sirenOnFall s).ports.warning.events.siren = true := by
  unfold sirenOnFall at h ⊢
  by_cases hl : s.warning.level < s.warning.sirenLevel
  · rw [if_pos hl, sirenOff_warning] at h
    rw [if_pos hl]
    exact sirenOff_event fun hnone => by simp [hnone] at h
  · simp only [hl, ↓reduceIte, ne_eq, not_true_eq_false] at h

/-- A turn of the siren by a change of L is a SIREN event (R109, R112). -/
theorem changeLevel_siren (new : Nat) (cause : WarningCause) (s : State)
    (h : s.warning.siren.isSome ≠ (s.warning.sirenAfter new s.time.elapsed).isSome) :
    (changeLevel new cause s).ports.warning.events.siren = true := by
  have hsiren : (changeLevel new cause s).warning.siren = s.warning.sirenAfter new s.time.elapsed := by
    rw [changeLevel_warning]
  have hbefore : (levelHanded new cause s).warning.siren = s.warning.siren := by rw [levelHanded_warning]
  rw [← hsiren, ← hbefore] at h
  rw [changeLevel_eq] at h ⊢
  by_cases hup : s.warning.level < new
  · rw [if_pos hup, raiseEvent_warning] at h
    rw [if_pos hup, raiseEvent_level_siren]
    exact sirenOnRise_event h
  · rw [if_neg hup, raiseEvent_warning] at h
    rw [if_neg hup, raiseEvent_level_siren]
    exact sirenOnFall_event h

end

end Sys2Proof.Machine

/-! The warning unit's commands and timers: the floor, the acknowledgement, the configuration and the expiries. -/

namespace Sys2Proof.Machine

/-! ### A change of L, made whole -/

section
variable {s : State} (hdue : s.due = []) (new : Nat) (cause : WarningCause)

/-- The warning unit after a change of L (R102, R105, R106). -/
def Warning.movedTo (w : Warning) (new : Nat) (now : U32) : Warning :=
  { w with level := new, hold := none, beacon := startBeacon new now, siren := w.sirenAfter new now }

include hdue

theorem noCompletion_changeLevel : NoCompletion (changeLevel new cause s) :=
  (NoCompletion.of_due_nil hdue).changeLevel new cause

theorem settle_changeLevel_kept : (settle (changeLevel new cause s)).kept = s.kept := by
  rw [kept_settle _ (noCompletion_changeLevel hdue new cause), kept_changeLevel]

theorem settle_changeLevel_level (p : Port) :
    ((settle (changeLevel new cause s)).ports.get p).events.level = true :=
  (settle_events (noCompletion_changeLevel hdue new cause) p).level (changeLevel_level new cause s p)

theorem settle_changeLevel_siren
    (h : s.warning.siren.isSome ≠ (s.warning.sirenAfter new s.time.elapsed).isSome) :
    (settle (changeLevel new cause s)).ports.warning.events.siren = true :=
  (settle_events (noCompletion_changeLevel hdue new cause) .warning).siren (changeLevel_siren new cause s h)

/-- Where no rule watches the fault word, the hand-ons leave the new L. -/
theorem settle_changeLevel_unwatched (h : Unwatched (s.warning.movedTo new s.time.elapsed)) :
    (settle (changeLevel new cause s)).warning = s.warning.movedTo new s.time.elapsed := by
  have hw : (changeLevel new cause s).warning = s.warning.movedTo new s.time.elapsed := changeLevel_warning ..
  obtain ⟨ws, hws, hall⟩ := ((HandsOn.refl s).changeLevel new cause).owes
  rw [settle_unwatched (by rwa [hw]) fun w hm => ?_, hw]
  rw [hws, hdue, List.nil_append] at hm
  rcases hall w hm with rfl | ⟨word, rfl⟩ <;> simp

variable (hroom : s.record.full = false) (hp : s.permit.record.state ≠ .open_)

include hroom hp

/-- With room in the record and the permit not OPEN, a change of L owes nothing that does anything. -/
theorem settle_changeLevel_apart : settle (changeLevel new cause s) = (changeLevel new cause s).withDue [] := by
  refine settle_permitTest_shut ?_ ?_
  · rw [(changeLevel_reaches hroom new cause).2.2.1, hdue, List.nil_append]
  · rw [steady_permit (steady_changeLevel s new cause)]
    exact hp

theorem settle_changeLevel_reaches :
    (settle (changeLevel new cause s)).warning = s.warning.movedTo new s.time.elapsed
      ∧ (settle (changeLevel new cause s)).record
        = s.record.placeOrRenumber (.warning s.time.station s.warning.level new cause) s.time.station
      ∧ (settle (changeLevel new cause s)).faults = s.faults
      ∧ (settle (changeLevel new cause s)).permit = s.permit
      ∧ ((settle (changeLevel new cause s)).schedule.mode = .fast ↔
          (s.schedule.fastLevel ≠ 0 ∧ s.schedule.fastLevel ≤ new) ∨ s.permit.record.state = .standingDown) := by
  obtain ⟨hrecord, hfaults, -, hmode⟩ := changeLevel_reaches hroom new cause
  rw [settle_changeLevel_apart hdue new cause hroom hp]
  simp only [State.withDue_warning, State.withDue_record, State.withDue_faults, State.withDue_permit,
    State.withDue_schedule]
  refine ⟨changeLevel_warning new cause s, hrecord, hfaults, steady_permit (steady_changeLevel s new cause), ?_⟩
  rw [hmode, modeNow_eq_fast_iff]
  have hpermit : (levelEntered new cause s).permit = s.permit := rfl
  have hlevel : (levelEntered new cause s).warning.level = new := rfl
  have hschedule : (levelEntered new cause s).schedule = s.schedule := rfl
  rw [hpermit, hlevel, hschedule, or_iff_right (a := _ = PermitState.open_) hp]

end

/-! ### The floor (R107, R108) -/

theorem startBeacon_eq (level : Nat) (now : U32) : startBeacon level now
    = if level = 0 then none
      else some { on := true, until_ := now + (if level = 1 ∨ level = 2 ∨ level = 3 then 100#32 else 500#32) } := by
  unfold startBeacon
  split
  · rfl
  · rename_i h0
    match level, h0 with
    | 1, _ => rfl
    | 2, _ => rfl
    | 3, _ => rfl
    | n + 4, _ => rfl

theorem exec_raiseManual (l : Byte) (s : State) :
    exec (.raiseManual .warning l) s = execRaiseManual .warning l s := rfl

theorem exec_clearManual (s : State) : exec (.clearManual .warning) s = execClearManual .warning s := rfl

/-- The warning unit with a floor and its target. -/
def Warning.floored (w : Warning) (floor : Nat) : Warning :=
  { w with floor := floor, target := max floor (countingLevel w.rules) }

/-- The part after the floor has been set and the level computed. -/
def floorSet (floor : Nat) (s : State) : State :=
  computeLevel false (s.withWarning { s.warning with floor := floor })

theorem setFloor_eq (floor : Nat) (s : State) :
    setFloor floor s = (settle (floorSet floor s), floorAnswer (floorSet floor s).warning) := rfl

/-- What a floor command gives where it moves L. -/
theorem floorSet_moved {s : State} (floor : Nat) {target : Nat} (ht : target = max floor (countingLevel s.warning.rules))
    (hmove : s.warning.level < target
      ∨ (target < s.warning.level ∧ s.warning.hold = none ∧ s.warning.holdMin = 0)) :
    floorSet floor s = changeLevel target (if s.warning.level < target then .manual else .holdExpiry)
      (s.withWarning (s.warning.floored floor)) := by
  subst ht
  rcases hmove with hup | ⟨hdown, hold, hmin⟩
  · rw [if_pos hup]
    exact computeLevel_rises (s := s.withWarning { s.warning with floor := floor }) false hup
  · rw [if_neg hdown.not_gt]
    exact computeLevel_falls (s := s.withWarning { s.warning with floor := floor }) false hdown hold hmin

theorem floorSet_stays {s : State} (floor : Nat) {target : Nat} (ht : target = max floor (countingLevel s.warning.rules))
    (hle : target ≤ s.warning.level)
    (hno : ¬(target < s.warning.level ∧ s.warning.hold = none ∧ s.warning.holdMin = 0)) :
    floorSet floor s = s.withWarning
      { s.warning with
        floor := floor, target := target
        hold := if target < s.warning.level then
            some (s.warning.hold.getD (s.time.elapsed + BitVec.ofNat 32 (s.warning.holdMin * 60000)))
          else none } := by
  subst ht
  exact computeLevel_stays (s := s.withWarning { s.warning with floor := floor }) false hle hno

/-- Settles O40: the level computation with the new floor, and a change of L made whole. -/
theorem floorMoves : Obligations.FloorMoves := by
  unfold Obligations.FloorMoves
  intro s moves
  have hmoves : ∀ (c : Instr) (floor : Nat), s.due = [] →
      Gives .warning c s (settle (floorSet floor s)) (floorAnswer (floorSet floor s).warning) → moves c floor := by
    intro c floor hdue hgives
    dsimp only [moves]
    generalize ht : max floor (countingLevel s.warning.rules) = target
    by_cases hmove : s.warning.level < target
        ∨ (target < s.warning.level ∧ s.warning.hold = none ∧ s.warning.holdMin = 0)
    · have hlevel : (if s.warning.level < target then target
          else if target < s.warning.level ∧ s.warning.hold = none ∧ s.warning.holdMin = 0 then target
          else s.warning.level) = target := by
        split
        · rfl
        · exact if_pos (hmove.resolve_left ‹_›)
      simp only [hlevel, ← startBeacon_eq]
      have hne : target ≠ s.warning.level := by
        rintro rfl
        exact hmove.elim (lt_irrefl _) fun h => lt_irrefl _ h.1
      rw [floorSet_moved floor ht.symm hmove] at hgives
      generalize (if s.warning.level < target then WarningCause.manual else .holdExpiry) = cause at hgives ⊢
      have hdue' : (s.withWarning (s.warning.floored floor)).due = [] := hdue
      have hsiren : s.warning.sirenAfter target s.time.elapsed
          = if s.warning.level < target then
              if s.warning.sirenLevel ≠ 0 ∧ s.warning.sirenLevel ≤ target then
                some (s.time.elapsed + BitVec.ofNat 32 (s.warning.sirenRun * 60000))
              else s.warning.siren
            else if target < s.warning.sirenLevel then none else s.warning.siren := rfl
      simp only [← hsiren]
      have hmoved : (s.warning.floored floor).movedTo target s.time.elapsed
          = { s.warning with
              floor := floor, target := target, level := target, hold := none
              siren := s.warning.sirenAfter target s.time.elapsed, beacon := startBeacon target s.time.elapsed } := by
        rw [← ht]
        rfl
      rw [← hmoved]
      refine ⟨settle (changeLevel target cause (s.withWarning (s.warning.floored floor))), ?gives,
        settle_changeLevel_kept hdue' target cause, fun h => absurd h hne,
        fun _ => ⟨settle_changeLevel_level hdue' target cause, settle_changeLevel_siren hdue' target cause,
          fun hquiet => ?warning, fun ⟨hroom, hp⟩ => ?apart⟩⟩
      case gives =>
        refine (congrArg _ ?_).mp hgives
        rw [changeLevel_warning, ← ht]
        rfl
      case warning =>
        rcases hquiet with ⟨hroom, hp⟩ | hquiet
        · exact (settle_changeLevel_reaches hdue' target cause hroom hp).1
        · refine settle_changeLevel_unwatched hdue' target cause ⟨?_, hquiet.rules⟩
          have hsound := warningSound_changeLevel (s := s.withWarning (s.warning.floored floor)) cause hquiet.sound.rules
            rfl hquiet.sound.siren
          rw [changeLevel_warning] at hsound
          rw [← ht]
          exact hsound
      case apart =>
        exact (settle_changeLevel_reaches hdue' target cause hroom hp).2
    · have hle : target ≤ s.warning.level := not_lt.1 fun h => hmove (.inl h)
      have hno : ¬(target < s.warning.level ∧ s.warning.hold = none ∧ s.warning.holdMin = 0) :=
        fun h => hmove (.inr h)
      simp only [hle.not_gt, hno, ↓reduceIte, ne_eq, not_true_eq_false, false_implies, and_true, true_implies]
      rw [floorSet_stays floor ht.symm hle hno, settle_of_due_nil _ (by exact hdue)] at hgives
      exact ⟨_, hgives, rfl, rfl⟩
  refine ⟨fun l hj => ⟨fun hl => hmoves _ _ hj.2.2 ?raise, fun hl => ?range⟩, fun hj => hmoves _ _ hj.2.2 ?clear⟩
  case raise => exact gives_of_work hj (exec_raiseManual l s) (by simp [inRange, hl, setFloor_eq])
  case range => exact gives_of_work hj (exec_raiseManual l s) (by simp [inRange, hl])
  case clear => exact gives_of_work hj (exec_clearManual s) (setFloor_eq 0 s)

/-! ### The siren (R110, R111) -/

theorem exec_ackSiren (s : State) : exec (.ackSiren .warning) s = execAckSiren .warning s := rfl

theorem exec_sirenTimeout (s : State) : exec .sirenTimeout s = event expireSiren s := rfl

theorem noCompletion_ackSiren {s : State} (hdue : s.due = []) : NoCompletion (ackSiren s) := by
  have h : NoCompletion (s.withWarning { s.warning with siren := none }) := NoCompletion.of_due_nil hdue
  exact (h.append (.warning s.time.station s.warning.level s.warning.level .ack)).of_due (due_raiseEvent ..)

theorem kept_ackSiren (s : State) : (ackSiren s).kept = s.kept := by
  rw [ackSiren, kept_raiseEvent, kept_append]
  exact kept_withWarning s _ ⟨rfl, rfl, rfl, rfl⟩

theorem ackSiren_with_room {s : State} (hroom : s.record.full = false) : ackSiren s
    = raiseEvent .siren (syncRecord ((s.withWarning { s.warning with siren := none }).withRecord
        (s.record.placeOrRenumber (.warning s.time.station s.warning.level s.warning.level .ack) s.time.station))) := by
  have hroom' : (s.withWarning { s.warning with siren := none }).record.full = false := hroom
  have happend := append_of_not_full hroom' (.warning s.time.station s.warning.level s.warning.level .ack)
  rw [State.withWarning_record, State.withWarning_time] at happend
  exact congrArg (raiseEvent .siren) happend

/-- The run timer's part before its hand-ons. -/
def sirenExpired (t : U32) (s : State) : State :=
  raiseEvent .siren
    (takeBatch [{ fault := .sirenTimeout, arg := .number s.warning.level }]
      ((reach t s).withWarning { s.warning with siren := none }))

theorem expireSiren_eq {s : State} {t : U32} (h : s.warning.siren = some t) : expireSiren s = sirenExpired t s := by
  simp only [expireSiren, h, reach_warning]
  rfl

theorem reach_eq (t : U32) (s : State) :
    reach t s = s.withTime { s.time with elapsed := if ahead t s.time.elapsed then t else s.time.elapsed } := by
  unfold reach
  split
  · rfl
  · exact (State.withTime_same s).symm

theorem reach_due (t : U32) (s : State) : (reach t s).due = s.due := by
  rw [reach_eq]
  rfl

theorem reach_record (t : U32) (s : State) : (reach t s).record = s.record := by
  rw [reach_eq]
  rfl

theorem reach_faults (t : U32) (s : State) : (reach t s).faults = s.faults := by
  rw [reach_eq]
  rfl

theorem sirenExpired_reports (t : U32) (s : State) :
    bitSet (sirenExpired t s).faults.word .sirenTimeout = true
      ∧ (sirenExpired t s).ports.warning.events.siren = true
      ∧ (sirenExpired t s).warning = { s.warning with siren := none }
      ∧ (sirenExpired t s).record = s.record := by
  refine ⟨?_, rfl, ?_, ?_⟩
  · have hbits := (batchTaken [{ fault := .sirenTimeout, arg := .number s.warning.level }]
      ((reach t s).withWarning { s.warning with siren := none })).1 .sirenTimeout
    exact hbits.2 (.inr ⟨_, List.mem_cons_self, rfl⟩)
  · rw [sirenExpired, raiseEvent_warning, takeBatch_warning]
    rfl
  · refine (takeBatch_record _ _).trans ?_
    exact reach_record t s

theorem noCompletion_sirenExpired {s : State} (hdue : s.due = []) (t : U32) : NoCompletion (sirenExpired t s) := by
  have h : NoCompletion ((reach t s).withWarning { s.warning with siren := none }) :=
    NoCompletion.of_due_nil (by rw [State.withWarning_due, reach_due, hdue])
  exact h.takeBatch _

theorem kept_sirenExpired (t : U32) (s : State) : (sirenExpired t s).kept = (reach t s).kept := by
  rw [sirenExpired, kept_raiseEvent, kept_takeBatch]
  exact kept_withWarning _ _ (by rw [reach_warning]; exact ⟨rfl, rfl, rfl, rfl⟩)

/-- Work that changes nothing is soon done. -/
theorem settle_still {s : State} (h : ∀ w ∈ s.due, doWork w (s.withDue []) = s.withDue []) :
    settle s = s.withDue [] := by
  have hdrain : ∀ (n : Nat) (ws : List Work), (∀ w ∈ ws, doWork w (s.withDue []) = s.withDue []) →
      (drain n (s.withDue ws)).withDue [] = s.withDue [] := by
    intro n
    induction n with
    | zero => exact fun _ _ => rfl
    | succ n ih =>
      intro ws hws
      cases ws with
      | nil => rw [drain_nil (by rfl)]; rfl
      | cons w rest =>
        rw [drain_cons (w := w) (rest := rest) (by rfl), State.afterFirst, State.withDue_twice,
          hws w List.mem_cons_self]
        exact ih rest fun x hx => hws x (List.mem_cons_of_mem w hx)
  have hsame : s.withDue s.due = s := State.withDue_same s
  have := hdrain 400 s.due h
  rwa [hsame] at this

/-- Without a change of the word, or with no rule that watches it, the run timer's expiry is done with its
event. -/
theorem settle_sirenExpired {s : State} (hdue : s.due = []) (t : U32)
    (h : bitSet s.faults.word .sirenTimeout = true ∨ Unwatched s.warning) :
    (settle (sirenExpired t s)).warning = { s.warning with siren := none }
      ∧ (settle (sirenExpired t s)).record = s.record := by
  obtain ⟨-, -, hwarning, hrecord⟩ := sirenExpired_reports t s
  let before : State := (reach t s).withWarning { s.warning with siren := none }
  let rs : List Report := [{ fault := .sirenTimeout, arg := .number s.warning.level }]
  have hdue' : before.due = [] := by rw [State.withWarning_due, reach_due, hdue]
  have hsettle : settle (sirenExpired t s) = (sirenExpired t s).withDue [] := by
    refine settle_still fun w hw => ?_
    have hw : w ∈ (takeBatch rs before).due := hw
    by_cases hfresh : ∃ r ∈ rs, bitSet before.faults.word r.fault = false
    · rw [takeBatch_fresh rs before hfresh, due_owe, due_raiseFaultEvents, State.withFaults_due, hdue',
        List.nil_append, List.mem_singleton] at hw
      subst hw
      refine faultRound_unwatched ?_ _
      rw [State.withDue_warning, hwarning]
      have hbit : bitSet s.faults.word .sirenTimeout = false := by
        simpa [rs, before, reach_faults] using hfresh
      obtain ⟨hsound, hrules⟩ := h.resolve_left (by simp [hbit])
      exact ⟨hsound.quiet, hrules⟩
    · rw [takeBatch_stale rs before hfresh, State.withFaults_due, hdue'] at hw
      exact absurd hw List.not_mem_nil
  rw [hsettle]
  exact ⟨hwarning, hrecord⟩

/-- Settles O41: the acknowledgement and the run timer's expiry, each made whole. -/
theorem sirenTurnsOff : Obligations.SirenTurnsOff := by
  unfold Obligations.SirenTurnsOff
  refine fun s => ⟨fun hj => ⟨fun hoff => ?silent, fun hon => ?acknowledged⟩, fun hruns t ht => ?expired⟩
  case silent =>
    exact gives_of_work hj (exec_ackSiren s) (by rw [hoff]; rfl)
  case acknowledged =>
    have hdone := noCompletion_ackSiren hj.2.2
    refine ⟨settle (ackSiren s), gives_of_work hj (exec_ackSiren s) ?_, (settle_events hdone .warning).siren rfl,
      (kept_settle _ hdone).trans (kept_ackSiren s), fun hroom => ?_⟩
    · rw [if_pos (Option.isSome_iff_ne_none.2 hon)]
      rfl
    · rw [ackSiren_with_room hroom, settle_of_due_nil _ (by exact hj.2.2)]
      exact ⟨rfl, rfl, _, _, _, rfl⟩
  case expired =>
    obtain ⟨hbit, hevent, -, -⟩ := sirenExpired_reports t s
    have hdone := noCompletion_sirenExpired hruns.2 t
    refine ⟨settle (sirenExpired t s), ?_, settle_bits hdone hbit, (settle_events hdone .warning).siren hevent, ?_,
      settle_sirenExpired hruns.2 t⟩
    · rw [exec_sirenTimeout, event_runs hruns.1, expireSiren_eq ht]
    · rw [kept_settle _ hdone, kept_sirenExpired, reach_eq]

/-! ### The configuration (R116) -/

theorem exec_setWarningConfig (l : Byte) (h : U16) (r : Byte) (s : State) :
    exec (.setWarningConfig .logger l h r) s = execSetWarningConfig .logger l h r s := rfl

theorem exec_holdExpiry (s : State) : exec .holdExpiry s = event expireHold s := rfl

theorem exec_beaconPhaseEnd (s : State) : exec .beaconPhaseEnd s = event turnBeacon s := rfl

/-- Settles O42: the three items, the hold timer's change of L made whole, and the beacon's turn. -/
theorem warningTimers : Obligations.WarningTimers := by
  unfold Obligations.WarningTimers
  refine ⟨fun l h r s hj => ⟨fun hfits => ?config, fun hmiss => ?range⟩, fun t s hruns hold hbelow => ?hold,
    fun b s hruns hb => ?beacon⟩
  case range => exact gives_of_work hj (exec_setWarningConfig l h r s) (if_neg hmiss)
  case config =>
    refine ⟨setWarningConfig l.toNat h.toNat r.toNat s, gives_of_work hj (exec_setWarningConfig l h r s) (if_pos hfits),
      ?_⟩
    by_cases hoff : l.toNat = 0 ∨ s.warning.level < l.toNat
    · have hset : setWarningConfig l.toNat h.toNat r.toNat s = sirenOff (s.withWarning
          { s.warning with sirenLevel := l.toNat, holdMin := h.toNat, sirenRun := r.toNat }) := if_pos hoff
      rw [hset, if_pos hoff]
      refine ⟨sirenOff_warning _, ?_, fun hon _ => sirenOff_event (by exact hon), fun hquiet => ?_⟩
      · obtain ⟨x, y, honly⟩ := sirenOff_only (s.withWarning
          { s.warning with sirenLevel := l.toNat, holdMin := h.toNat, sirenRun := r.toNat })
        rw [honly]
        exact ⟨y, rfl⟩
      · have hnone : s.warning.siren = none := hquiet.resolve_right (not_not_intro hoff)
        rw [sirenOff, if_neg (by simp [hnone])]
        rfl
    · have hset : setWarningConfig l.toNat h.toNat r.toNat s = s.withWarning
          { s.warning with sirenLevel := l.toNat, holdMin := h.toNat, sirenRun := r.toNat } := if_neg hoff
      rw [hset, if_neg hoff]
      exact ⟨rfl, ⟨s.ports, rfl⟩, fun _ h => absurd h hoff, fun _ => rfl⟩
  case hold =>
    dsimp only
    rw [← startBeacon_eq]
    have hdue : (reach t s).due = [] := by rw [reach_due, hruns.2]
    have hexec : exec .holdExpiry s = .next (settle (changeLevel s.warning.target .holdExpiry (reach t s))) := by
      rw [exec_holdExpiry, event_runs hruns.1]
      simp only [expireHold, hold]
    generalize hnow : (if ahead t s.time.elapsed then t else s.time.elapsed) = now
    have hreach : reach t s = s.withTime { s.time with elapsed := now } := by rw [reach_eq, hnow]
    rw [hreach] at hdue hexec
    have hsiren : s.warning.sirenAfter s.warning.target now
        = if s.warning.target < s.warning.sirenLevel then none else s.warning.siren := if_neg hbelow.not_gt
    have hmoved : s.warning.movedTo s.warning.target now
        = { s.warning with
            level := s.warning.target, hold := none
            siren := if s.warning.target < s.warning.sirenLevel then none else s.warning.siren
            beacon := startBeacon s.warning.target now } := by
      rw [Warning.movedTo, hsiren]
    rw [← hmoved]
    refine ⟨_, hexec, settle_changeLevel_level hdue _ _, fun hon hsilent => ?_, settle_changeLevel_kept hdue _ _,
      fun hquiet => ?_, fun ⟨hroom, hp⟩ => (settle_changeLevel_reaches hdue _ _ hroom hp).2⟩
    · refine settle_changeLevel_siren hdue _ _ ?_
      show s.warning.siren.isSome ≠ (s.warning.sirenAfter s.warning.target now).isSome
      rw [hsiren, if_pos hsilent, Option.isSome_iff_ne_none.2 hon]
      simp
    · rcases hquiet with ⟨hroom, hp⟩ | hquiet
      · exact (settle_changeLevel_reaches hdue _ _ hroom hp).1
      · refine settle_changeLevel_unwatched hdue _ _ ⟨?_, hquiet.rules⟩
        have hsound := warningSound_changeLevel (s := s.withTime { s.time with elapsed := now }) .holdExpiry
          hquiet.sound.rules hquiet.sound.target hquiet.sound.siren
        rw [changeLevel_warning] at hsound
        exact hsound
  case beacon =>
    dsimp only
    have hpattern : beaconPattern s.warning.level = match s.warning.level with
        | 1 => (100, 3900)
        | 2 => (100, 1900)
        | 3 => (100, 900)
        | _ => (500, 500) := rfl
    rw [exec_beaconPhaseEnd, event_runs hruns.1, ← reach_eq]
    simp only [turnBeacon, hb, hpattern, reach_warning, after]
    rw [settle_of_due_nil _ (by rw [State.withWarning_due, reach_due, hruns.2])] <;> rfl

end Sys2Proof.Machine

/-! CLEAR_FAULTS (R177) and SET_TIME (R4): a fault round that finds room, and the next due instant in its place. -/

namespace Sys2Proof.Machine

/-! ### A level computation with room in the record and the permit shut -/

section
variable {s : State} (hroom : s.record.full = false) (hp : s.permit.record.state ≠ .open_)

include hroom in
/-- With room in the record, a level computation reports nothing and owes a permit test at most. -/
theorem computeLevel_with_room (b : Bool) :
    (computeLevel b s).faults = s.faults
      ∧ ((computeLevel b s).due = s.due ∨ (computeLevel b s).due = s.due ++ [.permitTest]) := by
  rcases computeLevel_cases s b with ⟨c, -, -, he⟩ | ⟨hold, -, -, he⟩ <;> rw [he]
  · obtain ⟨-, hfaults, hdue, -⟩ := changeLevel_reaches
      (s := s.withWarning { s.warning with target := s.warning.formTarget }) hroom s.warning.formTarget c
    exact ⟨hfaults, .inr hdue⟩
  · exact ⟨rfl, .inl rfl⟩

include hroom hp in
theorem settle_computeLevel_apart (hdue : s.due = []) (b : Bool) :
    settle (computeLevel b s) = (computeLevel b s).withDue [] := by
  obtain ⟨-, hnone | htest⟩ := computeLevel_with_room hroom b
  · refine settle_still fun w hw => ?_
    rw [hnone, hdue] at hw
    exact absurd hw List.not_mem_nil
  · refine settle_permitTest_shut (by rw [htest, hdue]; rfl) ?_
    rwa [steady_permit (steady_computeLevel s b)]

include hroom hp in
/-- A fault round that is owed alone, with room in the record and the permit shut, leaves the fault unit. -/
theorem settle_faultRound_faults {word : U32} (hdue : s.due = [.faultRound word]) : (settle s).faults = s.faults := by
  have hn : NoCompletion s := by simp [NoCompletion, hdue]
  let t := evaluateRound true word (s.withDue [])
  have hfirst : s.afterFirst (.faultRound word) [] = computeLevel true t := by
    rw [State.afterFirst, List.append_nil]
    exact State.withDue_same _
  rw [settle_cons hn (load_le (by simp [hdue, Work.weight])) hdue, hfirst,
    settle_computeLevel_apart (s := t) hroom hp rfl]
  exact (computeLevel_with_room (s := t) hroom true).1

end

/-! ### CLEAR_FAULTS (R177) -/

theorem exec_clearFaults (mask : U32) (s : State) :
    exec (.clearFaults .logger mask) s = execClearFaults .logger mask s := rfl

theorem and_not_eq_self_iff (word mask : U32) : word &&& ~~~mask = word ↔ word &&& mask = 0 := by
  simp only [BitVec.eq_of_getLsbD_eq_iff]
  refine forall₂_congr fun i hi => ?_
  simp only [BitVec.getLsbD_and, BitVec.getLsbD_not, hi, decide_true, Bool.true_and, BitVec.ofNat_eq_ofNat,
    BitVec.getLsbD_zero]
  cases word.getLsbD i <;> cases mask.getLsbD i <;> decide

/-- A bit after a clear. -/
theorem bitSet_clear (word mask : U32) (f : StationFault) :
    bitSet (word &&& ~~~mask) f = (bitSet word f && !mask.getLsbD (faultBit f)) := by
  have hlt := faultBit_lt f
  simp [bitSet, show faultBit f < 32 by omega]

/-- Settles O44: the cleared bits, and the fault round they owe. -/
theorem clearFaultsClears : Obligations.ClearFaultsClears := by
  unfold Obligations.ClearFaultsClears
  intro mask s hj
  dsimp only
  refine ⟨fun hnone => ?same, fun hsome => ?cleared⟩
  case same =>
    have hclear : clearFaults mask s = s := if_pos ((and_not_eq_self_iff _ _).2 hnone)
    refine gives_of_work hj (exec_clearFaults mask s) ?_
    rw [hclear, settle_of_due_nil s hj.2.2]
  case cleared =>
    have hclear : clearFaults mask s = (s.withFaults (s.faults.clear mask)).owe [.faultRound (s.faults.word &&& ~~~mask)] :=
      if_neg (mt (and_not_eq_self_iff _ _).1 hsome)
    have hdue : (clearFaults mask s).due = [.faultRound (s.faults.word &&& ~~~mask)] := by
      rw [hclear, due_owe, State.withFaults_due, hj.2.2, List.nil_append]
    refine ⟨settle (clearFaults mask s), gives_of_work hj (exec_clearFaults mask s) (by rw [hclear]; rfl), ?_,
      fun hroom hp => ?_⟩
    · rw [kept_settle _ (by simp [NoCompletion, hdue]), hclear]
      rfl
    · rw [settle_faultRound_faults (by rw [hclear]; exact hroom) (by rw [hclear]; exact hp) hdue, hclear]
      refine ⟨rfl, fun d hd => ?_, fun hd => ?_⟩
      · have hdetail : (s.faults.clear mask).detail
            = if mask.getLsbD (faultBit d.fault) && bitSet s.faults.word d.fault then none else some d := by
          simp only [FaultUnit.clear, hd]
        refine hdetail.trans ?_
        rw [bitSet_clear]
        cases bitSet s.faults.word d.fault <;> cases mask.getLsbD (faultBit d.fault) <;> rfl
      · have hdetail : (s.faults.clear mask).detail = none := by simp only [FaultUnit.clear, hd]
        exact hdetail

/-! ### What the hand-ons do to the schedule and the channels -/

/-- A word about the schedule, the channels and the time that a decision of the mode keeps. -/
structure ScheduleWord (P : State → Prop) : Prop where
  beside : ∀ {s t : State}, t.schedule = s.schedule → t.chans = s.chans → t.time = s.time → P s → P t
  mode   : ∀ {s : State}, P s → P (decideMode s)

section
variable {P : State → Prop} (hP : ScheduleWord P) {s : State} (h : P s)

include hP h

theorem ScheduleWord.permitChange (st : PermitState) (cause : PermitCause) : P (permitChange st cause s) := by
  unfold Machine.permitChange
  split
  · exact h
  · exact hP.mode (hP.beside (s := s) rfl rfl rfl h)

theorem ScheduleWord.takeBatch (rs : List Report) : P (takeBatch rs s) := by
  obtain ⟨x, y, z, he⟩ := takeBatch_frame rs s
  exact hP.beside (by simp [he]) (by simp [he]) (by simp [he]) h

theorem ScheduleWord.append (e : Entry) : P (append e s) := by
  obtain ⟨_, _, _, _, he⟩ := append_only e s
  exact hP.beside (by simp [he]) (by simp [he]) (by simp [he]) h

theorem ScheduleWord.closeRun (o : RunOutcome) : P (closeRun o s) := by
  obtain ⟨_, _, _, _, _, _, _, he⟩ := closeRun_only o s
  exact hP.beside (by simp [he]) (by simp [he]) (by simp [he]) h

theorem ScheduleWord.onCable (f : Cableway → Cableway) : P (onCable f s) := hP.beside (s := s) rfl rfl rfl h

theorem ScheduleWord.endOp (o : OpOutcome) (r : OpResults) : P (endOp o r s) := by
  unfold Machine.endOp
  split
  · exact h
  · exact hP.beside (s := s) rfl rfl rfl h

theorem ScheduleWord.beginReelHome : P (beginReelHome s).1 := by
  unfold Machine.beginReelHome
  split
  · exact hP.onCable h (·.zero .reel)
  · exact hP.onCable h (·.energise .reelUp true s.time.elapsed)

theorem ScheduleWord.beginTraverseHome : P (beginTraverseHome s).1 := by
  unfold Machine.beginTraverseHome
  split
  · exact hP.onCable h (·.zero .traverse)
  · exact hP.onCable h fun c => c.energise .traverseIn c.homingFast s.time.elapsed

theorem ScheduleWord.retractTraverse : P (retractTraverse s) := by
  have hbegun := hP.beginTraverseHome h
  simp only [Machine.retractTraverse]
  split
  · exact hP.onCable hbegun _
  · simp only [Machine.finishRetract]
    split
    · exact hP.permitChange (hP.onCable hbegun _) _ _
    · exact hP.onCable hbegun _

theorem ScheduleWord.startRetract : P (startRetract s) := by
  simp only [Machine.startRetract, Machine.retractReel]
  split
  · split
    · exact hP.onCable (hP.beginReelHome h) _
    · exact hP.retractTraverse (hP.beginReelHome h)
  · exact hP.onCable h _

theorem ScheduleWord.permitTest : P (permitTest s) := by
  unfold Machine.permitTest
  split
  · split
    · exact hP.startRetract (hP.permitChange (hP.closeRun (hP.endOp (hP.onCable h _) _ _) _) _ _)
    · exact h
  · exact h

theorem ScheduleWord.owe (w : List Work) : P (s.owe w) := hP.beside (s := s) rfl rfl rfl h

theorem ScheduleWord.signalled (x : Warning) (y : PerPort PortUnit) : P ((s.withWarning x).withPorts y) :=
  hP.beside (s := s) rfl rfl rfl h

theorem ScheduleWord.changeLevel (n : Nat) (c : WarningCause) : P (changeLevel n c s) := by
  have hhanded : P (levelHanded n c s) := by
    have hw : P (s.withWarning { s.warning with level := n, hold := none, beacon := startBeacon n s.time.elapsed }) :=
      hP.beside (s := s) rfl rfl rfl h
    exact hP.owe (hP.mode (hP.append hw _)) [.permitTest]
  rw [changeLevel_eq]
  by_cases hup : s.warning.level < n
  · obtain ⟨x, y, he⟩ := raiseEvent_sirenOnRise_only .level (levelHanded n c s)
    rw [if_pos hup, he]
    exact hP.signalled hhanded x y
  · obtain ⟨x, y, he⟩ := raiseEvent_sirenOnFall_only .level (levelHanded n c s)
    rw [if_neg hup, he]
    exact hP.signalled hhanded x y

theorem ScheduleWord.computeLevel (b : Bool) : P (computeLevel b s) := by
  rcases computeLevel_cases s b with ⟨c, -, -, he⟩ | ⟨hold, -, -, he⟩ <;> rw [he]
  · exact hP.changeLevel (s := s.withWarning { s.warning with target := s.warning.formTarget })
      (hP.beside (s := s) rfl rfl rfl h) _ _
  · exact hP.beside (s := s) rfl rfl rfl h

/-- Every hand-on but a completion keeps the word. -/
theorem ScheduleWord.doWork {w : Work} (hw : w ≠ .completion) : P (doWork w s) := by
  cases w with
  | batch rs => exact hP.takeBatch h rs
  | faultRound word =>
    exact hP.computeLevel (s := evaluateRound true word s) (hP.beside (s := s) rfl rfl rfl h) true
  | stageRound =>
    exact hP.computeLevel (s := evaluateRound false s.faults.word s) (hP.beside (s := s) rfl rfl rfl h) true
  | permitTest => exact hP.permitTest h
  | sampleEntry time cause => exact hP.append h _
  | completion => exact absurd rfl hw

theorem ScheduleWord.settle (hn : NoCompletion s) : P (settle s) :=
  settle_keeps_uncompleted P (fun s _ h => hP.beside (s := s) rfl rfl rfl h) (fun _ _ hw h => hP.doWork h hw) hn h

end

/-! ### The next due instant in its place (R8, R9) -/

/-- The next due instant is that of the interval in force and the station time. -/
def Placed (s : State) : Prop := s.schedule.nextDue = nextMultiple s.schedule.interval s.time.station

theorem placed_placeDue (s : State) : Placed (placeDue s) := by
  obtain ⟨x, y, honly⟩ := placeDue_only s
  have htime : (placeDue s).time = s.time := by simp [honly]
  rw [Placed, placeDue_nextDue, placeDue_interval, htime]

theorem scheduleWord_placed : ScheduleWord Placed where
  beside hs _ ht h := by
    rw [Placed, hs, ht]
    exact h
  mode {s} h := by
    unfold decideMode
    split
    · exact h
    · exact placed_placeDue _

/-! ### SET_TIME (R4, R5) -/

section
variable (time : U32) (s : State)

theorem exec_setTime : exec (.setTime .logger time) s = execSetTime .logger time s := rfl

/-- The part after steps 1 to 4 of a change of station time. -/
def timeChanged : State :=
  emptyRing (takeBatch [{ fault := .timeStep, arg := .time s.time.station }]
    (append (.timeStep s.time.station time) (stepTime time s)))

theorem changeTime_eq : changeTime time s = placeDue (timeChanged time s) := rfl

theorem due_emptyRing : (emptyRing s).due = s.due := rfl

theorem emptyRing_record : (emptyRing s).record = s.record := rfl

theorem emptyRing_warning : (emptyRing s).warning = s.warning := rfl

theorem timeChanged_kept : (timeChanged time s).kept
    = (((stepTime time s).withStage
        { s.stage with ring := [], record := { s.stage.record with rateValid := false } })).kept := by
  let t := takeBatch [{ fault := .timeStep, arg := .time s.time.station }]
    (append (.timeStep s.time.station time) (stepTime time s))
  have hkept : t.kept = (stepTime time s).kept := by rw [kept_takeBatch, kept_append]
  have hstage : t.stage = s.stage := (stage_of_kept hkept).trans rfl
  show (t.withStage { t.stage with ring := [], record := { t.stage.record with rateValid := false } }).kept = _
  rw [hstage]
  have hwith : ∀ (x : State) (u : StageUnit), (x.withStage u).kept = x.kept.withStage u := fun _ _ => rfl
  rw [hwith, hwith, hkept]

theorem kept_changeTime : (changeTime time s).kept
    = ((stepTime time s).withStage
        { s.stage with ring := [], record := { s.stage.record with rateValid := false } }).kept := by
  rw [changeTime_eq, kept_placeDue, timeChanged_kept]

variable {s} (hdue : s.due = [])

include hdue in
theorem noCompletion_changeTime : NoCompletion (changeTime time s) := by
  have hstep : NoCompletion (stepTime time s) := NoCompletion.of_due_nil hdue
  rw [changeTime_eq]
  refine NoCompletion.of_due (s := timeChanged time s) ?_ (due_placeDue _)
  rw [timeChanged]
  exact ((hstep.append (.timeStep s.time.station time)).takeBatch
    [{ fault := .timeStep, arg := .time s.time.station }]).of_due (due_emptyRing _)

theorem changeTime_bit : bitSet (changeTime time s).faults.word .timeStep = true := by
  obtain ⟨x, y, honly⟩ := placeDue_only (timeChanged time s)
  have hfaults : (changeTime time s).faults = (timeChanged time s).faults := by rw [changeTime_eq, honly]; rfl
  rw [hfaults]
  exact ((batchTaken [{ fault := .timeStep, arg := .time s.time.station }]
    (append (.timeStep s.time.station time) (stepTime time s))).1 .timeStep).2 (.inr ⟨_, List.mem_cons_self, rfl⟩)

include hdue in
/-- With room in the record, the entry of the change is the only one, and a fault round is all that is owed. -/
theorem changeTime_with_room (hroom : s.record.full = false) :
    (changeTime time s).record = s.record.placeOrRenumber (.timeStep s.time.station time) time
      ∧ (changeTime time s).warning = s.warning
      ∧ ∀ w ∈ (changeTime time s).due, ∃ word, w = .faultRound word := by
  obtain ⟨x, y, honly⟩ := placeDue_only (timeChanged time s)
  have happend : append (.timeStep s.time.station time) (stepTime time s)
      = syncRecord ((stepTime time s).withRecord (s.record.placeOrRenumber (.timeStep s.time.station time) time)) :=
    append_of_not_full (s := stepTime time s) hroom _
  have hdue' : (append (.timeStep s.time.station time) (stepTime time s)).due = [] := by
    rw [happend]
    exact hdue
  rw [changeTime_eq, honly]
  refine ⟨?_, ?_, fun w hw => ?_⟩
  · rw [State.withChans_record, State.withSchedule_record, timeChanged, emptyRing_record, takeBatch_record, happend]
    rfl
  · rw [State.withChans_warning, State.withSchedule_warning, timeChanged, emptyRing_warning, takeBatch_warning,
      append_warning]
    rfl
  · rw [State.withChans_due, State.withSchedule_due, timeChanged, due_emptyRing] at hw
    have hbatch := batchTaken [{ fault := .timeStep, arg := .time s.time.station }]
      (append (.timeStep s.time.station time) (stepTime time s))
    obtain ⟨-, -, -, -, -, howed, hnone, -⟩ := hbatch
    by_cases hfresh : ∃ r ∈ ([{ fault := .timeStep, arg := .time s.time.station }] : List Report),
        bitSet (append (.timeStep s.time.station time) (stepTime time s)).faults.word r.fault = false
    · rw [howed hfresh, hdue', List.nil_append, List.mem_singleton] at hw
      exact ⟨_, hw⟩
    · rw [(hnone hfresh).1, hdue'] at hw
      exact absurd hw List.not_mem_nil

end

theorem time_of_kept {s t : State} (h : s.kept = t.kept) : s.time = t.time := by
  have := congrArg State.time h
  exact this

theorem encoder_of_kept {s t : State} (h : s.kept = t.kept) : s.encoder = t.encoder := by
  have := congrArg State.encoder h
  exact this

theorem acq_of_kept {s t : State} (h : s.kept = t.kept) : s.schedule.acq = t.schedule.acq := by
  have := congrArg (fun t : State => t.schedule.acq) h
  exact this

theorem runNumber_of_kept {s t : State} (h : s.kept = t.kept) : s.run.number = t.run.number := by
  have := congrArg (fun t : State => t.run.number) h
  exact this

/-- Settles O18: the steps of the change, and the fault round of TIME_STEP that they owe. -/
theorem setTimeSteps : Obligations.SetTimeSteps := by
  unfold Obligations.SetTimeSteps
  refine fun time s hj => ⟨fun hsame => ?same, fun hother => ?changed⟩
  case same => exact gives_of_work hj (exec_setTime time s) (if_pos hsame)
  case changed =>
    have hdone := noCompletion_changeTime time hj.2.2
    have hkept := (kept_settle _ hdone).trans (kept_changeTime time s)
    have htime : (settle (changeTime time s)).time = (stepTime time s).time := (time_of_kept hkept).trans rfl
    refine ⟨settle (changeTime time s), gives_of_work hj (exec_setTime time s) (if_neg hother), htime,
      stage_of_kept hkept, ?_, ?_, (rating_of_kept hkept).trans rfl, ?_, ?_, settle_bits hdone (changeTime_bit time),
      fun hroom hquiet => ?_⟩
    · exact (acq_of_kept hkept).trans rfl
    · have hplaced := scheduleWord_placed.settle (placed_placeDue (timeChanged time s)) hdone
      rw [← changeTime_eq, Placed, htime] at hplaced
      exact hplaced
    · exact (encoder_of_kept hkept).trans rfl
    · exact (runNumber_of_kept hkept).trans rfl
    · obtain ⟨hrecord, hwarning, hrounds⟩ := changeTime_with_room time hj.2.2 hroom
      rw [settle_still fun w hw => ?_]
      · exact ⟨hrecord, hwarning⟩
      · obtain ⟨word, rfl⟩ := hrounds w hw
        exact faultRound_unwatched (by rw [State.withDue_warning, hwarning]; exact hquiet) word

end Sys2Proof.Machine

/-! The channels' service and what their sensors bring about (sections 2.1 and 2.3). -/

namespace Sys2Proof.Machine

/-! ### A channel that the schedule leaves alone -/

/-- The channel is as given and out of the pre-warm set. -/
def Parked (c : Chan) (x : Channel) (s : State) : Prop := chanView c s = (x, false)

theorem revised_unmarked (v : Schedule × TimeBase) (x : Channel) : revised v (x, false) = (x, false) := rfl

theorem chanView_placeDue {c : Chan} {x : Channel} {s : State} (h : chanView c s = (x, false)) :
    chanView c (placeDue s) = (x, false) := by
  have hrevised {s : State} (h : chanView c s = (x, false)) :
      chanView c (allChans.foldl revisePreWarm s) = (x, false) := by
    rw [(foldl_revisePreWarm s).2 c, h, revised_unmarked]
  unfold placeDue
  refine hrevised ?_
  exact h

theorem scheduleWord_parked (c : Chan) (x : Channel) : ScheduleWord (Parked c x) where
  beside hs hc _ h := by
    simp only [Parked, chanView, chan, hs, hc] at h ⊢
    exact h
  mode {s} h := by
    unfold decideMode
    split
    · exact h
    · exact chanView_placeDue (by exact h)

/-! ### Serving a channel (R22, R23, R25) -/

theorem Channel.warm_eq (x : Channel) (now : U32) :
    let wait := [0, 100, 500, 2000, 5000, 10000].getD x.config.warmUp 0
    x.warm now
      = { x with
          state := if wait = 0 then .on else .warming
          warmUntil := if wait = 0 then none else some (now + BitVec.ofNat 32 wait) } := by
  dsimp only
  rw [← warmUpMs_eq_table]
  by_cases h : warmUpMs x.config.warmUp = 0 <;> simp [Channel.warm, h, after]

theorem Channel.serve_eq (x : Channel) (now : U32) :
    let wait := [0, 100, 500, 2000, 5000, 10000].getD x.config.warmUp 0
    x.serve now
      = { x with
          burst := match x.config.mode with
            | .continuous => x.burst
            | .switched => none
          state := match x.config.mode with
            | .continuous => if wait = 0 then .on else .warming
            | .switched => .sleeping
          warmUntil := match x.config.mode with
            | .continuous => if wait = 0 then none else some (now + BitVec.ofNat 32 wait)
            | .switched => none } := by
  dsimp only
  unfold Channel.serve
  cases x.config.mode with
  | continuous => exact Channel.warm_eq x now
  | switched => rfl

theorem dropReference_eq (c : Chan) (s : State) : dropReference c s
    = s.withEncoder { s.encoder with stepRef := if c = .ch2 then none else s.encoder.stepRef } := by
  cases c <;> rfl

theorem exec_enableChannel (ch : Byte) (s : State) :
    exec (.enableChannel .logger ch) s = execEnableChannel .logger ch s := rfl

theorem exec_restoreChannel (ch : Byte) (s : State) :
    exec (.restoreChannel .logger ch) s = execRestoreChannel .logger ch s := rfl

/-- A channel that was out of service, back in it with a missing count of 0 and no step reference (R22, R25). -/
def backInService (c : Chan) (s : State) : State :=
  (setChan c { (chan c s).serve s.time.elapsed with missing := 0 } s).withEncoder
    { s.encoder with stepRef := if c = .ch2 then none else s.encoder.stepRef }

theorem restoreChannel_eq (c : Chan) (s : State) :
    restoreChannel c s = append (.channel s.time.station c .restored) (backInService c s) := by
  rw [restoreChannel, dropReference_eq]
  rfl

@[simp] theorem Channel.serve_config (x : Channel) (now : U32) : (x.serve now).config = x.config := by
  rw [Channel.serve_eq]

theorem kept_backInService (c : Chan) (s : State) :
    (backInService c s).kept
      = (s.withEncoder { s.encoder with stepRef := if c = .ch2 then none else s.encoder.stepRef }).kept := by
  have h := kept_setChan (s := s.withEncoder
    { s.encoder with stepRef := if c = .ch2 then none else s.encoder.stepRef }) c
    { (chan c s).serve s.time.elapsed with missing := 0 } (by simp [chan])
  exact h

/-- Settles O23: the service of a channel by its power mode, and a restore's entry. -/
theorem channelServed : Obligations.ChannelServed := by
  unfold Obligations.ChannelServed
  refine ⟨fun ch s hch => ⟨fun hj => ?_, fun hj => ?_⟩, fun c s => ?_⟩
  · exact gives_of_work hj (exec_enableChannel ch s) (withChannel_above hch _ s)
  · exact gives_of_work hj (exec_restoreChannel ch s) (withChannel_above hch _ s)
  · intro wait served encoder
    have hserved : { (chan c s).serve s.time.elapsed with missing := 0 } = served := by
      rw [Channel.serve_eq] <;> rfl
    refine ⟨fun hj => ⟨fun hst => ?enabled, fun hst => ?notDisabled⟩, fun hj => ⟨fun hst hpre => ?restored,
      fun hst hroom => ?entered, fun hst => ?notFailed⟩⟩
    case enabled =>
      refine gives_of_work hj (exec_enableChannel (chanByte c) s) ?_
      rw [withChannel_chanByte, if_pos hst, dropReference_eq, ← hserved]
      rfl
    case notDisabled =>
      exact gives_of_work hj (exec_enableChannel (chanByte c) s) (by rw [withChannel_chanByte, if_neg hst])
    case restored =>
      have hn : NoCompletion (restoreChannel c s) := by
        rw [restoreChannel_eq]
        exact NoCompletion.append (by exact NoCompletion.of_due_nil hj.2.2) _
      have hparked : Parked c served (settle (restoreChannel c s)) := by
        refine (scheduleWord_parked c served).settle ?_ hn
        rw [restoreChannel_eq]
        refine (scheduleWord_parked c served).append (s := backInService c s) ?_ _
        rw [Parked, backInService, hserved]
        exact Prod.ext (chan_setChan_same c served s) hpre
      refine ⟨settle (restoreChannel c s), gives_of_work hj (exec_restoreChannel (chanByte c) s)
        (by rw [withChannel_chanByte, if_pos hst]), congrArg Prod.fst hparked, ?_⟩
      rw [kept_settle _ hn, restoreChannel_eq, kept_append, kept_backInService]
    case entered =>
      have hu : settle (restoreChannel c s)
          = syncRecord ((backInService c s).withRecord
              (s.record.placeOrRenumber (.channel s.time.station c .restored) s.time.station)) := by
        rw [restoreChannel_eq, append_of_not_full (by exact hroom), settle_of_due_nil _ (by exact hj.2.2)]
        rfl
      refine ⟨settle (restoreChannel c s), gives_of_work hj (exec_restoreChannel (chanByte c) s)
        (by rw [withChannel_chanByte, if_pos hst]), ?_⟩
      rw [hu, backInService, hserved]
      exact ⟨chan_setChan_same c served s, rfl, rfl, _, _, _, _, rfl⟩
    case notFailed =>
      exact gives_of_work hj (exec_restoreChannel (chanByte c) s) (by rw [withChannel_chanByte, if_neg hst])

/-! ### Pre-warm points, warm-up expiries and the sensors (R10, R17, R19, R23) -/

/-- A reading that lies ahead or has just come is where the counter then stands. -/
theorem reach_eq_of_not_passed {t : U32} {s : State} (h : ahead t s.time.elapsed = true ∨ t = s.time.elapsed) :
    reach t s = s.withTime { s.time with elapsed := t } := by
  rw [reach_eq]
  split
  · rfl
  case isFalse ha => rw [h.resolve_left ha]

theorem reachPreWarm_eq {c : Chan} {s : State} (hst : (chan c s).state = .sleeping)
    (h : ahead (preWarmReading c s) s.time.elapsed = true ∨ preWarmReading c s = s.time.elapsed) :
    reachPreWarm c s = setPreWarm c true (setChan c ((chan c s).warm (preWarmReading c s))
      (s.withTime { s.time with elapsed := preWarmReading c s })) := by
  unfold reachPreWarm
  dsimp only
  rw [if_pos ⟨hst, h⟩, reach_eq_of_not_passed h]
  rfl

theorem exec_preWarmPoint (c : Chan) (s : State) : exec (.preWarmPoint c) s = execPreWarmPoint c s := rfl

theorem exec_warmUpExpiry (c : Chan) (s : State) : exec (.warmUpExpiry c) s = execWarmUpExpiry c s := rfl

theorem exec_rangingReply (r : RangingFrame) (s : State) : exec (.rangingReply r) s = execRangingReply r s := rfl

theorem exec_quadratureStep (up : Bool) (s : State) : exec (.quadratureStep up) s = execQuadratureStep up s := rfl

@[simp] theorem chan_withRanging (c : Chan) (s : State) (x : RangingLine) : chan c (s.withRanging x) = chan c s := rfl

/-- A slot's start touches the ranging sensor alone. -/
theorem startSlot_only (c : Chan) (s : State) : ∃ x, startSlot c s = s.withRanging x := by
  cases c
  case ch3 => exact ⟨_, rfl⟩
  all_goals exact ⟨s.ranging, (State.withRanging_same s).symm⟩

theorem setChan_chan (c : Chan) (s : State) : setChan c (chan c s) s = s := by
  cases c <;> exact State.withChans_same s

/-- The burst of a channel that is ON begins if the acquisition in flight awaits it. -/
theorem burstIfAwaited_on {c : Chan} {s : State} (hon : (chan c s).state = .on) :
    ∃ x, burstIfAwaited c s = (setChan c
      { chan c s with
        burst := if awaited c s then some { pass := .first, readings := [], slotEnds := s.time.elapsed + 100#32 }
          else (chan c s).burst } s).withRanging x := by
  unfold burstIfAwaited
  by_cases ha : awaited c s = true
  · rw [if_pos ⟨hon, ha⟩, if_pos ha]
    exact startSlot_only c _
  · rw [if_neg fun h => ha h.2, if_neg ha]
    refine ⟨s.ranging, ?_⟩
    rw [show setChan c _ s = s from setChan_chan c s]
    exact (State.withRanging_same s).symm

/-- Settles O26: what pre-warm points, warm-ups, ranging replies and quadrature steps do to their channel. -/
theorem channelHappenings : Obligations.ChannelHappenings := by
  unfold Obligations.ChannelHappenings
  intro s hruns
  refine ⟨fun c hst h => ?point, fun c u hst hu => ?expiry, fun r hburst hr => ?reply, fun up => ?step⟩
  case point =>
    refine ⟨reachPreWarm c s, ?_, ?_⟩
    · rw [exec_preWarmPoint, execPreWarmPoint, event_runs hruns.1, settle_of_due_nil]
      rw [reachPreWarm_eq hst h]
      exact hruns.2
    · rw [reachPreWarm_eq hst h]
      refine ⟨rfl, rfl, ?_, fun k hk => chan_setChan_other hk _ _, _, _, _, rfl⟩
      rw [chan_setPreWarm, chan_setChan_same, Channel.warm_eq]
  case expiry =>
    have heq : expireWarmUp c s
        = burstIfAwaited c (setChan c { chan c s with state := .on, warmUntil := none } (reach u s)) := by
      unfold expireWarmUp
      dsimp only
      rw [hst, hu]
    obtain ⟨x, hx⟩ := burstIfAwaited_on (c := c)
      (s := setChan c { chan c s with state := .on, warmUntil := none } (reach u s)) (by rw [chan_setChan_same])
    rw [chan_setChan_same, reach_eq] at hx
    rw [reach_eq, hx] at heq
    refine ⟨expireWarmUp c s, ?_, ?_⟩
    · rw [exec_warmUpExpiry, execWarmUpExpiry, event_runs hruns.1, settle_of_due_nil]
      rw [heq]
      exact hruns.2
    · rw [heq]
      refine ⟨rfl, ?_, fun k hk => ?_, _, _, _, rfl⟩
      · rw [chan_withRanging, chan_setChan_same]
        rfl
      · rw [chan_withRanging, chan_setChan_other hk, chan_setChan_other hk]
        rfl
  case reply =>
    obtain ⟨b, hb⟩ := Option.isSome_iff_exists.1 hburst
    have heq : keepReply r s = if r.late then s else s.withRanging { s.ranging with reply := some r } := by
      unfold keepReply
      rw [hb, hr]
    rw [exec_rangingReply, execRangingReply, event_runs hruns.1, settle_of_due_nil, heq]
    rw [heq]
    split <;> exact hruns.2
  case step =>
    have hpowered : (chan .ch2 s).state.powered = true ↔ (chan .ch2 s).state = .warming ∨ (chan .ch2 s).state = .on := by
      cases (chan .ch2 s).state <;> simp [ChanState.powered]
    rw [exec_quadratureStep, execQuadratureStep, event_runs hruns.1, settle_of_due_nil]
    · simp only [stepQuadrature, hpowered]
    · unfold stepQuadrature
      split <;> exact hruns.2

end Sys2Proof.Machine

/-! The cableway's operation commands (section 7.3): how one is judged, how one ends, and OBSERVE. -/

namespace Sys2Proof.Machine

/-! ### Judging an operation command (R125) -/

section
variable {fit : Bool} {gate : State → Bool} {own : State → Option Status} {accept : State → State} {s : State}

theorem operate_unfit (hf : fit = false) : operate fit gate own accept s = (s, plain .range) := by
  rw [operate, if_pos (by rw [hf]; rfl)]

theorem operate_busy (hf : fit = true) (hop : s.cableway.op ≠ none) :
    operate fit gate own accept s = (s, plain .busy) := by
  rw [operate, if_neg (by simp [hf]), if_pos (Option.isSome_iff_ne_none.2 hop)]

theorem operate_shut (hf : fit = true) (hop : s.cableway.op = none) (hg : gate s = false) :
    operate fit gate own accept s = (s, plain .state) := by
  rw [operate, if_neg (by simp [hf]), if_neg (by simp [hop]), if_pos (by simp [hg])]

theorem operate_own {st : Status} (hf : fit = true) (hop : s.cableway.op = none) (hg : gate s = true)
    (ho : own s = some st) : operate fit gate own accept s = (s, plain st) := by
  rw [operate, if_neg (by simp [hf]), if_neg (by simp [hop]), if_neg (by simp [hg]), ho]

theorem operate_accepts (hf : fit = true) (hop : s.cableway.op = none) (hg : gate s = true) (ho : own s = none) :
    operate fit gate own accept s = (settle (accept s), plain .accepted) := by
  rw [operate, if_neg (by simp [hf]), if_neg (by simp [hop]), if_neg (by simp [hg]), ho]

end

theorem overWater_iff (s : State) :
    overWater s = true ↔ s.permit.record.state = .open_ ∧ s.cableway.referenced = true := by
  simp [overWater]

/-! ### The end of an operation (R126) -/

/-- The cableway after its operation has ended. -/
def Cableway.ended (c : Cableway) (k : OpKind) (o : OpOutcome) (r : OpResults) (time : U32) : Cableway :=
  { c with op := none, lastOp := some { name := k.name, outcome := o, time := time, results := r } }

theorem endOp_of_op {s : State} {op : Operation} (h : s.cableway.op = some op) (o : OpOutcome) (r : OpResults) :
    endOp o r s = raiseEvent .opDone (s.withCableway (s.cableway.ended op.kind o r s.time.station)) := by
  unfold endOp
  rw [h]
  rfl

theorem raiseEvent_opDone (s : State) : (raiseEvent .opDone s).ports.cableway.events.opDone = true := rfl

/-- An operation that ends with no drive on has ended by R126. -/
theorem opEnded_endOp {s : State} {op : Operation} (h : s.cableway.op = some op) (hd : s.cableway.drive = none)
    (o : OpOutcome) (r : OpResults) : OpEnded s (endOp o r s) op.kind o r := by
  rw [endOp_of_op h]
  exact ⟨rfl, hd, rfl, raiseEvent_opDone _⟩

/-! ### OBSERVE (R132, R146) -/

theorem clampInt_observe (n : Nat) : (clampInt 10000 240000 n).toNat = max 10000 (min 240000 n) := by
  unfold clampInt
  split <;> (try split) <;> omega

theorem exec_observe (period : U32) (s : State) :
    exec (.observe .cableway period) s = execObserve .cableway period s := rfl

theorem exec_dwellEnd (s : State) : exec .dwellEnd s = execDwellEnd s := rfl

theorem exec_observeCountEnd (s : State) : exec .observeCountEnd s = execObserveCountEnd s := rfl

theorem endDwell_eq {s : State} {t n : Nat} {ends : U32} {sat : Bool} {ph : Phase}
    (h : s.cableway.op = some
      { kind := .observe { period := t, phase := .dwell ends, pulses := n, saturated := sat }, phase := ph }) :
    endDwell s = setOp (.observe { period := t, phase := .count (after ends t), pulses := 0, saturated := false })
      ph (reach ends s) := by
  unfold endDwell
  rw [h]

theorem endCount_eq {s : State} {t n : Nat} {ends : U32} {sat : Bool} {ph : Phase}
    (h : s.cableway.op = some
      { kind := .observe { period := t, phase := .count ends, pulses := n, saturated := sat }, phase := ph }) :
    endCount s = handObservation n t sat (endOp .done (.observe n t sat) (reach ends s)) := by
  unfold endCount
  rw [h]

theorem handObservation_eq {s : State} {x : Placement} {b : RunBody} (hx : s.cableway.placement = some x)
    (hb : s.run.openBody = some b) (n t : Nat) (sat : Bool) :
    handObservation n t sat s = s.withWorking (s.working.observe
      { fraction := x.fraction, depth := x.depth, pulses := n, period := t
        velocity := pointVelocity b.a b.b b.ppr n t, low := x.low, saturated := sat }) := by
  unfold handObservation
  rw [hx, hb]

/-- Settles O47: the judging of OBSERVE, its dwell, its count and the observation handed over. -/
theorem observeRuns : Obligations.ObserveRuns := by
  unfold Obligations.ObserveRuns
  intro s
  dsimp only
  refine ⟨fun period hj => ⟨fun hop => ?busy, fun hop hg => ?shut, fun hop hg hp => ?missing,
    fun hop hg hp => ?accepted⟩, fun hruns t ends n sat ph => ⟨fun hop => ?dwell,
    fun x b hop hd hx hb => ?count⟩⟩
  case busy => exact gives_of_work hj (exec_observe period s) (operate_busy rfl hop)
  case shut =>
    exact gives_of_work hj (exec_observe period s)
      (operate_shut rfl hop (Bool.eq_false_iff.2 fun h => hg ((overWater_iff s).1 h)))
  case missing =>
    exact gives_of_work hj (exec_observe period s) (operate_own rfl hop ((overWater_iff s).2 hg) (by simp [hp]))
  case accepted =>
    refine gives_of_work hj (exec_observe period s) ?_
    rw [operate_accepts rfl hop ((overWater_iff s).2 hg) (if_pos (Option.isSome_iff_ne_none.2 hp)),
      settle_of_due_nil _ (by exact hj.2.2), clampInt_observe]
    rfl
  case dwell =>
    rw [exec_dwellEnd, execDwellEnd, event_runs hruns.1, endDwell_eq hop, reach_eq,
      settle_of_due_nil _ (by exact hruns.2)]
    rfl
  case count =>
    have hended := endOp_of_op (s := reach ends s) (by rw [reach_eq]; exact hop) .done (.observe n t sat)
    have hcount : endCount s = (endOp .done (.observe n t sat) (reach ends s)).withWorking (s.working.observe
        { fraction := x.fraction, depth := x.depth, pulses := n, period := t
          velocity := pointVelocity b.a b.b b.ppr n t, low := x.low, saturated := sat }) := by
      rw [endCount_eq hop, handObservation_eq (x := x) (b := b), hended, reach_eq]
      · rfl
      · rw [hended, reach_eq]; exact hx
      · rw [hended, reach_eq]; exact hb
    refine ⟨endCount s, ?_, ?_⟩
    · rw [exec_observeCountEnd, execObserveCountEnd, event_runs hruns.1, settle_of_due_nil]
      rw [hcount, hended, reach_eq]
      exact hruns.2
    · rw [hcount, hended, reach_eq]
      exact ⟨⟨rfl, hd, rfl, rfl⟩, rfl, hx, _, _, _, _, rfl⟩

end Sys2Proof.Machine

/-! SET_STANDDOWN (section 9.2) and the stand-down that it may bring (section 9.4). -/

namespace Sys2Proof.Machine

/-! ### The permit copies (R162) -/

/-- The permit copies that stand with the ports' PERMIT events. -/
def State.copies (s : State) : PerPort (Option PermitRecord) := s.ports.map fun _ u => u.permitCopy

theorem copies_get (s : State) (p : Port) : s.copies.get p = (s.ports.get p).permitCopy := PerPort.get_map ..

section
variable (s : State)

theorem copies_withPorts (f : Port → PortUnit → PortUnit) (h : ∀ p u, (f p u).permitCopy = u.permitCopy) :
    (s.withPorts (s.ports.map f)).copies = s.copies := by
  simp only [State.copies, State.withPorts, PerPort.map_map, h]

@[simp] theorem copies_raiseEvent (e : Event) : (raiseEvent e s).copies = s.copies :=
  copies_withPorts s _ fun p u => by split <;> rfl

@[simp] theorem copies_raiseFaultEvents (fs : List StationFault) : (raiseFaultEvents fs s).copies = s.copies :=
  copies_withPorts s _ fun p u => by split <;> rfl

@[simp] theorem copies_syncRecord : (syncRecord s).copies = s.copies := rfl
@[simp] theorem copies_withRecord (x : Record) : (s.withRecord x).copies = s.copies := rfl
@[simp] theorem copies_withFaults (x : FaultUnit) : (s.withFaults x).copies = s.copies := rfl
@[simp] theorem copies_withWarning (x : Warning) : (s.withWarning x).copies = s.copies := rfl
@[simp] theorem copies_owe (w : List Work) : (s.owe w).copies = s.copies := rfl

@[simp] theorem copies_takeBatch (rs : List Report) : (takeBatch rs s).copies = s.copies := by
  simp only [takeBatch]
  split <;> simp

@[simp] theorem copies_discardSteps (n : Nat) : ∀ s, (discardSteps n s).copies = s.copies := by
  induction n with
  | zero => exact fun _ => rfl
  | succ n ih =>
    intro s
    simp only [discardSteps]
    split <;> simp [ih]

@[simp] theorem copies_append (e : Entry) : (append e s).copies = s.copies := by
  unfold append
  split <;> simp

@[simp] theorem copies_decideMode : (decideMode s).copies = s.copies := by
  simp [State.copies]

@[simp] theorem copies_sirenOff : (sirenOff s).copies = s.copies := by
  unfold sirenOff
  split <;> simp

@[simp] theorem copies_sirenOnRise : (sirenOnRise s).copies = s.copies := by
  simp only [sirenOnRise]
  split
  · split <;> simp
  · rfl

@[simp] theorem copies_sirenOnFall : (sirenOnFall s).copies = s.copies := by
  unfold sirenOnFall
  split <;> simp

@[simp] theorem copies_changeLevel (n : Nat) (c : WarningCause) : (changeLevel n c s).copies = s.copies := by
  simp only [changeLevel, copies_raiseEvent]
  split <;> simp

@[simp] theorem copies_computeLevel (b : Bool) : (computeLevel b s).copies = s.copies := by
  rcases computeLevel_cases s b with ⟨c, -, -, h⟩ | ⟨_, -, -, h⟩ <;> rw [h] <;> simp

variable {s}

theorem copies_doWork (hp : s.permit.record.state ≠ .open_) {w : Work} (hw : w ≠ .completion) :
    (doWork w s).copies = s.copies := by
  cases w with
  | batch rs => exact copies_takeBatch s rs
  | faultRound word => simp [doWork, faultRound, evaluateRound]
  | stageRound => simp [doWork, stageRound, evaluateRound]
  | permitTest => rw [doWork, permitTest_shut hp]
  | sampleEntry time cause => exact copies_append s _
  | completion => exact absurd rfl hw

/-- Where the permit is not OPEN, making a step whole leaves the permit copies. -/
theorem copies_settle (hp : s.permit.record.state ≠ .open_) (hn : NoCompletion s) :
    (settle s).copies = s.copies :=
  (settle_keeps_uncompleted (fun t => t.copies = s.copies ∧ t.permit.record.state ≠ .open_) (fun _ _ h => h)
    (fun t w hw h => ⟨(copies_doWork h.2 hw).trans h.1, by rw [steady_permit (steady_doWork h.2 hw)]; exact h.2⟩)
    hn ⟨rfl, hp⟩).1

end

/-! ### Drives cut and a retract begun (R121, R139) -/

/-- After a cut no axis coasts only where no drive was on and none coasted before. -/
theorem Cableway.quiet_cut (c : Cableway) (now : U32) : (c.cut now).quiet = true ↔ c.drive = none ∧ c.quiet = true := by
  unfold Cableway.cut
  cases hd : c.drive with
  | none => simp
  | some d => cases h : d.dir.axis <;> simp [quiet, setAxis, h, AxisState.isCoasting]

/-- What of the cableway no drive moves: all but the drive, the axes with their counts, the meter placement and the
retract. -/
def Cableway.afield (c : Cableway) : Cableway :=
  { c with
    drive := none, traverseAxis := .driven, reelAxis := .driven, traverseCount := 0, reelCount := 0
    placement := none, retract := none }

section
variable (c : Cableway)

theorem Cableway.afield_setAxis (a : Axis) (x : AxisState) : (c.setAxis a x).afield = c.afield := by
  cases a <;> rfl

@[simp] theorem Cableway.afield_cut (now : U32) : (c.cut now).afield = c.afield := by
  unfold cut
  split
  · rfl
  · exact c.afield_setAxis _ _

@[simp] theorem Cableway.afield_zero (a : Axis) : (c.zero a).afield = c.afield := by
  unfold zero
  dsimp only
  cases a <;> split <;> rfl

@[simp] theorem Cableway.afield_energise (dir : Direction) (fast : Bool) (now : U32) :
    (c.energise dir fast now).afield = c.afield := by
  unfold energise
  split
  · exact c.afield_setAxis _ _
  · rfl

variable {c}

theorem Cableway.op_of_afield {c' : Cableway} (h : c'.afield = c.afield) : c'.op = c.op := by
  have := congrArg Cableway.op h
  exact this

theorem Cableway.lastOp_of_afield {c' : Cableway} (h : c'.afield = c.afield) : c'.lastOp = c.lastOp := by
  have := congrArg Cableway.lastOp h
  exact this

theorem Cableway.pins_of_afield {c' : Cableway} (h : c'.afield = c.afield) : c'.pins = c.pins := by
  have := congrArg Cableway.pins h
  exact this

end

section
variable {s : State}

theorem retractReel_top (h : s.cableway.pins.top = true) :
    retractReel s = retractTraverse (onCable (·.zero .reel) s) := by
  simp [retractReel, beginReelHome, h]

theorem retractReel_lowered (h : s.cableway.pins.top = false) :
    retractReel s = setRetract .reel .driving (onCable (·.energise .reelUp true s.time.elapsed) s) := by
  simp [retractReel, beginReelHome, h]

theorem retractTraverse_home (h : s.cableway.pins.home = true) :
    retractTraverse s = finishRetract .retractDone (onCable (·.zero .traverse) s) := by
  simp [retractTraverse, beginTraverseHome, h]

theorem retractTraverse_out (h : s.cableway.pins.home = false) :
    retractTraverse s = setRetract .traverse .driving
      (onCable (fun c => c.energise .traverseIn c.homingFast s.time.elapsed) s) := by
  simp [retractTraverse, beginTraverseHome, h]

theorem pins_zeroed (s : State) (a : Axis) : (onCable (·.zero a) s).cableway.pins = s.cableway.pins :=
  Cableway.pins_of_afield (by simp [onCable])

/-- The retract of a carriage that stands home with no axis coasting is complete at once. -/
theorem startRetract_home (hq : s.cableway.quiet = true) (htop : s.cableway.pins.top = true)
    (hhome : s.cableway.pins.home = true) :
    ∃ c, c.afield = s.cableway.afield ∧ c.retract = none ∧ startRetract s
      = if s.permit.record.state = .standingDown then permitChange .closed .retractDone (s.withCableway c)
        else s.withCableway c := by
  refine ⟨{ (s.cableway.zero .reel).zero .traverse with retract := none }, ?_, rfl, ?_⟩
  · exact ((s.cableway.zero .reel).afield_zero .traverse).trans (s.cableway.afield_zero .reel)
  · rw [startRetract, if_pos hq, retractReel_top htop, retractTraverse_home (by rw [pins_zeroed, hhome])]
    rfl

/-- Otherwise the retract is in flight. -/
theorem startRetract_away
    (h : ¬(s.cableway.quiet = true ∧ s.cableway.pins.top = true ∧ s.cableway.pins.home = true)) :
    ∃ c, c.afield = s.cableway.afield ∧ c.retract ≠ none ∧ startRetract s = s.withCableway c := by
  unfold startRetract
  by_cases hq : s.cableway.quiet = true
  · rw [if_pos hq]
    cases htop : s.cableway.pins.top with
    | true =>
      have hhome : s.cableway.pins.home = false := Bool.eq_false_iff.2 fun hh => h ⟨hq, htop, hh⟩
      rw [retractReel_top htop, retractTraverse_out (by rw [pins_zeroed, hhome])]
      refine ⟨{ (s.cableway.zero .reel).energise .traverseIn (s.cableway.zero .reel).homingFast s.time.elapsed with
        retract := some { step := .traverse, phase := .driving } }, ?_, Option.some_ne_none _, rfl⟩
      exact ((s.cableway.zero .reel).afield_energise ..).trans (s.cableway.afield_zero .reel)
    | false =>
      rw [retractReel_lowered htop]
      refine ⟨{ s.cableway.energise .reelUp true s.time.elapsed with
        retract := some { step := .reel, phase := .driving } }, ?_, Option.some_ne_none _, rfl⟩
      exact s.cableway.afield_energise ..
  · rw [if_neg hq]
    exact ⟨{ s.cableway with retract := some { step := .reel, phase := .waiting } }, rfl, Option.some_ne_none _, rfl⟩

end

/-! ### The stand-down (R166, R167) -/

theorem closeRun_of_shut {s : State} (h : s.run.openBody = none) (o : RunOutcome) : closeRun o s = s := by
  simp only [closeRun, h]

theorem due_closeRun {s : State} (hroom : s.record.full = false) (o : RunOutcome) : (closeRun o s).due = s.due := by
  cases hb : s.run.openBody with
  | none => rw [closeRun_of_shut hb]
  | some b => rw [closeRun_of_open hb, append_of_not_full (by exact hroom), due_syncRecord]; rfl

theorem closeRun_cableway (o : RunOutcome) (s : State) :
    ∃ pl, (closeRun o s).cableway = { s.cableway with placement := pl } := by
  cases hb : s.run.openBody with
  | none =>
    refine ⟨s.cableway.placement, ?_⟩
    rw [closeRun_of_shut hb]
  | some b =>
    refine ⟨none, ?_⟩
    rw [closeRun_of_open hb, steady_cableway (steady_append ..)]
    rfl

theorem endOp_none {s : State} (h : s.cableway.op = none) (o : OpOutcome) (r : OpResults) : endOp o r s = s := by
  simp only [endOp, h]

/-- The two bytes of a word, most significant first. -/
theorem bytes16_eq_beBytes (v : U16) : bytes16 v = beBytes 2 v.toNat := by
  have hv := v.isLt
  have hhigh : v.extractLsb' 8 8 = BitVec.ofInt 8 ((v.toNat : Int) / (256 : Int) ^ 1) := by
    apply BitVec.eq_of_toNat_eq
    rw [BitVec.extractLsb'_toNat, BitVec.toNat_ofInt, Nat.shiftRight_eq_div_pow]
    omega
  have hlow : v.extractLsb' 0 8 = BitVec.ofInt 8 ((v.toNat : Int) / (256 : Int) ^ 0) := by
    apply BitVec.eq_of_toNat_eq
    rw [BitVec.extractLsb'_toNat, BitVec.toNat_ofInt, Nat.shiftRight_eq_div_pow]
    omega
  rw [bytes16, hhigh, hlow]
  rfl

/-- What an operation ended by cut drives leaves of the cableway and the ports. -/
theorem endOp_cutDrives (o : OpOutcome) (r : OpResults) (s : State) :
    ∃ c x, endOp o r (cutDrives s) = (s.withCableway c).withPorts x
      ∧ c.op = none ∧ c.drive = none ∧ c.quiet = (s.cableway.cut s.time.elapsed).quiet ∧ c.pins = s.cableway.pins
      ∧ ∀ op, s.cableway.op = some op →
        c.lastOp = some { name := op.kind.name, outcome := o, time := s.time.station, results := r }
          ∧ x.cableway.events.opDone = true := by
  have hop : (cutDrives s).cableway.op = s.cableway.op := Cableway.op_of_afield (by simp [cutDrives, onCable])
  have hpins : (cutDrives s).cableway.pins = s.cableway.pins :=
    Cableway.pins_of_afield (by simp [cutDrives, onCable])
  have hdrive : (cutDrives s).cableway.drive = none := Cableway.cut_drive ..
  cases h : s.cableway.op with
  | none =>
    rw [h] at hop
    rw [endOp_none hop]
    exact ⟨_, s.ports, (State.withPorts_same _).symm, hop, hdrive, rfl, hpins, fun op hs => by simp at hs⟩
  | some op =>
    rw [h] at hop
    rw [endOp_of_op hop]
    refine ⟨_, _, rfl, rfl, hdrive, rfl, hpins, fun k hk => ?_⟩
    obtain rfl := Option.some.inj hk
    exact ⟨rfl, rfl⟩

@[simp] theorem closeRun_time (o : RunOutcome) (s : State) : (closeRun o s).time = s.time := by
  obtain ⟨_, _, _, _, _, _, _, h⟩ := closeRun_only o s
  simp [h]

/-- The part with its drives cut, its operation ended and its run closed by a stand-down (R167 steps 1 to 3). -/
def stilled (s : State) : State := closeRun .abandonedFlood (endOp .stoodDown .none (cutDrives s))

/-- A stand-down but for its retract. -/
def stoodDown (cond : StandCondition) (s : State) : State := permitChange .standingDown (.standDown cond) (stilled s)

theorem standDown_eq (cond : StandCondition) (s : State) : standDown cond s = startRetract (stoodDown cond s) := rfl

theorem stilled_permit (s : State) : (stilled s).permit = s.permit := by
  obtain ⟨c, x, he, -⟩ := endOp_cutDrives .stoodDown .none s
  rw [stilled, closeRun_permit, he]
  rfl

theorem stilled_time (s : State) : (stilled s).time = s.time := by
  obtain ⟨c, x, he, -⟩ := endOp_cutDrives .stoodDown .none s
  rw [stilled, closeRun_time, he]
  rfl

theorem stilled_due {s : State} (hroom : s.record.full = false) : (stilled s).due = s.due := by
  obtain ⟨c, x, he, -⟩ := endOp_cutDrives .stoodDown .none s
  rw [stilled, he, due_closeRun (by exact hroom)]
  rfl

/-- The closed run and its entry. -/
theorem stilled_run {s : State} {b : RunBody} (hb : s.run.openBody = some b) :
    (stilled s).run = closedRun s b .abandonedFlood
      ∧ (s.record.full = false → (stilled s).record = s.record.placeOrRenumber
        (.run (runEntry s.run.number b (closingOf s.rating b .abandonedFlood s.time.station))) s.time.station) := by
  obtain ⟨c, x, he, -⟩ := endOp_cutDrives .stoodDown .none s
  rw [stilled, he]
  refine ⟨steady_run (closeRun_steady (by exact hb) .abandonedFlood), fun hroom => ?_⟩
  rw [closeRun_of_open (b := b) (by exact hb), append_of_not_full (by exact hroom)]
  rfl

theorem stilled_shut (s : State) : (stilled s).run.openBody = none := by
  cases hb : s.run.openBody with
  | none =>
    obtain ⟨c, x, he, -⟩ := endOp_cutDrives .stoodDown .none s
    rw [stilled, he, closeRun_of_shut (by exact hb)]
    exact hb
  | some b =>
    rw [(stilled_run hb).1]
    rfl

section
variable {s : State} (hopen : s.permit.record.state = .open_) (cond : StandCondition)

include hopen in
theorem stoodDown_permit : (stoodDown cond s).permit = { s.permit with
    record := { state := .standingDown, cause := .standDown cond, time := s.time.station } } := by
  rw [stoodDown, permitChange_permit (by rw [stilled_permit, hopen]; decide), stilled_permit, changedPermit, stilled_time]

include hopen in
theorem stoodDown_told {p : Port} (hp : p ≠ .logger) :
    ((stoodDown cond s).ports.get p).events.permit = true
      ∧ ((stoodDown cond s).ports.get p).permitCopy = some (stoodDown cond s).permit.record := by
  rw [stoodDown_permit hopen]
  have h := permitChange_raises (st := .standingDown) (s := stilled s) (by rw [stilled_permit, hopen]; decide)
    (.standDown cond) hp
  rw [changedPermit, stilled_time] at h
  exact h

/-- The cableway stands still, without an operation, and its ended operation is told (R126). -/
theorem stoodDown_cableway :
    (stoodDown cond s).cableway.op = none ∧ (stoodDown cond s).cableway.pins = s.cableway.pins
      ∧ ((stoodDown cond s).cableway.quiet = true ↔ s.cableway.drive = none ∧ s.cableway.quiet = true)
      ∧ ∀ op, s.cableway.op = some op →
        (stoodDown cond s).cableway.lastOp
            = some { name := op.kind.name, outcome := .stoodDown, time := s.time.station, results := .none }
          ∧ (stoodDown cond s).ports.cableway.events.opDone = true := by
  obtain ⟨c, x, he, hop, -, hquiet, hpins, hended⟩ := endOp_cutDrives .stoodDown .none s
  obtain ⟨pl, hpl⟩ := closeRun_cableway .abandonedFlood (endOp .stoodDown .none (cutDrives s))
  have hcable : (stoodDown cond s).cableway = { c with placement := pl } := by
    rw [stoodDown, permitChange_cableway, stilled, hpl, he]
    rfl
  rw [hcable]
  refine ⟨hop, hpins, ?_, fun op h => ⟨(hended op h).1, ?_⟩⟩
  · rw [← Cableway.quiet_cut s.cableway s.time.elapsed, ← hquiet]
    rfl
  · have hwithin := (((HandsOn.refl (endOp .stoodDown .none (cutDrives s))).closeRun .abandonedFlood).permitChange
      .standingDown (.standDown cond)).events .cableway
    refine hwithin.opDone ?_
    rw [he]
    exact (hended op h).2

include hopen in
/-- What a stand-down comes to: a carriage that stands home completes the retract at once, and otherwise the retract
is in flight. -/
theorem standDown_ends :
    ∃ c, c.afield = (stoodDown cond s).cableway.afield ∧
      (((s.cableway.drive = none ∧ s.cableway.quiet = true ∧ s.cableway.pins.top = true
            ∧ s.cableway.pins.home = true) ∧ c.retract = none
          ∧ standDown cond s = permitChange .closed .retractDone ((stoodDown cond s).withCableway c))
        ∨ (¬(s.cableway.drive = none ∧ s.cableway.quiet = true ∧ s.cableway.pins.top = true
            ∧ s.cableway.pins.home = true) ∧ c.retract ≠ none
          ∧ standDown cond s = (stoodDown cond s).withCableway c)) := by
  obtain ⟨-, hpins, hquiet, -⟩ := stoodDown_cableway (s := s) cond
  rw [standDown_eq]
  by_cases hhome : s.cableway.drive = none ∧ s.cableway.quiet = true ∧ s.cableway.pins.top = true
      ∧ s.cableway.pins.home = true
  · obtain ⟨hd, hq, htop, hh⟩ := hhome
    obtain ⟨c, hc, hnone, hstart⟩ := startRetract_home (hquiet.2 ⟨hd, hq⟩) (by rw [hpins, htop]) (by rw [hpins, hh])
    rw [if_pos (by rw [stoodDown_permit hopen])] at hstart
    exact ⟨c, hc, .inl ⟨⟨hd, hq, htop, hh⟩, hnone, hstart⟩⟩
  · obtain ⟨c, hc, hsome, hstart⟩ := startRetract_away (s := stoodDown cond s) fun h =>
      hhome ⟨(hquiet.1 h.1).1, (hquiet.1 h.1).2, hpins ▸ h.2.1, hpins ▸ h.2.2⟩
    exact ⟨c, hc, .inr ⟨hhome, hsome, hstart⟩⟩

include hopen in
/-- The permit's record after a stand-down and its telling, and what else the retract leaves. -/
theorem standDown_told :
    (standDown cond s).run = (stilled s).run
    ∧ (standDown cond s).cableway.afield = (stoodDown cond s).cableway.afield
    ∧ (∀ p, p ≠ .logger → ((standDown cond s).ports.get p).events.permit = true
      ∧ (standDown cond s).copies.get p = some (standDown cond s).permit.record)
    ∧ (((s.cableway.drive = none ∧ s.cableway.quiet = true ∧ s.cableway.pins.top = true
            ∧ s.cableway.pins.home = true) ∧ (standDown cond s).cableway.retract = none
          ∧ (standDown cond s).permit.record
            = { state := .closed, cause := .retractDone, time := s.time.station })
        ∨ (¬(s.cableway.drive = none ∧ s.cableway.quiet = true ∧ s.cableway.pins.top = true
            ∧ s.cableway.pins.home = true) ∧ (standDown cond s).cableway.retract ≠ none
          ∧ (standDown cond s).permit.record
            = { state := .standingDown, cause := .standDown cond, time := s.time.station })) := by
  have hrun : (stoodDown cond s).run = (stilled s).run := permitChange_run ..
  have hpermit := stoodDown_permit hopen cond
  have htime : (stoodDown cond s).time = s.time := by
    obtain ⟨_, _, _, _, h⟩ := permitChange_only .standingDown (.standDown cond) (stilled s)
    rw [stoodDown, h]
    exact stilled_time s
  simp only [copies_get]
  obtain ⟨c, hc, ⟨hhome, hnone, he⟩ | ⟨haway, hsome, he⟩⟩ := standDown_ends hopen cond <;> rw [he]
  · have hne : ((stoodDown cond s).withCableway c).permit.record.state ≠ .closed := by
      rw [State.withCableway_permit, hpermit]
      exact PermitState.noConfusion
    have hrecord : (permitChange .closed .retractDone ((stoodDown cond s).withCableway c)).permit.record
        = { state := .closed, cause := .retractDone, time := s.time.station } := by
      rw [permitChange_permit hne, changedPermit, State.withCableway_time, htime]
    refine ⟨(permitChange_run ..).trans hrun, by rw [permitChange_cableway]; exact hc, fun p hp => ?_,
      .inl ⟨hhome, by rw [permitChange_cableway]; exact hnone, hrecord⟩⟩
    rw [permitChange_permit hne]
    exact permitChange_raises hne .retractDone hp
  · exact ⟨hrun, hc, fun p hp => stoodDown_told hopen cond hp,
      .inr ⟨haway, hsome, by rw [State.withCableway_permit, hpermit]⟩⟩

theorem standDown_within : HandsOn 0 (stoodDown cond s) (standDown cond s) := (HandsOn.refl _).startRetract

end

/-! ### The conditions (R166) -/

/-- A stand-down condition holds. -/
def Stands (s : State) : Prop :=
  (s.permit.level ≠ 0 ∧ s.permit.level ≤ s.warning.level)
  ∨ (s.permit.rate ≠ 0 ∧ s.stage.record.rateValid = true ∧ (s.permit.rate : Int) ≤ s.stage.record.rate)
  ∨ ((s.stage.record.quality = .good ∨ s.stage.record.quality = .suspect)
    ∧ ∃ l v, s.permit.stage = some l ∧ s.stage.record.value = some v ∧ l ≤ v)

/-- The first condition that holds, where one does. -/
def firstStanding (s : State) : StandCondition :=
  if s.permit.level ≠ 0 ∧ s.permit.level ≤ s.warning.level then .level
  else if s.permit.rate ≠ 0 ∧ s.stage.record.rateValid = true ∧ (s.permit.rate : Int) ≤ s.stage.record.rate then .rate
  else .stage

theorem standCondition_stands {s : State} (h : Stands s) : standCondition s = some (firstStanding s) := by
  unfold standCondition firstStanding
  dsimp only
  split
  · rfl
  case isFalse hlevel =>
    split
    · rfl
    case isFalse hrate =>
      obtain ⟨hq, l, v, hl, hv, hle⟩ := (h.resolve_left hlevel).resolve_left hrate
      simp [hl, hv, hq, hle]

theorem standCondition_none {s : State} (h : ¬Stands s) : standCondition s = none := by
  unfold standCondition
  dsimp only
  rw [if_neg fun hlevel => h (.inl hlevel), if_neg fun hrate => h (.inr (.inl hrate))]
  split
  case h_1 l v hl hv => exact if_neg fun hs => h (.inr (.inr ⟨hs.1, l, v, hl, hv, hs.2⟩))
  · rfl
  · rfl

theorem permitTest_stands {s : State} (hopen : s.permit.record.state = .open_) (h : Stands s) :
    permitTest s = standDown (firstStanding s) s := by
  rw [permitTest, if_pos hopen, standCondition_stands h]

theorem permitTest_holds {s : State} (h : ¬Stands s) : permitTest s = s := by
  rw [permitTest, standCondition_none h]
  split <;> rfl

/-! ### SET_STANDDOWN (R163) -/

theorem exec_setStanddown (x : StanddownPayload) (s : State) :
    exec (.setStanddown .logger x) s = execSetStanddown .logger x s := rfl

theorem standdownFits_iff (x : StanddownPayload) : standdownFits x = true ↔
    x.level.toNat ≤ 4 ∧ x.rate.toNat ≤ 32767
      ∧ (x.stage = 0x8000#16 ∨ (-32000 ≤ x.stage.toInt ∧ x.stage.toInt ≤ 32000)) := by
  simp [standdownFits, inRange, and_assoc]

/-- What is whole after a stand-down, whose permit is no longer OPEN. -/
theorem settle_standDown {s : State} (hopen : s.permit.record.state = .open_) (hdue : s.due = [])
    (cond : StandCondition) :
    (settle (standDown cond s)).steady = (standDown cond s).steady
      ∧ (settle (standDown cond s)).copies = (standDown cond s).copies
      ∧ (∀ p, ((standDown cond s).ports.get p).events.Within ((settle (standDown cond s)).ports.get p).events)
      ∧ (settle (standDown cond s)).kept = s.kept
      ∧ (s.record.full = false → (settle (standDown cond s)).record = (stilled s).record) := by
  have hn : NoCompletion (standDown cond s) := (NoCompletion.of_due_nil hdue).standDown cond
  obtain ⟨c, -, hends⟩ := standDown_ends hopen cond
  have hshut : (standDown cond s).permit.record.state ≠ .open_ := by
    rcases hends with ⟨-, -, he⟩ | ⟨-, -, he⟩ <;> rw [he]
    · rw [permitChange_record]
      split
      · rename_i h; rw [h]; decide
      · exact PermitState.noConfusion
    · rw [show ((stoodDown cond s).withCableway c).permit = _ from stoodDown_permit hopen cond]
      exact PermitState.noConfusion
  refine ⟨steady_settle hshut hn, copies_settle hshut hn, settle_events hn, ?_, fun hroom => ?_⟩
  · rw [kept_settle _ hn, kept_standDown]
  · have hwhole : (standDown cond s).due = [] ∧ (standDown cond s).record = (stilled s).record := by
      rw [standDown_eq, due_startRetract, stoodDown, due_permitChange, stilled_due hroom, hdue]
      refine ⟨rfl, ?_⟩
      rcases hends with ⟨-, -, he⟩ | ⟨-, -, he⟩ <;> rw [← stoodDown, ← standDown_eq, he]
      · rw [permitChange_recordUnit]
        exact permitChange_recordUnit ..
      · exact permitChange_recordUnit ..
    rw [settle_of_due_nil _ hwhole.1, hwhole.2]

/-- Settles O54: the limits replaced, and the stand-down of an OPEN permit that meets one of them. -/
theorem standdownSet : Obligations.StanddownSet := by
  unfold Obligations.StanddownSet
  intro x s hj fits limit s0 r stands answer
  have hs0 : setStanddown x s = permitTest s0 := rfl
  have hstands : Stands s0 ↔ stands := Iff.rfl
  have hanswer : ∀ p : PermitRecord,
      okWith ([x.level] ++ bytes16 x.rate ++ bytes16 x.stage ++ permitBytes p) = answer p := fun p => by
    rw [bytes16_eq_beBytes, bytes16_eq_beBytes]
  refine ⟨fun hfit => ?unfit, fun hfit h => ?replaced, fun hfit hopen h => ?down⟩
  case unfit =>
    exact gives_of_work hj (exec_setStanddown x s) (if_neg fun h => hfit ((standdownFits_iff x).1 h))
  case replaced =>
    have hstill : permitTest s0 = s0 := by
      rcases h with hshut | hnot
      · exact permitTest_shut hshut
      · exact permitTest_holds hnot
    refine gives_of_work hj (exec_setStanddown x s) ?_
    rw [if_pos ((standdownFits_iff x).2 hfit)]
    dsimp only
    rw [hs0, hstill, settle_of_due_nil _ (by exact hj.2.2), hanswer]
    rfl
  case down =>
    have htest : permitTest s0 = standDown (firstStanding s0) s0 := permitTest_stands hopen h
    obtain ⟨hsteady, hcopies, hevents, hkept, hrecord⟩ :=
      settle_standDown (s := s0) hopen hj.2.2 (firstStanding s0)
    obtain ⟨hrun, hafield, htold, hends⟩ := standDown_told (s := s0) hopen (firstStanding s0)
    obtain ⟨hop, hpins, hquiet, hended⟩ := stoodDown_cableway (s := s0) (firstStanding s0)
    have hwithin := (standDown_within (s := s0) (firstStanding s0)).events .cableway
    rw [← steady_permit hsteady] at hends htold
    rw [← steady_cableway hsteady] at hends hafield
    rw [← steady_run hsteady] at hrun
    rw [← hcopies] at htold
    refine ⟨settle (standDown (firstStanding s0) s0), ?_, ?_, ?_, ?_, ?_, fun op hs => ⟨?_, ?_⟩,
      fun b hb => ⟨?_, fun hroom => ?_⟩, fun p hp => ⟨?_, ?_⟩, ?_, hkept⟩
    · refine gives_of_work hj (exec_setStanddown x s) ?_
      rw [if_pos ((standdownFits_iff x).2 hfit)]
      dsimp only
      rw [hs0, htest, hanswer, steady_permit hsteady]
    · rcases hends with ⟨-, -, he⟩ | ⟨-, -, he⟩ <;> simp [he]
    · rw [hrun]; exact stilled_shut s0
    · rw [Cableway.op_of_afield hafield, hop]
    · refine ⟨fun haway => ?_, fun hhome => ?_⟩
      · exact ((hends.resolve_left fun h => haway h.1).2.2)
      · exact ((hends.resolve_right fun h => h.1 hhome).2.2)
    · rw [Cableway.lastOp_of_afield hafield]
      exact (hended op hs).1
    · exact (hevents .cableway).opDone (hwithin.opDone (hended op hs).2)
    · rw [hrun]; exact (stilled_run (s := s0) hb).1
    · rw [hrecord hroom]; exact (stilled_run (s := s0) hb).2 hroom
    · exact (hevents p).permit (htold p hp).1
    · rw [← copies_get]; exact (htold p hp).2
    · rcases hends with ⟨-, hnone, he⟩ | ⟨-, hsome, he⟩
      · simp [hnone, he]
      · simp [hsome, he]

end Sys2Proof.Machine

/-! The resets ("Reset kinds and the retained domain"): what is held, what a restart makes of it, and what a cold
reset leaves. -/

namespace Sys2Proof.Machine

/-! ### Room in the record (R69) -/

theorem Record.HasRoom.not_full {r : Record} {n : Nat} (h : r.HasRoom (n + 1)) : r.full = false := by
  have := h.1
  simp only [full, decide_eq_false_iff_not]
  omega

theorem Record.HasRoom.place {r : Record} {n : Nat} (h : r.HasRoom (n + 1)) (e : Entry) (time : U32) :
    (r.placeOrRenumber e time).HasRoom n := by
  obtain ⟨hheld, hnext⟩ := h
  have hlast : r.next + 1 ≠ 4294967296 := by omega
  have hplaced : r.placeOrRenumber e time = r.place e := if_neg hlast
  rw [hplaced]
  refine ⟨?_, by simp only [Record.place]; omega⟩
  have hcap : (r.place e).capacity = r.capacity := rfl
  have hitems : (r.place e).held ≤ r.held + 1 := by
    show r.next + 1 - r.oldest - r.lostCount ≤ r.next - r.oldest - r.lostCount + 1
    omega
  omega

/-! ### What the warning unit keeps through the rounds -/

/-- The configuration of the warning unit, its rule records and its display content. -/
def Warning.settings (w : Warning) : Warning :=
  { w with
    rules := w.rules.map Rule.atReset, level := 0, target := 0, hold := none, siren := none, beacon := none }

theorem atReset_evaluate (r : Rule) (q : Option U32) (skip : Bool) (time : U32) :
    (r.evaluate q skip time).atReset = r.atReset := by
  simp only [Rule.evaluate]
  split <;> rfl

theorem atReset_inRound (r : Rule) (b : Bool) (word : U32) (s : State) : (r.inRound b word s).atReset = r.atReset := by
  unfold Rule.inRound
  split
  · exact atReset_evaluate ..
  · rfl

theorem settings_evaluateRound (b : Bool) (word : U32) (s : State) :
    (evaluateRound b word s).warning.settings = s.warning.settings := by
  simp only [evaluateRound, State.withWarning_warning, Warning.settings, List.map_map]
  have hrules : (s.warning.rules.map (Rule.atReset ∘ fun r => r.inRound b word s))
      = s.warning.rules.map Rule.atReset := List.map_congr_left fun r _ => atReset_inRound r b word s
  rw [hrules]

theorem settings_changeLevel (n : Nat) (c : WarningCause) (s : State) :
    (changeLevel n c s).warning.settings = s.warning.settings := by
  rw [changeLevel_warning]
  rfl

theorem settings_computeLevel (b : Bool) (s : State) : (computeLevel b s).warning.settings = s.warning.settings := by
  rcases computeLevel_cases s b with ⟨c, -, -, h⟩ | ⟨_, -, -, h⟩ <;> rw [h]
  · rw [settings_changeLevel]
    rfl
  · rfl

theorem settings_doWork {w : Work} (hw : w ≠ .completion) (s : State) :
    (doWork w s).warning.settings = s.warning.settings := by
  cases w with
  | batch rs => rw [doWork, takeBatch_warning]
  | faultRound word => rw [doWork, faultRound, settings_computeLevel, settings_evaluateRound]
  | stageRound => rw [doWork, stageRound, settings_computeLevel, settings_evaluateRound]
  | permitTest => rw [doWork, permitTest_warning]
  | sampleEntry time cause => rw [doWork, append_warning]
  | completion => exact absurd rfl hw

theorem settings_settle {s : State} (hn : NoCompletion s) : (settle s).warning.settings = s.warning.settings :=
  settle_keeps_uncompleted (fun t => t.warning.settings = s.warning.settings) (fun _ _ h => h)
    (fun t _ hw h => (settings_doWork hw t).trans h) hn rfl

/-! ### The part as a restart begins -/

/-- The part with its blocks at their reset values and its channels in service, before the next due instant is
placed. -/
def restartBase (ms : Nat) (s : State) : State :=
  let s0 := (clearVolatile s).withHeld none
  let s1 := s0.withTime { s0.time with nextCount := BitVec.ofNat 32 ms }
  s1.withChans (s1.chans.map fun _ x => x.atRestart)

theorem startedBlocks_eq (ms : Nat) (s : State) : startedBlocks ms s = placeDue (restartBase ms s) := rfl

/-- The part with its blocks started and RESTART reported. -/
def restartReported (src : ResetSource) (ms : Nat) (s : State) : State :=
  takeBatch [{ fault := .restart, arg := .reset (.station src) }] (sendDisplay .dashes (startedBlocks ms s))

/-- The part at a restart with everything but the rounds done. -/
def restartClosed (src : ResetSource) (ms : Nat) (s : State) : State :=
  closeRun .abandonedReset
    (append (.restart (restartReported src ms s).time.station (.station src)) (restartReported src ms s))

section
variable (src : ResetSource) (ms : Nat) (s : State)

theorem restart_settles : restart src ms s = settle (restartClosed src ms s) := rfl

/-- The display and the latch as a restart sends them. -/
def dashed (s : State) : State :=
  s.withLatch { bits := (displayCodes .dashes).flatMap codeBits, transfers := s.latch.transfers + 1 }

theorem sent_dashed : Sent .dashes s.latch (dashed s).latch := by
  have hbits : (displayCodes .dashes).flatMap codeBits = (displayCodes .dashes).flatMap fun n =>
      [decide (8 ≤ n), decide (4 ≤ n % 8), decide (2 ≤ n % 4), decide (n % 2 = 1)] := by decide
  exact ⟨rfl, displayCodes .dashes, rfl, hbits⟩

theorem restartReported_only : ∃ x y z v w, restartReported src ms s
    = (((((dashed (restartBase ms s)).withSchedule x).withChans y).withFaults z).withPorts v).withDue w := by
  obtain ⟨x, y, hplace⟩ := placeDue_only (restartBase ms s)
  obtain ⟨z, v, w, hbatch⟩ := takeBatch_frame [{ fault := .restart, arg := .reset (.station src) }]
    (sendDisplay .dashes (startedBlocks ms s))
  rw [restartReported, hbatch, startedBlocks_eq, hplace]
  exact ⟨x, y, z, v, w, rfl⟩

theorem kept_sendDisplay : (sendDisplay .dashes s).kept = dashed s.kept := rfl

theorem kept_dashed : (dashed s).kept = dashed s.kept := rfl

theorem kept_restartReported : (restartReported src ms s).kept = (dashed (restartBase ms s)).kept := by
  rw [restartReported, kept_takeBatch, startedBlocks_eq, kept_sendDisplay, kept_placeDue, kept_dashed]

theorem steady_restartReported : (restartReported src ms s).steady = (dashed (restartBase ms s)).steady := by
  obtain ⟨x, y, z, v, w, h⟩ := restartReported_only src ms s
  rw [h]
  rfl

theorem kept_restartClosed : (restartClosed src ms s).kept = (dashed (restartBase ms s)).kept := by
  rw [restartClosed, kept_closeRun, kept_append, kept_restartReported]

theorem restartReported_due : ∀ w ∈ (restartReported src ms s).due, ∃ word, w = .faultRound word := by
  have hdue : (sendDisplay .dashes (startedBlocks ms s)).due = [] := by
    show (startedBlocks ms s).due = []
    rw [startedBlocks_eq, due_placeDue]
    rfl
  intro w hw
  by_cases hfresh : ∃ r ∈ [({ fault := .restart, arg := .reset (.station src) } : Report)],
      bitSet (sendDisplay .dashes (startedBlocks ms s)).faults.word r.fault = false
  · rw [restartReported, takeBatch_fresh _ _ hfresh, due_owe, due_raiseFaultEvents, State.withFaults_due, hdue,
      List.nil_append, List.mem_singleton] at hw
    exact ⟨_, hw⟩
  · rw [restartReported, takeBatch_stale _ _ hfresh, State.withFaults_due, hdue] at hw
    exact absurd hw List.not_mem_nil

theorem noCompletion_restartClosed : NoCompletion (restartClosed src ms s) := by
  refine NoCompletion.closeRun (NoCompletion.append (fun h => ?_) _) _
  obtain ⟨word, hword⟩ := restartReported_due src ms s _ h
  exact Work.noConfusion hword

theorem permit_restartReported : (restartReported src ms s).permit
    = { s.permit with record := restartPermit s.cableway.pins.loadTrip s.time.station } := by
  have h := steady_permit (steady_restartReported src ms s)
  exact h

theorem restart_kept : (restart src ms s).kept = (dashed (restartBase ms s)).kept := by
  rw [restart_settles, kept_settle _ (noCompletion_restartClosed src ms s), kept_restartClosed]

theorem restart_steady : (restart src ms s).steady = (restartClosed src ms s).steady := by
  rw [restart_settles]
  refine steady_settle (s := restartClosed src ms s) ?_ (noCompletion_restartClosed src ms s)
  rw [restartClosed, closeRun_permit, append_permit, permit_restartReported]
  exact restartPermit_notOpen _ _

/-- A close depends on what no hand-on touches. -/
theorem closedRun_steady (t : State) (b : RunBody) (o : RunOutcome) :
    (clearWorking (t.withRun (closedRun t b o))).steady
      = clearWorking (t.steady.withRun (closedRun t.steady b o)) := rfl

/-- The run that a restart finds OPEN is closed ABANDONED_RESET (R160), and the working vertical is clear. -/
theorem restartClosed_run :
    (restartClosed src ms s).run = (match s.run.openBody with
      | none => s.run
      | some b => closedRun (restartBase ms s) b .abandonedReset)
    ∧ (restartClosed src ms s).working = .empty
    ∧ (restartClosed src ms s).cableway = .reset s.cableway.config s.cableway.pins := by
  have hbefore : (append (.restart (restartReported src ms s).time.station (.station src))
      (restartReported src ms s)).steady = (dashed (restartBase ms s)).steady := by
    rw [steady_append, steady_restartReported]
  have hrun := steady_run hbefore
  cases hb : s.run.openBody with
  | none =>
    rw [restartClosed, closeRun_of_shut (by rw [hrun]; exact hb)]
    exact ⟨hrun, steady_working hbefore, steady_cableway hbefore⟩
  | some b =>
    have hclosed := closeRun_steady (s := append (.restart (restartReported src ms s).time.station (.station src))
      (restartReported src ms s)) (b := b) (by rw [hrun]; exact hb) .abandonedReset
    rw [closedRun_steady, hbefore, ← closedRun_steady] at hclosed
    exact ⟨steady_run hclosed, steady_working hclosed, steady_cableway hclosed⟩

theorem channelRestarted (x : Channel) : ChannelRestarted x x.atReset.atRestart := by
  unfold ChannelRestarted Channel.atRestart
  dsimp only
  have hserve := Channel.serve_eq x.atReset 0
  dsimp only at hserve
  cases hst : x.state <;> cases hm : x.config.mode <;>
    simp [Channel.atReset, hst, hm, Channel.serve_eq]

theorem parked_restartReported (c : Chan) :
    Parked c (chan c s).atReset.atRestart (restartReported src ms s) := by
  refine (scheduleWord_parked c _).takeBatch (s := sendDisplay .dashes (startedBlocks ms s)) ?_ _
  refine (scheduleWord_parked c _).beside (s := startedBlocks ms s) rfl rfl rfl ?_
  rw [Parked, startedBlocks_eq]
  refine chanView_placeDue ?_
  cases c <;> rfl

theorem parked_restart (c : Chan) : Parked c (chan c s).atReset.atRestart (restart src ms s) := by
  rw [restart_settles]
  exact (scheduleWord_parked c _).settle (s := restartClosed src ms s)
    ((scheduleWord_parked c _).closeRun ((scheduleWord_parked c _).append (parked_restartReported src ms s c) _) _)
    (noCompletion_restartClosed src ms s)

theorem placed_restart : Placed (restart src ms s) := by
  rw [restart_settles]
  refine scheduleWord_placed.settle (s := restartClosed src ms s) ?_ (noCompletion_restartClosed src ms s)
  refine scheduleWord_placed.closeRun (scheduleWord_placed.append (scheduleWord_placed.takeBatch
    (s := sendDisplay .dashes (startedBlocks ms s)) ?_ _) _) _
  refine scheduleWord_placed.beside (s := startedBlocks ms s) rfl rfl rfl ?_
  rw [startedBlocks_eq]
  exact placed_placeDue _

theorem warning_restartReported : (restartReported src ms s).warning = s.warning.atReset := by
  obtain ⟨x, y, z, v, w, h⟩ := restartReported_only src ms s
  rw [h]
  rfl

theorem settings_restart : (restart src ms s).warning.settings = s.warning.atReset.settings := by
  rw [restart_settles, settings_settle (noCompletion_restartClosed src ms s), restartClosed, closeRun_warning,
    append_warning, warning_restartReported]

theorem bit_restart : bitSet (restart src ms s).faults.word .restart = true := by
  rw [restart_settles]
  refine settle_bits (noCompletion_restartClosed src ms s) ?_
  refine (((HandsOn.refl (restartReported src ms s)).append _).closeRun _).bits .restart ?_
  rw [restartReported, takeBatch_faults]
  exact (bitSet_takeReports _ .restart _ _).2 (.inr ⟨_, List.mem_singleton_self _, rfl⟩)

theorem copies_closeRun (o : RunOutcome) (s : State) : (closeRun o s).copies = s.copies := by
  cases hb : s.run.openBody with
  | none => rw [closeRun_of_shut hb]
  | some b => rw [closeRun_of_open hb, copies_append]; rfl

theorem copies_restart (p : Port) : (restart src ms s).copies.get p = none := by
  have hstarted : (startedBlocks ms s).copies.get p = none := by
    obtain ⟨x, y, hplace⟩ := placeDue_only (restartBase ms s)
    rw [startedBlocks_eq, hplace]
    cases p <;> rfl
  rw [restart_settles, copies_settle ?_ (noCompletion_restartClosed src ms s), restartClosed, copies_closeRun,
    copies_append, restartReported, copies_takeBatch]
  · exact hstarted
  · rw [restartClosed, closeRun_permit, append_permit, permit_restartReported]
    exact restartPermit_notOpen _ _

/-! ### A restart whose fault round moves nothing -/

/-- The fault unit with RESTART alone reported. -/
def restartFaults (src : ResetSource) (time : U32) : FaultUnit :=
  { word := 0x00100000#32
    detail := some { fault := .restart, time := time, arg := .reset (.station src) }
    thresholds := FaultUnit.defaultThresholds }

theorem takeReports_restart (src : ResetSource) (time : U32) :
    takeReports time .atReset [{ fault := .restart, arg := .reset (.station src) }] = restartFaults src time := by
  simp [takeReports, takeReport, FaultUnit.atReset, restartFaults, faultMask, faultBit, detailAfter]

/-- The ports at a restart: the logger port has its FAULT event (R179, R194). -/
def restartPorts (s : State) : PerPort PortUnit :=
  { logger := { s.ports.logger.atReset with events := { EventSet.none with fault := true } }
    cableway := s.ports.cableway.atReset
    warning := s.ports.warning.atReset }

theorem restartReported_eq : ∃ x y word, x.mode = .normal ∧ restartReported src ms s
    = (((((dashed (restartBase ms s)).withSchedule x).withChans y).withFaults
        (restartFaults src s.time.station)).withPorts (restartPorts s)).withDue [.faultRound word] := by
  obtain ⟨x, y, hplace⟩ := placeDue_only (restartBase ms s)
  obtain ⟨preWarm, hschedule⟩ := placeDue_schedule (restartBase ms s)
  have hmode : x.mode = .normal := by
    rw [show x = (placeDue (restartBase ms s)).schedule by rw [hplace]; rfl, hschedule]
    rfl
  refine ⟨x, y, 0x00100000#32, hmode, ?_⟩
  have hbit : bitSet 0#32 .restart = false := by decide
  have hfresh : newlySet 0#32 [({ fault := .restart, arg := .reset (.station src) } : Report)] = [.restart] := by
    show ([StationFault.restart].filter fun f => !bitSet 0#32 f) = [.restart]
    decide
  rw [restartReported, startedBlocks_eq, hplace, takeBatch_fresh _ _ ⟨_, List.mem_singleton_self _, hbit⟩,
    show newlySet (sendDisplay .dashes (((restartBase ms s).withSchedule x).withChans y)).faults.word _ = _ from hfresh,
    show takeReports (sendDisplay .dashes (((restartBase ms s).withSchedule x).withChans y)).time.station
      (sendDisplay .dashes (((restartBase ms s).withSchedule x).withChans y)).faults _ = _
      from takeReports_restart src s.time.station]
  rfl

/-- No fault round moves a warning unit at its reset values whose rules do not watch the fault word. -/
theorem faultRound_atReset {w : Warning} {t : State} (ht : t.warning = w.atReset)
    (hw : ∀ r ∈ w.rules, r.quantity = .faults → r.enabled = false) (word : U32) : faultRound word t = t := by
  have hrules : ∀ r ∈ t.warning.rules, r.quantity = .faults → r.enabled = false := by
    rw [ht]
    intro r hr
    obtain ⟨r', hr', rfl⟩ := List.mem_map.1 hr
    exact hw r' hr'
  have htarget : t.warning.formTarget = 0 := by
    rw [ht]
    show max 0 (countingLevel (w.rules.map Rule.atReset)) = 0
    rw [countingLevel_atReset]
    rfl
  have hlevel : t.warning.level = 0 := by rw [ht]; rfl
  rw [faultRound, evaluateRound_unwatched hrules, computeLevel_stays true (by omega) (by omega), htarget, hlevel,
    if_neg (by omega)]
  have hsame : { t.warning with target := 0, hold := none } = t.warning := by rw [ht]; rfl
  rw [hsame]
  exact State.withWarning_same t

end

theorem closeRun_with_room {s : State} {b : RunBody} (hb : s.run.openBody = some b) (hroom : s.record.full = false)
    (o : RunOutcome) :
    closeRun o s = syncRecord ((clearWorking (s.withRun (closedRun s b o))).withRecord
      (s.record.placeOrRenumber (.run (runEntry s.run.number b (closingOf s.rating b o s.time.station)))
        s.time.station)) := by
  rw [closeRun_of_open hb, append_of_not_full (by exact hroom)]
  rfl

/-- Two records in turn, with the readers' RECORD events settled after each. -/
theorem syncRecord_closed {s t : State} {r : Record} (ht : t = syncRecord (s.withRecord r)) (x : RunRecord)
    (r' : Record) :
    (syncRecord ((clearWorking (t.withRun x)).withRecord r')).record = r'
    ∧ (syncRecord ((clearWorking (t.withRun x)).withRecord r')).faults = s.faults
    ∧ (syncRecord ((clearWorking (t.withRun x)).withRecord r')).ports.cableway.events = s.ports.cableway.events
    ∧ (syncRecord ((clearWorking (t.withRun x)).withRecord r')).ports.logger.events
      = { s.ports.logger.events with record := decide (r'.loggerCursor < r'.next) }
    ∧ (syncRecord ((clearWorking (t.withRun x)).withRecord r')).ports.warning.events
      = { s.ports.warning.events with record := decide (r'.warningCursor < r'.next) } := by
  subst ht
  exact ⟨by simp, by simp [syncRecord, clearWorking], by simp [syncRecord, clearWorking], rfl, rfl⟩

/-- The record after an entry and the close of an OPEN run (R89, R159). -/
def enteredAndClosed (e : Entry) (o : RunOutcome) (s : State) : Record :=
  match s.run.openBody with
  | none => s.record.placeOrRenumber e s.time.station
  | some b => (s.record.placeOrRenumber e s.time.station).placeOrRenumber
      (.run (runEntry s.run.number b (closingOf s.rating b o s.time.station))) s.time.station

/-- The record entered depends on the run, the rating's generation, the record and the time; an abandoned run has no
results. -/
theorem enteredAndClosed_same {s t : State} (hrun : t.run = s.run) (hrecord : t.record = s.record)
    (hgeneration : t.rating.generation = s.rating.generation) (htime : t.time.station = s.time.station) (e : Entry) :
    enteredAndClosed e .abandonedReset t = enteredAndClosed e .abandonedReset s := by
  unfold enteredAndClosed
  rw [hrun, hrecord, htime]
  simp only [closingOf, hgeneration]

section
variable {s : State} (hroom : s.record.HasRoom 2) (e : Entry) (o : RunOutcome)

theorem steady_rating {s t : State} (h : s.steady = t.steady) : s.rating = t.rating := by
  have := congrArg State.rating h
  exact this

theorem append_record_of_not_full {s : State} (hroom : s.record.full = false) (e : Entry) :
    (append e s).record = s.record.placeOrRenumber e s.time.station := by
  rw [append_of_not_full hroom]
  rfl

include hroom

/-- An entry and the close of an OPEN run, with room for both in the record. -/
theorem closeRun_append_with_room :
    (closeRun o (append e s)).record = enteredAndClosed e o s
    ∧ (closeRun o (append e s)).faults = s.faults
    ∧ (closeRun o (append e s)).ports.cableway.events = s.ports.cableway.events
    ∧ (closeRun o (append e s)).ports.logger.events
      = { s.ports.logger.events with
          record := decide ((enteredAndClosed e o s).loggerCursor < (enteredAndClosed e o s).next) }
    ∧ (closeRun o (append e s)).ports.warning.events
      = { s.ports.warning.events with
          record := decide ((enteredAndClosed e o s).warningCursor < (enteredAndClosed e o s).next) } := by
  have hrecord := append_record_of_not_full hroom.not_full e
  have hsteady := steady_append s e
  have hplaced := hroom.place e s.time.station
  have hwhole := append_of_not_full hroom.not_full e
  unfold enteredAndClosed
  cases hb : s.run.openBody with
  | none =>
    rw [closeRun_of_shut (by rw [steady_run hsteady]; exact hb), hwhole]
    exact ⟨rfl, rfl, rfl, rfl, rfl⟩
  | some b =>
    rw [closeRun_with_room (b := b) (by rw [steady_run hsteady]; exact hb) (by rw [hrecord]; exact hplaced.not_full),
      hrecord, steady_run hsteady, steady_rating hsteady, append_time]
    exact syncRecord_closed hwhole _ _

theorem due_append_closeRun :
    (closeRun o (append e s)).due = s.due := by
  have hfirst := append_of_not_full hroom.not_full e
  have hfull : (append e s).record.full = false := by
    rw [hfirst]
    exact (hroom.place e s.time.station).not_full
  rw [due_closeRun hfull, hfirst]
  rfl

end

/-- With room in the record and no rule that watches the fault word, a restart is made without any round. -/
theorem restart_unraised (src : ResetSource) (ms : Nat) (s : State)
    (hrules : ∀ r ∈ s.warning.rules, r.quantity = .faults → r.enabled = false) (hroom : s.record.HasRoom 2) :
    restart src ms s = (restartClosed src ms s).withDue [] := by
  obtain ⟨x, y, word, -, heq⟩ := restartReported_eq src ms s
  have hdue : (restartClosed src ms s).due = [.faultRound word] := by
    have hfirst : (restartReported src ms s).record.HasRoom 2 := by rw [heq]; exact hroom
    rw [restartClosed, due_append_closeRun hfirst _ _, heq]
    rfl
  rw [restart_settles]
  refine settle_still fun w hw => ?_
  rw [hdue, List.mem_singleton] at hw
  rw [hw, doWork]
  refine faultRound_atReset (w := s.warning) ?_ hrules word
  rw [State.withDue_warning, restartClosed, closeRun_warning, append_warning, warning_restartReported]

theorem closeRun_schedule (o : RunOutcome) (s : State) : (closeRun o s).schedule = s.schedule := by
  obtain ⟨_, _, _, _, _, _, _, h⟩ := closeRun_only o s
  simp [h]

theorem append_schedule (e : Entry) (s : State) : (append e s).schedule = s.schedule := by
  obtain ⟨_, _, _, _, h⟩ := append_only e s
  simp [h]

/-- The rest of what a restart leaves, where the record has room. -/
theorem restartClosed_unraised (src : ResetSource) (ms : Nat) (s : State) (hroom : s.record.HasRoom 2) :
    (restartClosed src ms s).schedule.mode = .normal
    ∧ (restartClosed src ms s).warning = s.warning.atReset
    ∧ (restartClosed src ms s).faults = restartFaults src s.time.station
    ∧ (restartClosed src ms s).record
      = enteredAndClosed (.restart s.time.station (.station src)) .abandonedReset s
    ∧ (restartClosed src ms s).ports.logger.events
      = { EventSet.none with
          fault := true
          record := decide ((restartClosed src ms s).record.loggerCursor < (restartClosed src ms s).record.next) }
    ∧ (restartClosed src ms s).ports.cableway.events = EventSet.none
    ∧ (restartClosed src ms s).ports.warning.events
      = { EventSet.none with
          record := decide ((restartClosed src ms s).record.warningCursor
            < (restartClosed src ms s).record.next) } := by
  obtain ⟨x, y, word, hmode, heq⟩ := restartReported_eq src ms s
  have hfirst : (restartReported src ms s).record.HasRoom 2 := by rw [heq]; exact hroom
  obtain ⟨hrecord, hfaults, hcable, hlogger, hwarn⟩ := closeRun_append_with_room hfirst
    (.restart (restartReported src ms s).time.station (.station src)) .abandonedReset
  rw [← hrecord, ← restartClosed] at hlogger hwarn
  rw [← restartClosed] at hrecord hfaults hcable
  refine ⟨?_, ?_, ?_, ?_, ?_, ?_, ?_⟩
  · rw [restartClosed, closeRun_schedule, append_schedule, heq]
    exact hmode
  · rw [restartClosed, closeRun_warning, append_warning, warning_restartReported]
  · rw [hfaults, heq]
    rfl
  · rw [hrecord, heq]
    exact enteredAndClosed_same rfl rfl rfl rfl _
  · rw [hlogger, show (restartReported src ms s).ports.logger.events = { EventSet.none with fault := true } by rw [heq]; rfl]
  · rw [hcable, heq]
    rfl
  · rw [hwarn, show (restartReported src ms s).ports.warning.events = EventSet.none by rw [heq]; rfl]

theorem kept_port (t : State) (p : Port) :
    t.kept.ports.get p = { t.ports.get p with events := .none, permitCopy := none } := PerPort.get_map ..

/-- What a restart leaves. -/
theorem restarted_restart (src : ResetSource) (ms : Nat) (s : State) : Restarted src s (restart src ms s) := by
  have hkept := restart_kept src ms s
  have hsteady := restart_steady src ms s
  have hsettings := settings_restart src ms s
  obtain ⟨hrun, hworking, hcableway⟩ := restartClosed_run src ms s
  have hparked := parked_restart src ms s
  have hplaced := placed_restart src ms s
  have hbit := bit_restart src ms s
  have hcopies := copies_restart src ms s
  have hunraised := restart_unraised src ms s
  generalize restart src ms s = t at *
  have hports : ∀ p, (t.ports.get p).phase = .idle
      ∧ (t.ports.get p).overrun = false ∧ (t.ports.get p).abandoned = []
      ∧ (t.ports.get p).mask = EventSet.all := by
    intro p
    have h := congrArg (fun t => t.ports.get p) hkept
    simp only [kept_port] at h
    have hbase : (dashed (restartBase ms s)).ports.get p = (s.ports.get p).atReset := by cases p <;> rfl
    rw [hbase] at h
    exact ⟨congrArg PortUnit.phase h, congrArg PortUnit.overrun h, congrArg PortUnit.abandoned h,
      congrArg PortUnit.mask h⟩
  exact {
    station := by rw [time_of_kept hkept]; rfl
    elapsed := by rw [time_of_kept hkept]; rfl
    held := by have h := congrArg State.held hkept; exact h
    order := by have h := congrArg State.resetOrder hkept; exact h
    intervals := by
      have h := congrArg (fun t => (t.schedule.normal, t.schedule.fast, t.schedule.fastLevel)) hkept
      obtain ⟨hnormal, hrest⟩ := Prod.mk.inj h
      obtain ⟨hfast, hlevel⟩ := Prod.mk.inj hrest
      exact ⟨hnormal, hfast, hlevel⟩
    acq := ⟨(acq_of_kept hkept).trans rfl, fun c => congrArg Prod.snd (hparked c)⟩
    nextDue := by
      rw [Placed, time_of_kept hkept] at hplaced
      exact hplaced
    channels := fun c => by
      have h := congrArg Prod.fst (hparked c)
      rw [show chan c t = _ from h]
      exact channelRestarted _
    encoder := (encoder_of_kept hkept).trans rfl
    stage := (stage_of_kept hkept).trans rfl
    rating := (rating_of_kept hkept).trans rfl
    warningConfig := by
      have h := congrArg (fun w => (w.sirenLevel, w.holdMin, w.sirenRun, w.floor)) hsettings
      obtain ⟨hsiren, hrest⟩ := Prod.mk.inj h
      obtain ⟨hhold, hrest⟩ := Prod.mk.inj hrest
      obtain ⟨hrun, hfloor⟩ := Prod.mk.inj hrest
      exact ⟨hsiren, hhold, hrun, hfloor⟩
    ruleRecords := by
      have h := congrArg Warning.rules hsettings
      exact h.trans (List.map_map.trans (List.map_congr_left fun _ _ => rfl))
    display := by
      have h := congrArg State.latch hkept
      refine ⟨congrArg Warning.display hsettings, ?_⟩
      rw [show t.latch = _ from h]
      exact sent_dashed (restartBase ms s)
    cableway := by rw [CablewayRestarted, steady_cableway hsteady, hcableway]; rfl
    working := by rw [steady_working hsteady, hworking]; rfl
    run := by rw [steady_run hsteady, hrun]; cases s.run.openBody <;> rfl
    permit := by
      rw [steady_permit hsteady, restartClosed, closeRun_permit, append_permit, permit_restartReported]
      rfl
    thresholds := by
      have h := congrArg (fun t => t.faults.thresholds) hkept
      exact h
    restartBit := hbit
    ports := fun p => ⟨(hports p).1, (hports p).2.1, (hports p).2.2.1,
      (copies_get _ p).symm.trans (hcopies p), (hports p).2.2.2⟩
    pending := by have h := congrArg State.pending hkept; exact h
    unraised := fun hrules hroom => by
      rw [hunraised hrules hroom]
      obtain ⟨hmode, hwarning, hfaults, hrecord, hlogger, hcable, hwarn⟩ := restartClosed_unraised src ms s hroom
      rw [State.withDue_schedule, State.withDue_warning, State.withDue_faults, State.withDue_record, State.withDue_ports,
        hwarning, hfaults]
      refine ⟨hmode, rfl, rfl, rfl, rfl, rfl, fun r hr => ?_, rfl, rfl, ?_, hlogger, hcable, hwarn⟩
      · obtain ⟨r', -, rfl⟩ := List.mem_map.1 hr
        exact ⟨rfl, rfl, rfl⟩
      · rw [hrecord]
        unfold enteredAndClosed
        cases s.run.openBody <;> rfl }

/-! ### STATION_RESET and its three triggers (R191) -/

/-- A restart leaves what it leaves whatever the counter, the ports and the order stood at. -/
theorem Restarted.of_beside {src : ResetSource} {s t : State} {x : U32} {ports : PerPort PortUnit}
    (h : Restarted src ((s.withTime { s.time with elapsed := x }).withPorts ports) t) : Restarted src s t :=
  { station := h.station, elapsed := h.elapsed, held := h.held, order := h.order, intervals := h.intervals
    acq := h.acq, nextDue := h.nextDue, channels := h.channels, encoder := h.encoder, stage := h.stage
    rating := h.rating, warningConfig := h.warningConfig, ruleRecords := h.ruleRecords, display := h.display
    cableway := h.cableway, working := h.working, run := h.run, permit := h.permit, thresholds := h.thresholds
    restartBit := h.restartBit, ports := h.ports, pending := h.pending, unraised := h.unraised }

theorem restarted_commandReset_ports (s : State) (ports : PerPort PortUnit) :
    Restarted .command s (commandReset (s.withPorts ports)) := by
  refine Restarted.of_beside (x := s.time.elapsed) (ports := ports) ?_
  exact restarted_restart .command _ _

theorem exec_stationReset (s : State) : exec (.stationReset .logger) s = execStationReset .logger s := rfl

theorem exec_stationResetTimeout (s : State) : exec .stationResetTimeout s = execStationResetTimeout s := rfl

/-- Settles O15: the order of a station reset, and the three happenings that bring it. -/
theorem stationReset : Obligations.StationReset := by
  unfold Obligations.StationReset
  refine ⟨fun s hj hnone => ?ordered, fun s hheld horder => ⟨?timeout, ?cleared, fun clocked hclocked hd => ?fetched⟩⟩
  case ordered => exact gives_of_work hj (exec_stationReset s) (by rw [hnone]; rfl)
  case timeout =>
    obtain ⟨t, ht⟩ := Option.ne_none_iff_exists'.1 horder
    refine ⟨commandReset (reach t s), ?_, ?_⟩
    · rw [exec_stationResetTimeout, execStationResetTimeout, hheld, ht]
    · refine Restarted.of_beside (x := (reach t s).time.elapsed) (ports := s.ports) ?_
      have hsame : (s.withTime { s.time with elapsed := (reach t s).time.elapsed }).withPorts s.ports = reach t s := by
        rw [reach_eq]
        rfl
      rw [hsame]
      exact restarted_restart .command _ _
  case cleared =>
    refine ⟨commandReset (onPort .logger PortUnit.cleared (shifted .logger (List.replicate 1 0) s)), ?_,
      restarted_commandReset_ports s _⟩
    have hordered : s.resetOrder.isSome = true := Option.isSome_iff_ne_none.2 horder
    show execClear .logger s = _
    rw [execClear, hheld, if_neg (by decide), clearTransaction, if_pos ⟨rfl, hordered⟩]
  case fetched =>
    refine ⟨commandReset (onPort .logger PortUnit.fetched
      (shifted .logger (shiftOut (fetchReply (s.ports.get .logger)) clocked) s)), ?_, restarted_commandReset_ports s _⟩
    show execFetch .logger clocked s = _
    rw [execFetch, hheld, if_neg (by decide), fetchTransaction, if_neg (by omega), if_pos hd]

/-! ### The holds and the restart from them -/

theorem restart_nextCount (src : ResetSource) (ms : Nat) (s : State) :
    (restart src ms s).time.nextCount = BitVec.ofNat 32 ms := by
  rw [time_of_kept (restart_kept src ms s)]
  rfl

theorem holdReset_rules (rules : List Rule) :
    (rules.map Rule.atReset).map Rule.atReset = rules.map Rule.atReset :=
  List.map_map.trans (List.map_congr_left fun _ _ => rfl)

/-- What a hold leaves of a channel (R37). -/
theorem atReset_spec (x : Channel) : x.atReset.config = x.config ∧ x.atReset.burst = none
    ∧ (x.state = .disabled ∨ x.state = .failed → x.atReset.state = x.state)
    ∧ (x.state ≠ .disabled → x.state ≠ .failed → x.atReset.state ≠ .disabled ∧ x.atReset.state ≠ .failed) := by
  refine ⟨rfl, rfl, ?_⟩
  cases h : x.state <;> simp [Channel.atReset, h]

/-- Settles O16: the two holds keep the retained domain, and STATION_RESTART restarts the part from it. -/
theorem heldThenRestarted : Obligations.HeldThenRestarted := by
  unfold Obligations.HeldThenRestarted
  intro s
  dsimp only
  refine ⟨fun c src h => ?held, fun ms src hsrc => ?restarted, fun ms hnone => ?running⟩
  case held =>
    refine ⟨holdReset src s, ?_, rfl, rfl, rfl, rfl, rfl, rfl, rfl, fun k => ?_, rfl, rfl, rfl, rfl, rfl, rfl, rfl, rfl,
      holdReset_rules s.warning.rules, rfl, rfl, rfl, rfl, rfl, rfl, rfl, rfl, rfl, rfl, rfl, rfl, fun p => ?_, rfl, rfl⟩
    · rcases h with ⟨rfl, rfl⟩ | ⟨rfl, rfl⟩ <;> rfl
    · have hchan : chan k (holdReset src s) = (chan k s).atReset := by cases k <;> rfl
      rw [hchan]
      exact atReset_spec (chan k s)
    · cases p <;> rfl
  case restarted =>
    refine ⟨restart src ms s, ?_, restarted_restart src ms s, restart_nextCount src ms s⟩
    show execStationRestart ms s = _
    rw [execStationRestart, hsrc]
  case running =>
    show execStationRestart ms s = _
    rw [execStationRestart, hnone]

/-! ### COLD_RESET -/

/-- Settles O17: every block's value at a cold reset. -/
theorem coldResetEmpties : Obligations.ColdResetEmpties := by
  unfold Obligations.ColdResetEmpties
  intro s
  refine ⟨coldRestart s, rfl, rfl, rfl, fun c => ?_, rfl, rfl, rfl, rfl, rfl, rfl, rfl, rfl, rfl, rfl, rfl, rfl, ?_, rfl,
    rfl, rfl, rfl, rfl, fun p => ?_, rfl, rfl, rfl, rfl, rfl, rfl⟩
  · cases c <;> rfl
  · exact ⟨rfl, displayCodes .dashes, rfl, rfl⟩
  · cases p <;> exact ⟨rfl, rfl, rfl, rfl, rfl⟩

end Sys2Proof.Machine

/-! The stage update made whole (R12, R36, R40, R48, R93 to R95, R166): what its agenda reaches, in whatever order its
readers take it. -/

namespace Sys2Proof.Machine

/-! ### What an agenda brings about -/

section
variable {s : State}

/-- What each piece of an agenda keeps of a state with what it still owes holds at the end, where nothing is owed. -/
theorem settle_agenda (I : State → Prop)
    (hstep : ∀ (s : State) (w : Work) (rest : List Work), NoCompletion s → s.due = w :: rest → I s →
      I (s.afterFirst w rest))
    (hn : NoCompletion s) (hl : s.load ≤ 400) (h : I s) :
    ∃ t, settle s = t.withDue [] ∧ t.due = [] ∧ I t := by
  refine ⟨drain 400 s, rfl, (drain_ends 400 hn hl).1, ?_⟩
  generalize 400 = n
  clear hl
  induction n generalizing s with
  | zero => exact h
  | succ n ih =>
    cases hd : s.due with
    | nil => rwa [drain_nil hd]
    | cons w rest =>
      rw [drain_cons hd]
      exact ih (hn.afterFirst hd) (hstep s w rest hn hd h)

/-- A batch that is owed sets its reports' bits. -/
theorem settle_batch_bits {rs : List Report} (hn : NoCompletion s) (hl : s.load ≤ 400) (hrs : .batch rs ∈ s.due)
    {r : Report} (hr : r ∈ rs) : bitSet (settle s).faults.word r.fault = true := by
  have hstep : ∀ (u : State) (w : Work) (rest : List Work), NoCompletion u → u.due = w :: rest →
      (.batch rs ∈ u.due ∨ bitSet u.faults.word r.fault = true) →
      (.batch rs ∈ (u.afterFirst w rest).due ∨ bitSet (u.afterFirst w rest).faults.word r.fault = true) := by
    intro u w rest hn hd h
    rw [hd] at h
    rcases h with hmem | hset
    · rcases List.mem_cons.1 hmem with heq | hrest
      · refine .inr ?_
        rw [← heq]
        show bitSet (takeBatch rs (u.withDue [])).faults.word r.fault = true
        rw [takeBatch_faults]
        exact (bitSet_takeReports _ r.fault rs _).2 (.inr ⟨r, hr, rfl⟩)
      · exact .inl (List.mem_append_right _ hrest)
    · exact .inr ((handsOn_doWork (ne_completion_of_first hn hd) (u.withDue [])).bits r.fault hset)
  obtain ⟨t, ht, hdue, hI⟩ := settle_agenda _ hstep hn hl (.inl hrs)
  rw [ht]
  exact hI.resolve_left (by rw [hdue]; exact List.not_mem_nil)

theorem steady_stage {s t : State} (h : s.steady = t.steady) : s.stage = t.stage := by
  have := congrArg State.stage h
  exact this

/-- A change of L owes the permit's test (R106). -/
theorem permitTest_mem_changeLevel (new : Nat) (cause : WarningCause) (s : State) :
    .permitTest ∈ (changeLevel new cause s).due := by
  rw [changeLevel_eq, due_raiseEvent]
  split
  · rw [due_sirenOnRise, levelHanded, due_owe]
    exact List.mem_append_right _ (List.mem_singleton_self _)
  · rw [due_sirenOnFall, levelHanded, due_owe]
    exact List.mem_append_right _ (List.mem_singleton_self _)

/-- What moves L owes the permit's test. -/
theorem computeLevel_tested (b : Bool) (s : State) :
    (computeLevel b s).warning.level = s.warning.level ∨ .permitTest ∈ (computeLevel b s).due := by
  rcases computeLevel_cases s b with ⟨c, -, -, he⟩ | ⟨hold, -, -, he⟩ <;> rw [he]
  · exact .inr (permitTest_mem_changeLevel ..)
  · exact .inl rfl

/-- Everything but a permit's test leaves the permit and the stage, and owes a test where it moves L. -/
theorem doWork_beside_permit {w : Work} (hw : w ≠ .completion) (ht : w ≠ .permitTest) :
    (doWork w s).steady = s.steady
      ∧ ((doWork w s).warning.level = s.warning.level ∨ .permitTest ∈ (doWork w s).due) := by
  cases w with
  | batch rs => exact ⟨steady_takeBatch s rs, .inl (by rw [doWork, takeBatch_warning])⟩
  | faultRound word => exact ⟨steady_faultRound s word, computeLevel_tested true (evaluateRound true word s)⟩
  | stageRound => exact ⟨steady_stageRound s, computeLevel_tested true (evaluateRound false s.faults.word s)⟩
  | permitTest => exact absurd rfl ht
  | sampleEntry time cause => exact ⟨steady_append s _, .inl (by rw [doWork, append_warning])⟩
  | completion => exact absurd rfl hw

end

/-- A stand-down leaves the permit not OPEN. -/
theorem standDown_shut {s : State} (hopen : s.permit.record.state = .open_) (cond : StandCondition) :
    (standDown cond s).permit.record.state ≠ .open_ := by
  obtain ⟨-, -, -, ⟨-, -, he⟩ | ⟨-, -, he⟩⟩ := standDown_told hopen cond <;> rw [he] <;> exact PermitState.noConfusion

/-- A permit that is OPEN while a condition holds stands before its test (R166). -/
def Tested (s : State) : Prop := s.permit.record.state = .open_ → Stands s → .permitTest ∈ s.due

theorem stands_congr {s t : State} (hp : t.permit = s.permit) (hs : t.stage = s.stage)
    (hl : t.warning.level = s.warning.level) : Stands t ↔ Stands s := by
  simp only [Stands, hp, hs, hl]

theorem tested_afterFirst {s : State} {w : Work} {rest : List Work} (hn : NoCompletion s) (hd : s.due = w :: rest)
    (h : Tested s) : Tested (s.afterFirst w rest) := by
  intro hopen hstands
  by_cases ht : w = .permitTest
  · subst ht
    exfalso
    by_cases hbefore : s.permit.record.state = .open_ ∧ Stands s
    · have htest : doWork .permitTest (s.withDue []) = standDown (firstStanding (s.withDue [])) (s.withDue []) :=
        permitTest_stands (s := s.withDue []) hbefore.1 hbefore.2
      rw [State.afterFirst, htest] at hopen
      exact standDown_shut (s := s.withDue []) hbefore.1 _ hopen
    · have hsame : doWork .permitTest (s.withDue []) = s.withDue [] := by
        rcases not_and_or.1 hbefore with hshut | hnot
        · exact permitTest_shut (s := s.withDue []) hshut
        · exact permitTest_holds (s := s.withDue []) hnot
      rw [State.afterFirst, hsame] at hopen hstands
      exact hbefore ⟨hopen, hstands⟩
  · obtain ⟨hsteady, hlevel | htest⟩ := doWork_beside_permit (s := s.withDue []) (ne_completion_of_first hn hd) ht
    · have hpermit := steady_permit hsteady
      have hwas := (stands_congr (s := s) (t := s.afterFirst w rest) hpermit (steady_stage hsteady) hlevel).1 hstands
      have hmem := h (by rw [← show (s.afterFirst w rest).permit = s.permit from hpermit]; exact hopen) hwas
      rw [hd] at hmem
      exact List.mem_append_right _ ((List.mem_cons.1 hmem).resolve_left (Ne.symm ht))
    · exact List.mem_append_left _ htest

/-- Where the permit's test is owed, a permit that is OPEN in the end meets no condition (R166). -/
theorem settle_tested {s : State} (hn : NoCompletion s) (hl : s.load ≤ 400) (ht : .permitTest ∈ s.due) :
    (settle s).permit.record.state = .open_ → ¬Stands (settle s) := by
  obtain ⟨t, hsettle, hdue, htested⟩ := settle_agenda Tested
    (fun _ _ _ hn hd h => tested_afterFirst hn hd h) hn hl (fun _ _ => ht)
  rw [hsettle]
  intro hopen hstands
  have hmem := htested hopen hstands
  rw [hdue] at hmem
  exact absurd hmem List.not_mem_nil

/-! ### The rounds, with room in the record and the permit not OPEN -/

/-- A round by itself: what it owes is a permit test at most. -/
def rounded (b : Bool) (word : U32) (s : State) : State :=
  (computeLevel true (evaluateRound b word s)).withDue []

theorem rounded_whole (b : Bool) (word : U32) (s : State) : (rounded b word s).withDue [] = rounded b word s := rfl

/-- A batch by itself, with the fault round of a changed word. -/
def reported (rs : List Report) (s : State) : State :=
  if (newlySet s.faults.word rs).isEmpty then takeBatch rs s
  else rounded true (takeBatch rs s).faults.word ((takeBatch rs s).withDue [])

section
variable {s : State} {w : Work} {rest : List Work}

/-- Where the permit is not OPEN, a test that is owed does nothing. -/
theorem settle_test (hn : NoCompletion s) (hl : s.load ≤ 400) (hp : s.permit.record.state ≠ .open_)
    (hd : s.due = .permitTest :: rest) : settle s = settle (s.withDue rest) := by
  rw [settle_cons hn hl hd, State.afterFirst, doWork, permitTest_shut (by exact hp)]
  rfl

/-- A piece of work that owes a permit test at most, where the permit is not OPEN. -/
theorem settle_apart (hn : NoCompletion s) (hl : s.load ≤ 400) (hd : s.due = w :: rest)
    (hp : (doWork w (s.withDue [])).permit.record.state ≠ .open_)
    (ht : (doWork w (s.withDue [])).due = [] ∨ (doWork w (s.withDue [])).due = [.permitTest]) :
    settle s = settle ((doWork w (s.withDue [])).withDue rest) := by
  have hafter : s.afterFirst w rest
      = (doWork w (s.withDue [])).withDue ((doWork w (s.withDue [])).due ++ rest) := rfl
  have hlt := load_afterFirst hn hd
  have hn' := hn.afterFirst hd
  rw [settle_cons hn hl hd]
  rcases ht with hnone | htest
  · rw [hafter, hnone]
    rfl
  · have hdue : (s.afterFirst w rest).due = .permitTest :: rest := by
      rw [hafter, htest]
      rfl
    rw [settle_test hn' (by omega) (by rw [hafter]; exact hp) hdue]
    rfl

end

section
variable {s : State}

@[simp] theorem steady_rounded (b : Bool) (word : U32) (s : State) : (rounded b word s).steady = s.steady := by
  simp [rounded, evaluateRound]

@[simp] theorem steady_reported (rs : List Report) (s : State) : (reported rs s).steady = s.steady := by
  unfold reported
  split <;> simp

/-- A level computation with room in the record enters a change of L, and nothing else (R105). -/
theorem computeLevel_enters (hroom : s.record.full = false) (b : Bool) :
    ((computeLevel b s).record = s.record ∧ (computeLevel b s).warning.level = s.warning.level)
    ∨ ∃ cause, (computeLevel b s).record
      = s.record.placeOrRenumber (.warning s.time.station s.warning.level (computeLevel b s).warning.level cause)
        s.time.station := by
  rcases computeLevel_cases s b with ⟨c, -, -, he⟩ | ⟨hold, -, -, he⟩ <;> rw [he]
  · generalize s.warning.formTarget = target
    have hlevel : (changeLevel target c (s.withWarning { s.warning with target := target })).warning.level = target := by
      rw [changeLevel_warning]
    rw [hlevel]
    exact .inr ⟨c, (changeLevel_reaches (s := s.withWarning { s.warning with target := target }) hroom target c).1⟩
  · exact .inl ⟨rfl, rfl⟩

/-- A round by itself, with room in the record: the fault unit stands, and a change of L is entered. -/
theorem rounded_spec (hroom : s.record.full = false) (b : Bool) (word : U32) :
    (rounded b word s).faults = s.faults
    ∧ ((computeLevel true (evaluateRound b word s)).due = s.due
      ∨ (computeLevel true (evaluateRound b word s)).due = s.due ++ [.permitTest])
    ∧ (rounded b word s).warning.rules = s.warning.rules.map (fun r => r.inRound b word s)
    ∧ (((rounded b word s).record = s.record ∧ (rounded b word s).warning.level = s.warning.level)
      ∨ ∃ cause, (rounded b word s).record
        = s.record.placeOrRenumber (.warning s.time.station s.warning.level (rounded b word s).warning.level cause)
          s.time.station) := by
  obtain ⟨hfaults, hdue⟩ := computeLevel_with_room (s := evaluateRound b word s) hroom true
  refine ⟨hfaults, hdue, ?_, ?_⟩
  · show (computeLevel true (evaluateRound b word s)).warning.rules = _
    rcases computeLevel_cases (evaluateRound b word s) true with ⟨c, -, -, he⟩ | ⟨hold, -, -, he⟩ <;> rw [he]
    · rw [changeLevel_warning]
      rfl
    · rfl
  · exact computeLevel_enters (s := evaluateRound b word s) hroom true

theorem Record.HasRoom.less {r : Record} {n : Nat} (h : r.HasRoom (n + 1)) : r.HasRoom n :=
  ⟨by have := h.1; omega, by have := h.2; omega⟩

theorem rounded_room {n : Nat} (h : s.record.HasRoom (n + 1)) (b : Bool) (word : U32) :
    (rounded b word s).record.HasRoom n := by
  obtain ⟨-, -, -, ⟨he, -⟩ | ⟨cause, he⟩⟩ := rounded_spec h.not_full b word <;> rw [he]
  · exact h.less
  · exact h.place _ _

theorem takeBatch_due (rs : List Report) (s : State) : (takeBatch rs s).due
    = s.due ++ if (newlySet s.faults.word rs).isEmpty then [] else [.faultRound (takeBatch rs s).faults.word] := by
  rw [takeBatch_faults]
  simp only [takeBatch]
  split <;> simp [State.owe]

theorem reported_room {n : Nat} (h : s.record.HasRoom (n + 1)) (rs : List Report) :
    (reported rs s).record.HasRoom n := by
  have hrecord : (takeBatch rs s).record = s.record := takeBatch_record rs s
  unfold reported
  split
  · rw [hrecord]; exact h.less
  · exact rounded_room (by rw [State.withDue_record, hrecord]; exact h) _ _

variable {rest : List Work} (hn : NoCompletion s) (hl : s.load ≤ 400) (hp : s.permit.record.state ≠ .open_)
  (hroom : s.record.full = false)

include hn hl hp hroom

theorem settle_stageRound (hd : s.due = .stageRound :: rest) :
    settle s = settle ((rounded false s.faults.word (s.withDue [])).withDue rest) := by
  have hsteady : (doWork .stageRound (s.withDue [])).steady = s.steady := steady_stageRound _
  rw [settle_apart hn hl hd (by rw [steady_permit hsteady]; exact hp)
    ((rounded_spec (s := s.withDue []) hroom false s.faults.word).2.1)]
  rfl

theorem settle_faultRound {word : U32} (hd : s.due = .faultRound word :: rest) :
    settle s = settle ((rounded true word (s.withDue [])).withDue rest) := by
  have hsteady : (doWork (.faultRound word) (s.withDue [])).steady = s.steady := steady_faultRound _ word
  rw [settle_apart hn hl hd (by rw [steady_permit hsteady]; exact hp)
    ((rounded_spec (s := s.withDue []) hroom true word).2.1)]
  rfl

theorem settle_batch {rs : List Report} (hd : s.due = .batch rs :: rest) :
    settle s = settle ((reported rs (s.withDue [])).withDue rest) := by
  have hdue := takeBatch_due rs (s.withDue [])
  have hpermit : (takeBatch rs (s.withDue [])).permit = s.permit := takeBatch_permit rs _
  have hrecord : (takeBatch rs (s.withDue [])).record = s.record := takeBatch_record rs _
  have hlt := load_afterFirst hn hd
  have hn' := hn.afterFirst hd
  have hafter : s.afterFirst (.batch rs) rest
      = (takeBatch rs (s.withDue [])).withDue ((takeBatch rs (s.withDue [])).due ++ rest) := rfl
  rw [settle_cons hn hl hd]
  rw [hafter, hdue] at hlt hn' ⊢
  unfold reported
  generalize takeBatch rs (s.withDue []) = t at *
  by_cases hstale : (newlySet (s.withDue []).faults.word rs).isEmpty = true
  · rw [if_pos hstale, if_pos hstale]
    rfl
  · rw [if_neg hstale] at hlt hn' ⊢
    rw [if_neg hstale, settle_faultRound (s := t.withDue _) (rest := rest) hn' (by omega) (by rw [State.withDue_permit, hpermit]; exact hp)
      (by rw [State.withDue_record, hrecord]; exact hroom) rfl, State.withDue_twice]

theorem settle_sample {time : U32} {cause : Cause} (hd : s.due = .sampleEntry time cause :: rest) :
    settle s = settle ((append (.sample (sampleEntryOf time cause s)) (s.withDue [])).withDue rest) := by
  have hdone : doWork (.sampleEntry time cause) (s.withDue [])
      = append (.sample (sampleEntryOf time cause s)) (s.withDue []) := rfl
  have hpermit : (append (.sample (sampleEntryOf time cause s)) (s.withDue [])).permit = s.permit := append_permit ..
  rw [settle_apart hn hl hd (by rw [hdone, hpermit]; exact hp), hdone]
  rw [hdone, append_of_not_full (by exact hroom), due_syncRecord]
  exact .inl rfl

end

/-- A state that owes few things, no completion among them. -/
theorem light_of_due {s : State} {ws : List Work} (hc : .completion ∉ ws) (hw : (ws.map Work.weight).sum ≤ 100) :
    NoCompletion (s.withDue ws) ∧ (s.withDue ws).load ≤ 400 := ⟨hc, load_le hw⟩

section
variable {t : State} (hp : t.permit.record.state ≠ .open_)

include hp

/-- The SAMPLE entry at the end of an agenda, with the permit's test before it, after it, or already made. -/
theorem settle_sample_end (hroom : t.record.full = false) {time : U32} {cause : Cause} {ws : List Work}
    (hws : ws = [.sampleEntry time cause] ∨ ws = [.permitTest, .sampleEntry time cause]
      ∨ ws = [.sampleEntry time cause, .permitTest]) :
    settle (t.withDue ws) = append (.sample (sampleEntryOf time cause t)) (t.withDue []) := by
  have hend : ∀ rest, rest = [] ∨ rest = [.permitTest] →
      settle (t.withDue (.sampleEntry time cause :: rest))
        = append (.sample (sampleEntryOf time cause t)) (t.withDue []) := by
    intro rest hrest
    have hlight := light_of_due (s := t) (ws := .sampleEntry time cause :: rest)
      (by rcases hrest with rfl | rfl <;> simp) (by rcases hrest with rfl | rfl <;> simp [Work.weight])
    have hdue : (append (.sample (sampleEntryOf time cause t)) (t.withDue [])).due = [] := by
      rw [append_of_not_full (by exact hroom)]
      rfl
    have hpermit : (append (.sample (sampleEntryOf time cause t)) (t.withDue [])).permit = t.permit :=
      append_permit ..
    rw [settle_sample hlight.1 hlight.2 (by exact hp) (by exact hroom) rfl, State.withDue_twice,
      show sampleEntryOf time cause (t.withDue (.sampleEntry time cause :: rest)) = sampleEntryOf time cause t from rfl]
    generalize append (.sample (sampleEntryOf time cause t)) (t.withDue []) = u at *
    have hsame : u.withDue [] = u := by rw [← hdue, State.withDue_same]
    rcases hrest with rfl | rfl
    · rw [settle_of_due_nil _ rfl, hsame]
    · have hlight := light_of_due (s := u) (ws := [.permitTest]) (by simp) (by simp [Work.weight])
      rw [settle_test hlight.1 hlight.2 (by rw [State.withDue_permit, hpermit]; exact hp) rfl, State.withDue_twice,
        settle_of_due_nil _ rfl, hsame]
  rcases hws with rfl | rfl | rfl
  · exact hend [] (.inl rfl)
  · have hlight := light_of_due (s := t) (ws := [.permitTest, .sampleEntry time cause]) (by simp) (by simp [Work.weight])
    rw [settle_test hlight.1 hlight.2 (by exact hp) rfl, State.withDue_twice]
    exact hend [] (.inl rfl)
  · exact hend [.permitTest] (.inr rfl)

/-- The rounds of a stage update before what follows them. -/
theorem settle_rounds (hroom : t.record.HasRoom 2) (rs : List Report) {ws : List Work} (hc : .completion ∉ ws)
    (hw : (ws.map Work.weight).sum ≤ 10) :
    settle (t.withDue ([.batch rs, .stageRound] ++ ws))
        = settle ((rounded false (reported rs (t.withDue [])).faults.word
          ((reported rs (t.withDue [])).withDue [])).withDue ws)
      ∧ settle (t.withDue ([.stageRound, .batch rs] ++ ws))
        = settle ((reported rs (rounded false t.faults.word (t.withDue []))).withDue ws) := by
  have hlight : ∀ (v : State) (w : Work) (rest : List Work), w ≠ .completion → w.weight ≤ 10 → .completion ∉ rest →
      (rest.map Work.weight).sum ≤ 20 → NoCompletion (v.withDue (w :: rest)) ∧ (v.withDue (w :: rest)).load ≤ 400 :=
    fun v w rest hne hle hrest hsum => light_of_due
      (fun h => (List.mem_cons.1 h).elim (fun h => hne h.symm) hrest) (by simp; omega)
  constructor
  · have hb := hlight t (.batch rs) (.stageRound :: ws) (by simp) (by simp [Work.weight]) (by simpa using hc)
      (by simp [Work.weight]; omega)
    have hr := hlight (reported rs (t.withDue [])) .stageRound ws (by simp) (by simp [Work.weight]) hc (by omega)
    have hshut : (reported rs (t.withDue [])).permit.record.state ≠ .open_ := by
      rw [steady_permit (steady_reported rs (t.withDue []))]; exact hp
    rw [List.cons_append, List.cons_append, List.nil_append,
      settle_batch hb.1 hb.2 (by exact hp) (by exact hroom.not_full) rfl, State.withDue_twice]
    rw [settle_stageRound hr.1 hr.2 (by exact hshut)
      (by exact (reported_room (s := t.withDue []) (n := 1) hroom rs).not_full) rfl, State.withDue_twice]
    rfl
  · have hr := hlight t .stageRound (.batch rs :: ws) (by simp) (by simp [Work.weight]) (by simpa using hc)
      (by simp [Work.weight]; omega)
    have hb := hlight (rounded false t.faults.word (t.withDue [])) (.batch rs) ws (by simp) (by simp [Work.weight]) hc
      (by omega)
    have hshut : (rounded false t.faults.word (t.withDue [])).permit.record.state ≠ .open_ := by
      rw [steady_permit (steady_rounded false _ (t.withDue []))]; exact hp
    rw [List.cons_append, List.cons_append, List.nil_append,
      settle_stageRound hr.1 hr.2 (by exact hp) (by exact hroom.not_full) rfl, State.withDue_twice,
      State.withDue_faults]
    rw [settle_batch hb.1 hb.2 (by exact hshut)
      (by exact (rounded_room (s := t.withDue []) (n := 1) hroom false _).not_full) rfl, State.withDue_twice,
      rounded_whole]

end

/-- What stands before the SAMPLE entry. -/
def roundsRead (rs : List Report) (s : State) : State :=
  if s.orders.faultRoundFirst then rounded false (reported rs s).faults.word ((reported rs s).withDue [])
  else reported rs (rounded false s.faults.word s)

theorem roundsRead_steady (rs : List Report) (s : State) : (roundsRead rs s).steady = s.steady := by
  unfold roundsRead
  split <;> simp

theorem roundsRead_room {s : State} {n : Nat} (h : s.record.HasRoom (n + 2)) (rs : List Report) :
    (roundsRead rs s).record.HasRoom n := by
  unfold roundsRead
  split
  · exact rounded_room (s := (reported rs s).withDue []) (reported_room h rs) false _
  · exact reported_room (rounded_room h false _) rs

/-- With room in the record and the permit not OPEN, the orders in which a stage update's readers may take it come
down to two: the batch with its fault round before the stage round, or after it. -/
theorem settle_readers {s : State} {rs : List Report} {time : U32} {cause : Cause}
    (hd : s.due = readersOf s.orders (.batch rs) (.sampleEntry time cause)) (hp : s.permit.record.state ≠ .open_)
    (hroom : s.record.HasRoom 3) :
    settle s = append (.sample (sampleEntryOf time cause (roundsRead rs (s.withDue []))))
      ((roundsRead rs (s.withDue [])).withDue []) := by
  have hshut : (roundsRead rs (s.withDue [])).permit.record.state ≠ .open_ := by
    rw [steady_permit (roundsRead_steady rs (s.withDue []))]; exact hp
  have hend : ∀ {ws : List Work}, (ws = [.sampleEntry time cause] ∨ ws = [.permitTest, .sampleEntry time cause]
      ∨ ws = [.sampleEntry time cause, .permitTest]) → settle ((roundsRead rs (s.withDue [])).withDue ws)
        = append (.sample (sampleEntryOf time cause (roundsRead rs (s.withDue []))))
          ((roundsRead rs (s.withDue [])).withDue []) :=
    settle_sample_end hshut (roundsRead_room (s := s.withDue []) (n := 1) hroom rs).not_full
  have hrounds : ∀ {ws : List Work}, .completion ∉ ws → (ws.map Work.weight).sum ≤ 10 →
      settle (s.withDue ((if s.orders.faultRoundFirst then [.batch rs, .stageRound] else [.stageRound, .batch rs]) ++ ws))
        = settle ((roundsRead rs (s.withDue [])).withDue ws) := by
    intro ws hc hw
    obtain ⟨hfirst, hsecond⟩ := settle_rounds hp hroom.less rs hc hw
    unfold roundsRead
    rw [State.withDue_orders]
    split
    · exact hfirst
    · exact hsecond
  have hsplit : settle s = settle (s.withDue (readersOf s.orders (.batch rs) (.sampleEntry time cause))) := by
    rw [← hd, State.withDue_same]
  rw [hsplit]
  unfold readersOf
  dsimp only
  cases s.orders.permitPlace with
  | first =>
    have hlight := light_of_due (s := s) (ws := .permitTest ::
      ((if s.orders.faultRoundFirst then [.batch rs, .stageRound] else [.stageRound, .batch rs])
        ++ [.sampleEntry time cause])) (by split <;> simp) (by split <;> simp [Work.weight])
    refine (settle_test hlight.1 hlight.2 (by exact hp) rfl).trans ?_
    rw [State.withDue_twice, hrounds (by simp) (by simp [Work.weight])]
    exact hend (.inl rfl)
  | beforeSample =>
    dsimp only
    rw [hrounds (by simp) (by simp [Work.weight])]
    exact hend (.inr (.inl rfl))
  | last =>
    dsimp only
    rw [hrounds (by simp) (by simp [Work.weight])]
    exact hend (.inr (.inr rfl))

end Sys2Proof.Machine

/-! The stage update (R12, R36, R40, R48): what a completion makes of the part. -/

namespace Sys2Proof.Machine

/-! ### What it reports (R36, R48, R61, R138) -/

theorem mem_failedReports (s : State) (f : StationFault) :
    (∃ r ∈ failedReports s.chans, r.fault = f) ↔ ∃ c, f = .channelFailed c ∧ (chan c s).state = .failed := by
  constructor
  · rintro ⟨r, hr, rfl⟩
    obtain ⟨c, -, hc⟩ := List.mem_filterMap.1 hr
    split at hc
    case isTrue hfailed =>
      obtain rfl := Option.some.inj hc
      exact ⟨c, rfl, hfailed⟩
    case isFalse => exact absurd hc (by simp)
  · rintro ⟨c, rfl, hfailed⟩
    exact ⟨_, List.mem_filterMap.2 ⟨c, mem_allChans c, if_pos hfailed⟩, rfl⟩

/-- A reading is reported as clamped exactly where the update clamped it. -/
theorem clampedReading_isSome (a : Acquisition) (u : StageUnit) :
    (clampedReading a u).isSome = (formStage a u).record.clamped := by
  simp only [clampedReading, formStage]
  cases choose (handedReading a u.primary) (handedReading a u.check) u.earlier with
  | read v c sub =>
    by_cases h : clampInt (-32000) 32000 v = v <;> simp [formRecord, h]
  | held v c => rfl
  | nothing => rfl

theorem mem_stageReports {clamped : Option Int} {u : StageUnit} (hc : clamped.isSome = u.record.clamped)
    (f : StationFault) : (∃ r ∈ stageReports clamped u, r.fault = f) ↔
      (f = .stageHeld ∧ u.record.quality = .held) ∨ (f = .disagree ∧ u.k ≤ u.disagreeCount)
        ∨ (f = .stageClamped ∧ u.record.clamped = true) := by
  have hone : ∀ (p : Prop) [Decidable p] (r : Report),
      (∃ x ∈ (if p then [r] else []), x.fault = f) ↔ (f = r.fault ∧ p) := by
    intro p _ r
    by_cases hp : p <;> simp [hp, eq_comm]
  have hclamped : (∃ x ∈ (match clamped with
      | some v => [({ fault := .stageClamped, arg := .mm v } : Report)]
      | none => []), x.fault = f) ↔ (f = .stageClamped ∧ u.record.clamped = true) := by
    rw [← hc]
    cases clamped <;> simp [eq_comm]
  simp only [stageReports, List.mem_append, or_and_right, exists_or, hone, or_assoc]
  exact or_congr_right (or_congr_right hclamped)

theorem mem_updateBatch {a : Acquisition} {s t : State} {d : DischargeResult} (hchans : t.chans = s.chans)
    (hcable : t.cableway = s.cableway) (hclamped : t.stage.record.clamped = (formStage a s.stage).record.clamped)
    (f : StationFault) : (∃ r ∈ updateBatch (clampedReading a s.stage) d t, r.fault = f) ↔
      Reported t.stage d.above s f := by
  have hrated : (∃ r ∈ d.reports, r.fault = f) ↔ (f = .aboveRating ∧ d.above = true) := by
    unfold DischargeResult.reports
    by_cases h : d.above = true <;> simp [h, eq_comm]
  have htrip : (∃ r ∈ loadTripReports t.cableway, r.fault = f)
      ↔ (f = .cableLoadTrip ∧ s.cableway.loadTrip.passed = true) := by
    unfold loadTripReports
    rw [hcable]
    by_cases h : s.cableway.loadTrip.passed = true <;> simp [h, eq_comm]
  have hfailed : (∃ r ∈ failedReports t.chans, r.fault = f)
      ↔ ∃ c, f = .channelFailed c ∧ (chan c s).state = .failed := by
    rw [hchans]
    exact mem_failedReports s f
  have hstage := mem_stageReports (u := t.stage) ((clampedReading_isSome a s.stage).trans hclamped.symm) f
  simp only [updateBatch, List.mem_append, or_and_right, exists_or, hrated, htrip, hfailed, hstage]
  unfold Reported
  simp only [or_assoc]

/-! ### The evaluation of a rule, written out (R94, R95) -/

theorem unread_iff (q : Quality) : unread q = decide (¬(q = .good ∨ q = .suspect)) := by cases q <;> rfl

/-- One evaluation, on the stage unit, the fault word and the time it sees. -/
theorem inRound_eq {s : State} {u : StageUnit} {now : U32} (hu : s.stage = u) (hnow : s.time.station = now)
    (b : Bool) (word : U32) (r : Rule) : r.inRound b word s
      = if r.enabled = true ∧ (b = true → r.quantity = .faults) then evaluatedOnce u word now r else r := by
  subst hu hnow
  have hevaluated : r.evaluate (quantityOfState r.quantity word s) (skips r.quantity s) s.time.station
      = evaluatedOnce s.stage word s.time.station r := by
    unfold evaluatedOnce quantityOfState skips
    have hskip : ∀ (p : Prop) [Decidable p] (b : Bool), b = decide p →
        (unread s.stage.record.quality || b)
          = decide (¬(s.stage.record.quality = .good ∨ s.stage.record.quality = .suspect) ∨ p) := by
      intro p _ b hb
      rw [unread_iff, hb, Bool.decide_or]
    cases r.quantity with
    | stage =>
      dsimp only
      rw [hskip (s.stage.record.value = none) _ (by cases s.stage.record.value <;> rfl)]
    | rate =>
      dsimp only
      rw [hskip (s.stage.record.rateValid = false) _ (by cases s.stage.record.rateValid <;> rfl)]
    | discharge =>
      dsimp only
      rw [hskip (s.stage.record.dischargeQuality = .noRating) _ rfl]
    | diff =>
      dsimp only
      rw [show s.stage.lastDiff.isNone = decide (s.stage.lastDiff = none) by cases s.stage.lastDiff <;> rfl]
    | quality =>
      dsimp only
      cases s.stage.record.quality <;> rfl
    | faults => rfl
  unfold Rule.inRound
  rw [hevaluated]
  cases b <;> simp

/-! ### A round on a sound warning unit (R101 to R104, R109, R112, R113) -/

/-- The lowest-numbered rule that counts and has the level given (R102). -/
theorem lowestRule_spec (level : Nat) : ∀ (rules : List Rule) (n : Nat),
    (∃ r ∈ rules, r.counts = true ∧ r.level = level) → ∃ i r, lowestRule level n rules = some (n + i)
      ∧ rules[i]? = some r ∧ r.counts = true ∧ r.level = level
      ∧ ∀ j r', j < i → rules[j]? = some r' → r'.counts = true → r'.level ≠ level
  | [], n, h => by simp at h
  | x :: rules, n, h => by
    by_cases hx : x.counts = true ∧ x.level = level
    · exact ⟨0, x, by simp [lowestRule, hx], rfl, hx.1, hx.2, fun j _ hj => absurd hj (Nat.not_lt_zero j)⟩
    · have hrest : ∃ r ∈ rules, r.counts = true ∧ r.level = level := by
        obtain ⟨r, hr, hrule⟩ := h
        rcases List.mem_cons.1 hr with rfl | hr
        · exact absurd hrule hx
        · exact ⟨r, hr, hrule⟩
      obtain ⟨i, r, hi, hget, hcounts, hlevel, hfirst⟩ := lowestRule_spec level rules (n + 1) hrest
      refine ⟨i + 1, r, ?_, hget, hcounts, hlevel, fun j r' hj hr' hc => ?_⟩
      · rw [lowestRule, if_neg (by simpa using hx), hi]
        congr 1
        omega
      · cases j with
        | zero =>
          obtain rfl := Option.some.inj hr'
          exact fun hl => hx ⟨hc, hl⟩
        | succ j => exact hfirst j r' (by omega) hr' hc

/-- A counting level above 0 is that of a rule that counts (R101). -/
theorem countingLevel_attained : ∀ rules : List Rule, 0 < countingLevel rules →
    ∃ r ∈ rules, r.counts = true ∧ r.level = countingLevel rules
  | [], h => absurd h (lt_irrefl 0)
  | x :: rules, h => by
    have hstep : countingLevel (x :: rules)
        = if x.counts then max x.level (countingLevel rules) else countingLevel rules := rfl
    by_cases hx : x.counts = true
    · rw [if_pos hx] at hstep
      rcases le_total (countingLevel rules) x.level with hle | hle
      · exact ⟨x, List.mem_cons_self, hx, by omega⟩
      · obtain ⟨r, hr, hc, hl⟩ := countingLevel_attained rules (by omega)
        exact ⟨r, List.mem_cons_of_mem x hr, hc, by omega⟩
    · rw [if_neg hx] at hstep
      obtain ⟨r, hr, hc, hl⟩ := countingLevel_attained rules (by omega)
      exact ⟨r, List.mem_cons_of_mem x hr, hc, by omega⟩

theorem Rule.counts_iff (r : Rule) : r.counts = true ↔ r.state = .active ∨ r.state = .clearing := by
  cases h : r.state <;> simp [Rule.counts, RuleState.testsSet, h]

/-- What a change of L leaves, with room in the record. -/
theorem changeLevel_told {s : State} (hroom : s.record.full = false) (new : Nat) (cause : WarningCause) :
    let t := changeLevel new cause s
    t.warning.level = new ∧ t.warning.hold = none ∧ t.warning.beacon = startBeacon new s.time.elapsed
    ∧ (∀ p, (t.ports.get p).events.level = true)
    ∧ t.warning.siren = s.warning.sirenAfter new s.time.elapsed
    ∧ (s.warning.siren.isSome ≠ (s.warning.sirenAfter new s.time.elapsed).isSome →
        t.ports.warning.events.siren = true)
    ∧ t.warning.target = s.warning.target
    ∧ t.record = s.record.placeOrRenumber (.warning s.time.station s.warning.level new cause) s.time.station := by
  intro t
  have hw : t.warning = _ := changeLevel_warning new cause s
  refine ⟨by rw [hw], by rw [hw], by rw [hw], changeLevel_level new cause s, by rw [hw], changeLevel_siren new cause s,
    by rw [hw], (changeLevel_reaches hroom new cause).1⟩

/-- The level with its hold timer, its entry, the siren and the beacon, as they follow from the rules of `t` where
the warning unit of `s` was sound. -/
def LevelFollowed (s t : State) : Prop :=
  let w := s.warning
  let now := s.time.station
  let rules := t.warning.rules
  let counts : Rule → Prop := fun r => r.state = .active ∨ r.state = .clearing
  let target := max w.floor (countingLevel rules)
  let falls := target < w.level ∧ w.hold = none ∧ w.holdMin = 0
  let warned : WarningCause → Record := fun cause => s.record.placeOrRenumber (.warning now w.level target cause) now
  t.warning.target = target
  ∧ (target ≤ w.level → ¬falls →
      t.warning.level = w.level ∧ t.record = s.record
      ∧ t.warning.hold
        = (if target < w.level then
            some (w.hold.getD (s.time.elapsed + BitVec.ofNat 32 (w.holdMin * 60000)))
          else none)
      ∧ t.warning.siren = w.siren ∧ t.warning.beacon = w.beacon)
  ∧ (falls →
      t.warning.level = target ∧ t.warning.hold = none ∧ t.warning.beacon = startBeacon target s.time.elapsed
      ∧ (∀ p, (t.ports.get p).events.level = true)
      ∧ t.warning.siren = (if target < w.sirenLevel then none else w.siren)
      ∧ (w.siren ≠ none → target < w.sirenLevel → t.ports.warning.events.siren = true)
      ∧ t.record = warned .holdExpiry)
  ∧ (w.level < target →
      t.warning.level = target ∧ t.warning.hold = none ∧ t.warning.beacon = startBeacon target s.time.elapsed
      ∧ (∀ p, (t.ports.get p).events.level = true)
      ∧ (w.sirenLevel ≠ 0 → w.sirenLevel ≤ target →
          t.warning.siren = some (s.time.elapsed + BitVec.ofNat 32 (w.sirenRun * 60000))
          ∧ (w.siren = none → t.ports.warning.events.siren = true))
      ∧ (w.sirenLevel = 0 ∨ target < w.sirenLevel → t.warning.siren = w.siren)
      ∧ ∃ n r, rules[n]? = some r ∧ counts r ∧ r.level = target
        ∧ (∀ m r', m < n → rules[m]? = some r' → counts r' → r'.level ≠ target)
        ∧ t.record = warned (.rule n))

theorem rounded_sound {s : State} (hroom : s.record.full = false) (hsound : WarningSound s.warning) (word : U32) :
    LevelFollowed s (rounded false word s) := by
  obtain ⟨t, hrounded⟩ : ∃ t, t = rounded false word s := ⟨_, rfl⟩
  rw [← hrounded]
  unfold LevelFollowed
  intro w now rules counts target falls warned
  generalize he : evaluateRound false word s = e
  have hs : e = s.withWarning { s.warning with rules := e.warning.rules } := by rw [← he]; rfl
  have ht : t = (computeLevel true e).withDue [] := by rw [hrounded, ← he]; rfl
  have hrules : rules = e.warning.rules := by
    show t.warning.rules = _
    rw [ht, State.withDue_warning]
    rcases computeLevel_cases e true with ⟨c, -, -, hc⟩ | ⟨hold, -, -, hc⟩ <;> rw [hc]
    · rw [changeLevel_warning]
      rfl
    · rfl
  have htarget : e.warning.formTarget = target := by
    show _ = max w.floor (countingLevel rules)
    rw [hrules, hs]
    rfl
  have hrecord : e.record = s.record := by rw [hs]; rfl
  have hlevel : e.warning.level = w.level := by rw [hs]; rfl
  have htime : e.time = s.time := by rw [hs]; rfl
  have hwarning : e.warning = { w with rules := rules } := by rw [hrules, hs]; rfl
  have hfloor : target = max w.floor (countingLevel rules) := rfl
  clear_value rules target
  have hmoved : ∀ cause, computeLevel true e = changeLevel target cause (e.withWarning e.warning.targeted) →
      t.warning.level = target ∧ t.warning.hold = none ∧ t.warning.beacon = startBeacon target s.time.elapsed
      ∧ (∀ p, (t.ports.get p).events.level = true)
      ∧ t.warning.siren = w.sirenAfter target s.time.elapsed
      ∧ (w.siren.isSome ≠ (w.sirenAfter target s.time.elapsed).isSome → t.ports.warning.events.siren = true)
      ∧ t.warning.target = target
      ∧ t.record = warned cause := by
    intro cause heq
    have htold := changeLevel_told (s := e.withWarning e.warning.targeted) (by rw [State.withWarning_record, hrecord, hroom])
      target cause
    rw [← heq] at htold
    simp only [State.withWarning_warning, State.withWarning_time, State.withWarning_record, hrecord, htime,
      Warning.targeted, hwarning] at htold
    rw [hwarning] at htarget
    rw [htarget] at htold
    rw [ht]
    exact htold
  have hupheld : w.target ≤ w.level := hsound.upheld
  rcases lt_or_ge w.level target with hup | hle
  · have hcause : ∃ n r, rules[n]? = some r ∧ counts r ∧ r.level = target
        ∧ (∀ m r', m < n → rules[m]? = some r' → counts r' → r'.level ≠ target)
        ∧ riseCause true target rules = .rule n := by
      have hcounting : countingLevel rules = target := by
        have hold : w.floor ≤ w.target := (le_max_left ..).trans_eq hsound.target.symm
        omega
      obtain ⟨i, r, hi, hget, hcounts, hrlevel, hfirst⟩ := lowestRule_spec target rules 0
        (hcounting ▸ countingLevel_attained rules (by omega))
      rw [Nat.zero_add] at hi
      exact ⟨i, r, hget, r.counts_iff.1 hcounts, hrlevel,
        fun m r' hm hr' hc => hfirst m r' hm hr' (r'.counts_iff.2 hc), by unfold riseCause; rw [hi]⟩
    obtain ⟨n, r, hget, hcounts, hrlevel, hfirst, hrule⟩ := hcause
    obtain ⟨h1, h2, h3, h4, h5, h6, h7, h8⟩ := hmoved (.rule n) (by
      rw [← hrule, ← htarget, hrules]
      exact computeLevel_rises true (by rw [htarget, hlevel]; exact hup))
    refine ⟨h7, fun hle => by omega, fun hf => by have := hf.1; omega,
      fun _ => ⟨h1, h2, h3, h4, fun hne hle => ?_, fun hno => ?_, n, r, hget, hcounts, hrlevel, hfirst, h8⟩⟩
    · have hon : w.sirenAfter target s.time.elapsed = some (after s.time.elapsed (w.sirenRun * 60000)) := by
        rw [Warning.sirenAfter, if_pos hup, if_pos ⟨hne, hle⟩]
      exact ⟨h5.trans hon, fun hoff => h6 (by rw [hoff, hon]; simp)⟩
    · rw [h5, Warning.sirenAfter, if_pos hup, if_neg (by rcases hno with h | h <;> omega)]
  · by_cases hf : falls
    · obtain ⟨h1, h2, h3, h4, h5, h6, h7, h8⟩ := hmoved .holdExpiry (by
        rw [← htarget]
        exact computeLevel_falls true (by rw [htarget, hlevel]; exact hf.1) (by rw [hwarning]; exact hf.2.1)
          (by rw [hwarning]; exact hf.2.2))
      have hafter : w.sirenAfter target s.time.elapsed = if target < w.sirenLevel then none else w.siren := by
        rw [Warning.sirenAfter, if_neg hle.not_gt]
      refine ⟨h7, fun _ hno => absurd hf hno,
        fun _ => ⟨h1, h2, h3, h4, h5.trans hafter, fun hon hbelow => h6 ?_, h8⟩, fun hlt => absurd hlt hle.not_gt⟩
      rw [hafter, if_pos hbelow]
      simpa using hon
    · have hstays := computeLevel_stays (s := e) true (by rw [htarget, hlevel]; exact hle)
        (by rw [htarget, hwarning]; exact hf)
      rw [htarget, hwarning, htime] at hstays
      rw [hstays] at ht
      rw [ht]
      exact ⟨rfl, fun _ _ => ⟨rfl, hrecord, rfl, rfl, rfl⟩, fun h => absurd h hf, fun hlt => absurd hlt hle.not_gt⟩

end Sys2Proof.Machine

/-! The stage update made whole: the state it leaves, against the words of section 3. -/

namespace Sys2Proof.Machine

/-! ### A batch that starts nothing -/

theorem takeReports_stale (time : U32) : ∀ (rs : List Report) (u : FaultUnit),
    (∀ r ∈ rs, bitSet u.word r.fault = true) → (takeReports time u rs).word = u.word
  | [], _, _ => rfl
  | r :: rs, u, h => by
    have hstep : takeReports time u (r :: rs) = takeReports time (takeReport time u r) rs := rfl
    have hword : (takeReport time u r).word = u.word := by
      refine BitVec.eq_of_getLsbD_eq fun n _ => ?_
      have hset : u.word.getLsbD (faultBit r.fault) = true := h r List.mem_cons_self
      rw [takeReport, BitVec.getLsbD_or, getLsbD_faultMask]
      by_cases hn : n = faultBit r.fault
      · simp [hn, hset]
      · simp [hn]
    rw [hstep, takeReports_stale time rs _ fun r' hr' => by rw [hword]; exact h r' (List.mem_cons_of_mem r hr'), hword]

section
variable {s : State} {rs : List Report}

/-- No report of the batch finds its bit at 0. -/
def Stale (rs : List Report) (s : State) : Prop := ∀ r ∈ rs, bitSet s.faults.word r.fault = true

theorem stale_iff : Stale rs s ↔ (newlySet s.faults.word rs).isEmpty = true := by
  rw [newlySet_isEmpty_iff]
  simp [Stale]

theorem word_of_stale (h : Stale rs s) : (takeBatch rs s).faults.word = s.faults.word := by
  rw [takeBatch_faults]
  exact takeReports_stale _ rs _ h

/-- A batch by itself that changes no word, or whose changed word no rule watches. -/
theorem reported_quiet (hdue : s.due = []) (h : Stale rs s ∨ Unwatched s.warning) :
    reported rs s = (takeBatch rs s).withDue [] := by
  unfold reported
  by_cases hstale : (newlySet s.faults.word rs).isEmpty = true
  · have howes := takeBatch_due rs s
    rw [if_pos hstale, hdue, List.nil_append] at howes
    rw [if_pos hstale, ← howes, State.withDue_same]
  · have hunwatched : Unwatched s.warning := h.resolve_left fun hs => hstale (stale_iff.1 hs)
    have hsame := faultRound_unwatched (s := (takeBatch rs s).withDue [])
      (by rw [State.withDue_warning, takeBatch_warning]; exact hunwatched) (takeBatch rs s).faults.word
    rw [if_neg hstale]
    show (faultRound _ _).withDue [] = _
    rw [hsame, State.withDue_twice]

theorem reported_faults (hroom : s.record.full = false) :
    (reported rs s).faults = takeReports s.time.station s.faults rs := by
  unfold reported
  split
  · exact takeBatch_faults rs s
  · have hroom' : ((takeBatch rs s).withDue []).record.full = false := by
      rw [State.withDue_record, takeBatch_record, hroom]
    rw [(rounded_spec hroom' true _).1, State.withDue_faults, takeBatch_faults]

theorem takeBatch_time (rs : List Report) (s : State) : (takeBatch rs s).time = s.time :=
  steady_time (steady_takeBatch s rs)

theorem takeBatch_stage (rs : List Report) (s : State) : (takeBatch rs s).stage = s.stage :=
  steady_stage (steady_takeBatch s rs)

end

/-! ### What enters the record on the way -/

/-- Nothing has been entered, or the change of L. -/
def LevelEntered (s t : State) : Prop :=
  (t.record = s.record ∧ t.warning.level = s.warning.level)
  ∨ ∃ cause, t.record
    = s.record.placeOrRenumber (.warning s.time.station s.warning.level t.warning.level cause) s.time.station

theorem levelEntered_rounded {s : State} (hroom : s.record.full = false) (b : Bool) (word : U32) :
    LevelEntered s (rounded b word s) := (rounded_spec hroom b word).2.2.2

theorem levelEntered_reported {s : State} (hroom : s.record.full = false) (rs : List Report) :
    LevelEntered s (reported rs s) := by
  unfold reported
  split
  · exact .inl ⟨takeBatch_record rs s, by rw [takeBatch_warning]⟩
  · have h := levelEntered_rounded (s := (takeBatch rs s).withDue [])
      (by rw [State.withDue_record, takeBatch_record, hroom]) true (takeBatch rs s).faults.word
    generalize rounded true (takeBatch rs s).faults.word ((takeBatch rs s).withDue []) = t at *
    simpa only [LevelEntered, State.withDue_record, State.withDue_warning, State.withDue_time, takeBatch_record,
      takeBatch_warning, takeBatch_time] using h

section
variable {s t u : State} {rs : List Report}

theorem LevelEntered.then (h : LevelEntered s t) (h' : LevelEntered t u) (htime : t.time = s.time) :
    (u.record = s.record ∧ u.warning.level = s.warning.level)
    ∨ (∃ cause, u.record
      = s.record.placeOrRenumber (.warning s.time.station s.warning.level u.warning.level cause) s.time.station)
    ∨ ∃ l cause cause', u.record
      = (s.record.placeOrRenumber (.warning s.time.station s.warning.level l cause) s.time.station).placeOrRenumber
        (.warning s.time.station l u.warning.level cause') s.time.station := by
  unfold LevelEntered at h'
  rw [htime] at h'
  rcases h with ⟨hr, hl⟩ | ⟨cause, hr⟩
  · rw [hr, hl] at h'
    rcases h' with h' | h'
    · exact .inl h'
    · exact .inr (.inl h')
  · rcases h' with ⟨hr', hl'⟩ | ⟨cause', hr'⟩
    · exact .inr (.inl ⟨cause, by rw [hr', hr, hl']⟩)
    · exact .inr (.inr ⟨_, cause, cause', by rw [hr', hr]⟩)

/-- What the rounds of a stage update enter (R105). -/
theorem roundsRead_enters (hroom : s.record.HasRoom 2) :
    (( roundsRead rs s).record = s.record ∧ (roundsRead rs s).warning.level = s.warning.level)
    ∨ (∃ cause, (roundsRead rs s).record
      = s.record.placeOrRenumber (.warning s.time.station s.warning.level (roundsRead rs s).warning.level cause)
        s.time.station)
    ∨ ∃ l cause cause', (roundsRead rs s).record
      = (s.record.placeOrRenumber (.warning s.time.station s.warning.level l cause) s.time.station).placeOrRenumber
        (.warning s.time.station l (roundsRead rs s).warning.level cause') s.time.station := by
  unfold roundsRead
  split
  · have hreported := levelEntered_reported (s := s) hroom.not_full rs
    have hroom' := (reported_room (s := s) (n := 1) hroom rs).not_full
    have htime := steady_time (steady_reported rs s)
    generalize reported rs s = v at *
    exact hreported.then (levelEntered_rounded (s := v.withDue []) hroom' false v.faults.word) htime
  · have hrounded := levelEntered_rounded (s := s) hroom.not_full false s.faults.word
    have hroom' := (rounded_room (s := s) (n := 1) hroom false s.faults.word).not_full
    have htime := steady_time (steady_rounded false s.faults.word s)
    generalize rounded false s.faults.word s = v at *
    exact hrounded.then (levelEntered_reported hroom' rs) htime

theorem roundsRead_faults (hroom : s.record.HasRoom 2) :
    (roundsRead rs s).faults = takeReports s.time.station s.faults rs := by
  unfold roundsRead
  split
  · rw [(rounded_spec (s := (reported rs s).withDue []) (reported_room (s := s) (n := 1) hroom rs).not_full _ _).1]
    exact reported_faults hroom.not_full
  · have htime := steady_time (steady_rounded false s.faults.word s)
    rw [reported_faults (rounded_room (s := s) (n := 1) hroom false s.faults.word).not_full,
      (rounded_spec hroom.not_full _ _).1, htime]

/-! ### The rules -/

theorem inRound_congr (hstage : t.stage = s.stage) (htime : t.time = s.time) (b : Bool) (word : U32) (r : Rule) :
    r.inRound b word t = r.inRound b word s := by
  rw [inRound_eq rfl rfl, inRound_eq (s := s) rfl rfl, hstage, htime]

theorem rules_rounded (hroom : s.record.full = false) (b : Bool) (word : U32) :
    (rounded b word s).warning.rules = s.warning.rules.map (fun r => r.inRound b word s) :=
  (rounded_spec hroom b word).2.2.1

theorem rules_reported (hroom : s.record.full = false) : (reported rs s).warning.rules
    = if (newlySet s.faults.word rs).isEmpty then s.warning.rules
      else s.warning.rules.map (fun r => r.inRound true (takeReports s.time.station s.faults rs).word s) := by
  unfold reported
  split
  · rw [takeBatch_warning]
  · rw [rules_rounded (by rw [State.withDue_record, takeBatch_record, hroom]), State.withDue_warning, takeBatch_warning,
      takeBatch_faults]
    refine List.map_congr_left fun r _ => inRound_congr ?_ ?_ true _ r
    · rw [State.withDue_stage, takeBatch_stage]
    · rw [State.withDue_time, takeBatch_time]

/-- The evaluations of a stage update's rounds, in their order (R93, R94). -/
theorem rules_roundsRead (hroom : s.record.HasRoom 2) :
    let word := (takeReports s.time.station s.faults rs).word
    (Stale rs s → (roundsRead rs s).warning.rules = s.warning.rules.map (fun r => r.inRound false s.faults.word s))
    ∧ (¬Stale rs s → s.orders.faultRoundFirst = true → (roundsRead rs s).warning.rules
        = s.warning.rules.map (fun r => (r.inRound true word s).inRound false word s))
    ∧ (¬Stale rs s → s.orders.faultRoundFirst = false → (roundsRead rs s).warning.rules
        = s.warning.rules.map (fun r => (r.inRound false s.faults.word s).inRound true word s)) := by
  intro word
  have hfirst : s.orders.faultRoundFirst = true → (roundsRead rs s).warning.rules
      = (reported rs s).warning.rules.map (fun r => r.inRound false word s) := by
    intro h
    rw [roundsRead, if_pos h, rules_rounded (by exact (reported_room (s := s) (n := 1) hroom rs).not_full),
      reported_faults hroom.not_full, State.withDue_warning]
    exact List.map_congr_left fun r _ => inRound_congr (steady_stage (steady_reported rs s))
      (steady_time (steady_reported rs s)) false word r
  have hsecond : s.orders.faultRoundFirst = false → (roundsRead rs s).warning.rules
      = if (newlySet s.faults.word rs).isEmpty then s.warning.rules.map (fun r => r.inRound false s.faults.word s)
        else (s.warning.rules.map (fun r => r.inRound false s.faults.word s)).map (fun r => r.inRound true word s) := by
    intro h
    have htime := steady_time (steady_rounded false s.faults.word s)
    rw [roundsRead, h, if_neg Bool.false_ne_true,
      rules_reported (rounded_room (s := s) (n := 1) hroom false s.faults.word).not_full,
      (rounded_spec hroom.not_full _ _).1, rules_rounded hroom.not_full, htime]
    split
    · rfl
    · exact List.map_congr_left fun r _ => inRound_congr (steady_stage (steady_rounded false s.faults.word s)) htime true
        word r
  refine ⟨fun hs => ?_, fun hs h => ?_, fun hs h => ?_⟩
  · have hword : word = s.faults.word := takeReports_stale _ rs _ hs
    cases horder : s.orders.faultRoundFirst with
    | true => rw [hfirst horder, rules_reported hroom.not_full, if_pos (stale_iff.1 hs), hword]
    | false => rw [hsecond horder, if_pos (stale_iff.1 hs)]
  · rw [hfirst h, rules_reported hroom.not_full, if_neg (mt stale_iff.2 hs), List.map_map]
    rfl
  · rw [hsecond h, if_neg (mt stale_iff.2 hs), List.map_map]
    rfl

/-! ### The level -/

theorem LevelFollowed.congr {s' t' : State} (h : LevelFollowed s t) (hw : s'.warning = s.warning)
    (hr : s'.record = s.record) (hn : s'.time = s.time) (hw' : t'.warning = t.warning) (hr' : t'.record = t.record)
    (he : ∀ p, (t.ports.get p).events.Within (t'.ports.get p).events) : LevelFollowed s' t' := by
  unfold LevelFollowed at *
  rw [hw, hr, hn, hw', hr']
  obtain ⟨h1, h2, h3, h4⟩ := h
  refine ⟨h1, h2, fun hf => ?_, fun hup => ?_⟩
  · obtain ⟨hl, hh, hb, hev, hs, hse, hrec⟩ := h3 hf
    exact ⟨hl, hh, hb, fun p => (he p).level (hev p), hs, fun hon hlt => (he .warning).siren (hse hon hlt), hrec⟩
  · obtain ⟨hl, hh, hb, hev, hs, hkeep, hrule⟩ := h4 hup
    exact ⟨hl, hh, hb, fun p => (he p).level (hev p),
      fun h0 hle => ⟨(hs h0 hle).1, fun hoff => (he .warning).siren ((hs h0 hle).2 hoff)⟩, hkeep, hrule⟩

theorem within_takeBatch (rs : List Report) (s : State) (p : Port) :
    (s.ports.get p).events.Within ((takeBatch rs s).ports.get p).events := (HandsOn.refl s).takeBatch rs |>.events p

/-- A stage round leaves a sound warning unit sound, and unwatched where it was. -/
theorem unwatched_rounded (h : Unwatched s.warning) (word : U32) : Unwatched (rounded false word s).warning := by
  have hlength : (evaluateRound false word s).warning.rules.length = 16 := by
    show (s.warning.rules.map _).length = 16
    rw [List.length_map, h.sound.rules]
  refine ⟨warningSound_computeLevel true hlength h.sound.siren h.sound.beacon, fun r hr hq => ?_⟩
  have hrules : (rounded false word s).warning.rules = s.warning.rules.map (fun r => r.inRound false word s) := by
    show (computeLevel true (evaluateRound false word s)).warning.rules = _
    rcases computeLevel_cases (evaluateRound false word s) true with ⟨c, -, -, he⟩ | ⟨hold, -, -, he⟩ <;> rw [he]
    · rw [changeLevel_warning]
      rfl
    · rfl
  rw [hrules] at hr
  obtain ⟨r', hr', rfl⟩ := List.mem_map.1 hr
  have hkept := atReset_inRound r' false word s
  have hquantity : (r'.inRound false word s).quantity = r'.quantity := (congrArg Rule.quantity hkept :)
  have henabled : (r'.inRound false word s).enabled = r'.enabled := (congrArg Rule.enabled hkept :)
  rw [henabled]
  exact h.rules r' hr' (hquantity ▸ hq)

/-- Where no round sees a changed word, the level follows from the rules of the stage round. -/
theorem roundsRead_followed (hroom : s.record.HasRoom 2) (hdue : s.due = []) (hsound : WarningSound s.warning)
    (h : Stale rs s ∨ Unwatched s.warning) : LevelFollowed s (roundsRead rs s) := by
  unfold roundsRead
  split
  · rw [reported_quiet hdue h, State.withDue_twice]
    have hroom' : ((takeBatch rs s).withDue []).record.full = false := by
      rw [State.withDue_record, takeBatch_record, hroom.not_full]
    refine (rounded_sound hroom' (by rw [State.withDue_warning, takeBatch_warning]; exact hsound) _).congr ?_ ?_ ?_ rfl rfl
      fun _ => .refl _
    · rw [State.withDue_warning, takeBatch_warning]
    · rw [State.withDue_record, takeBatch_record]
    · rw [State.withDue_time, takeBatch_time]
  · have hround := rounded_sound hroom.not_full hsound s.faults.word
    have hfaults := (rounded_spec hroom.not_full false s.faults.word).1
    have hagain : Stale rs (rounded false s.faults.word s) ∨ Unwatched (rounded false s.faults.word s).warning :=
      h.imp (fun hs => by unfold Stale; rw [hfaults]; exact hs) (unwatched_rounded · _)
    rw [reported_quiet rfl hagain]
    exact hround.congr rfl rfl rfl (takeBatch_warning ..) (takeBatch_record ..) fun p => within_takeBatch rs _ p

end

end Sys2Proof.Machine

/-! What the completion of an acquisition makes of the part (R12, R40). -/

namespace Sys2Proof.Machine

theorem codeBits_eq {n : Nat} (h : n < 16) :
    codeBits n = [decide (8 ≤ n), decide (4 ≤ n % 8), decide (2 ≤ n % 4), decide (n % 2 = 1)] := by
  have hall : ∀ n : Fin 16, codeBits n
      = [decide (8 ≤ n.val), decide (4 ≤ n.val % 8), decide (2 ≤ n.val % 4), decide (n.val % 2 = 1)] := by decide
  exact hall ⟨n, h⟩

theorem displayCodes_lt (content : DisplayContent) : ∀ n ∈ displayCodes content, n < 16 := by
  have hshows := shows_displayCodes content
  cases content with
  | dashes => rw [hshows]; decide
  | cm v =>
    rw [hshows]
    intro n hn
    simp only [List.mem_cons, List.not_mem_nil, or_false] at hn
    have hdigit : ∀ m k : Nat, m / k % 10 < 16 := fun m k => by omega
    rcases hn with rfl | rfl | rfl | rfl | rfl
    · split <;> omega
    · have := hdigit v.natAbs 1000
      split <;> omega
    · have := hdigit v.natAbs 100
      split <;> omega
    · have := hdigit v.natAbs 10
      split <;> omega
    · omega

theorem sent_sendDisplay (content : DisplayContent) (s : State) :
    Sent content s.latch (sendDisplay content s).latch := by
  refine ⟨rfl, displayCodes content, shows_displayCodes content, ?_⟩
  show (displayCodes content).flatMap codeBits = _
  simp only [List.flatMap]
  exact congrArg _ (List.map_congr_left fun n hn => codeBits_eq (displayCodes_lt content n hn))

theorem displayFor_read {x : StageRecord} {v : Int} (hv : x.value = some v) (hq : x.quality = .good ∨ x.quality = .suspect) :
    displayFor x = .cm (roundHalfAway v 10) := by
  unfold displayFor
  rw [hv]
  rcases hq with h | h <;> simp [h, unread]

theorem displayFor_unread {x : StageRecord} (hq : x.quality = .none ∨ x.quality = .held) : displayFor x = .dashes := by
  unfold displayFor
  split
  · rcases hq with h | h <;> simp [h, unread]
  · rfl

theorem Rating.noted_eq (r : Rating) (d : DischargeResult) : r.noted d
    = { r with
        lastEffective := match d.effective with
          | some h => some h
          | none => r.lastEffective } := by
  unfold Rating.noted
  cases d.effective <;> rfl

/-- What a stage update owes its readers: no completion, and little enough. -/
theorem readersOf_light (o : TakingOrder) (rs : List Report) (time : U32) (cause : Cause) :
    Work.completion ∉ readersOf o (.batch rs) (.sampleEntry time cause)
      ∧ ((readersOf o (.batch rs) (.sampleEntry time cause)).map Work.weight).sum ≤ 100
      ∧ Work.permitTest ∈ readersOf o (.batch rs) (.sampleEntry time cause)
      ∧ Work.batch rs ∈ readersOf o (.batch rs) (.sampleEntry time cause) := by
  unfold readersOf
  cases o.permitPlace <;> cases o.faultRoundFirst <;> simp [Work.weight]

/-- The stage unit as a completion forms it, with the discharge. -/
def formedStage (a : Acquisition) (s : State) : StageUnit :=
  let u := formStage a s.stage
  { u with record := u.record.withDischarge (computeDischarge s.rating u.record.value u.record.quality) s.rating.generation }

/-- The discharge that a completion computes. -/
def formedDischarge (a : Acquisition) (s : State) : DischargeResult :=
  computeDischarge s.rating (formStage a s.stage).record.value (formStage a s.stage).record.quality

/-- The part with a stage unit and a rating in place, and its display sent. -/
def shown (u : StageUnit) (r : Rating) (s : State) : State :=
  sendDisplay (displayFor u.record) ((s.withStage u).withRating r)

theorem kept_shown (u : StageUnit) (r : Rating) (s : State) :
    (shown u r s).kept = (((s.withStage u).withRating r).withLatch (shown u r s).latch).kept := rfl

/-- The batch of a completion. -/
def formedBatch (a : Acquisition) (s : State) : List Report :=
  updateBatch (clampedReading a s.stage) (formedDischarge a s)
    (shown (formedStage a s) (s.rating.noted (formedDischarge a s)) s)

theorem clamped_formedStage (a : Acquisition) (s : State) :
    (formedStage a s).record.clamped = (formStage a s.stage).record.clamped := rfl

theorem mem_formedBatch (a : Acquisition) (s : State) (f : StationFault) :
    (∃ r ∈ formedBatch a s, r.fault = f) ↔ Reported (formedStage a s) (formedDischarge a s).above s f := by
  have hclamped := clamped_formedStage a s
  unfold formedBatch
  generalize formedStage a s = u at *
  generalize formedDischarge a s = d
  generalize s.rating.noted d = r
  exact mem_updateBatch (a := a) (s := s) (t := shown u r s) rfl rfl hclamped f

/-- A stage update before its readers take it. -/
structure Formed (u : StageUnit) (r : Rating) (s t : State) : Prop where
  stage : t.stage = u
  rating : t.rating = r
  kept : t.kept = (((s.withStage u).withRating r).withLatch t.latch).kept
  warning : t.warning = { s.warning with display := displayFor u.record }
  latch : Sent t.warning.display s.latch t.latch
  record : t.record = s.record
  time : t.time = s.time
  permit : t.permit = s.permit
  faults : t.faults = s.faults
  orders : t.orders = s.orders
  sample : ∀ p, (t.ports.get p).events.sample = true

theorem formed_shown (u : StageUnit) (r : Rating) (ws : List Work) (s : State) :
    Formed u r s (raiseEvent .sample ((shown u r s).owe ws)) where
  stage := rfl
  rating := rfl
  kept := by
    rw [kept_raiseEvent, kept_owe]
    exact kept_shown u r s
  warning := rfl
  latch := sent_sendDisplay (displayFor u.record) s
  record := by simp [raiseEvent, shown, sendDisplay, State.owe]
  time := by simp [raiseEvent, shown, sendDisplay, State.owe]
  permit := by simp [raiseEvent, shown, sendDisplay, State.owe]
  faults := by simp [raiseEvent, shown, sendDisplay, State.owe]
  orders := by simp [raiseEvent, shown, sendDisplay, State.owe]
  sample := by intro p; cases p <;> rfl

theorem stageUpdate_eq (a : Acquisition) (s : State) : stageUpdate a s
    = raiseEvent .sample ((shown (formedStage a s) (s.rating.noted (formedDischarge a s)) s).owe
        (readersOf s.orders (.batch (formedBatch a s)) (.sampleEntry a.sampleTime a.cause))) := rfl

theorem due_shown (u : StageUnit) (r : Rating) (ws : List Work) {s : State} (hdue : s.due = []) :
    (raiseEvent .sample ((shown u r s).owe ws)).due = ws := by
  show s.due ++ ws = ws
  rw [hdue, List.nil_append]

end Sys2Proof.Machine

/-! The completion of an acquisition, made whole: `StageUpdated`. -/

namespace Sys2Proof.Machine

theorem inRound_stage {s : State} {u : StageUnit} {now : U32} (hu : s.stage = u) (hnow : s.time.station = now)
    (word : U32) (r : Rule) : r.inRound false word s = if r.enabled then evaluatedOnce u word now r else r := by
  rw [inRound_eq hu hnow]
  simp

theorem inRound_fault {s : State} {u : StageUnit} {now : U32} (hu : s.stage = u) (hnow : s.time.station = now)
    (word : U32) (r : Rule) : r.inRound true word s
      = if r.enabled ∧ r.quantity = .faults then evaluatedOnce u word now r else r := by
  rw [inRound_eq hu hnow]
  simp

/-- The SAMPLE entry has been appended to `u` (R71). -/
structure Sampled (time : U32) (cause : Cause) (u t : State) : Prop where
  warning : t.warning = u.warning
  faults : t.faults = u.faults
  record : t.record = u.record.placeOrRenumber (.sample (sampleEntryOf time cause u)) u.time.station
  events : ∀ p, (u.ports.get p).events.Within (t.ports.get p).events

theorem sampled_append {u : State} (hroom : u.record.full = false) (time : U32) (cause : Cause) :
    Sampled time cause u (append (.sample (sampleEntryOf time cause u)) (u.withDue [])) := by
  have hroom' : (u.withDue []).record.full = false := hroom
  generalize hentry : Entry.sample (sampleEntryOf time cause u) = e
  refine ⟨append_warning e _, ?_, ?_, ((HandsOn.refl (u.withDue [])).append e).events⟩
  · rw [append_of_not_full hroom']
    simp [syncRecord]
  · rw [append_record_of_not_full hroom', hentry]
    rfl

/-- What the readers of a stage update leave, with room in the record and the permit not OPEN. -/
theorem sampled_settle {v : State} {a : Acquisition} {rs : List Report}
    (hdue : v.due = readersOf v.orders (.batch rs) (.sampleEntry a.sampleTime a.cause))
    (hp : v.permit.record.state ≠ .open_) (hroom : v.record.HasRoom 3) :
    Sampled a.sampleTime a.cause (roundsRead rs (v.withDue [])) (settle v) := by
  rw [settle_readers hdue hp hroom]
  exact sampled_append (roundsRead_room (s := v.withDue []) (n := 1) hroom rs).not_full _ _

/-- The rounds of a stage update, on the state in which its readers find the part. -/
structure Rounds (rs : List Report) (s v A : State) : Prop where
  time : A.time = s.time
  stage : A.stage = v.stage
  faults : A.faults = takeReports s.time.station s.faults rs
  stale : Stale rs s → A.warning.rules = s.warning.rules.map fun r =>
    if r.enabled then evaluatedOnce v.stage s.faults.word s.time.station r else r
  first : ¬Stale rs s → s.orders.faultRoundFirst = true → A.warning.rules = s.warning.rules.map fun r =>
    let r' := if r.enabled ∧ r.quantity = .faults then evaluatedOnce v.stage A.faults.word s.time.station r else r
    if r'.enabled then evaluatedOnce v.stage A.faults.word s.time.station r' else r'
  second : ¬Stale rs s → s.orders.faultRoundFirst = false → A.warning.rules = s.warning.rules.map fun r =>
    let r' := if r.enabled then evaluatedOnce v.stage s.faults.word s.time.station r else r
    if r'.enabled ∧ r'.quantity = .faults then evaluatedOnce v.stage A.faults.word s.time.station r' else r'
  enters : (A.record = s.record ∧ A.warning.level = s.warning.level)
    ∨ (∃ cause, A.record
      = s.record.placeOrRenumber (.warning s.time.station s.warning.level A.warning.level cause) s.time.station)
    ∨ ∃ l cause cause', A.record
      = (s.record.placeOrRenumber (.warning s.time.station s.warning.level l cause) s.time.station).placeOrRenumber
        (.warning s.time.station l A.warning.level cause') s.time.station
  followed : Stale rs s ∨ Unwatched s.warning → WarningSound s.warning → LevelFollowed s A

theorem rounds_of_formed {s v : State} {u : StageUnit} {r : Rating} (hv : Formed u r s v)
    (hroom : s.record.HasRoom 2) (rs : List Report) : Rounds rs s v (roundsRead rs (v.withDue [])) := by
  have hroom' : (v.withDue []).record.HasRoom 2 := by rw [State.withDue_record, hv.record]; exact hroom
  have hsteady := roundsRead_steady rs (v.withDue [])
  have hfaults := roundsRead_faults (rs := rs) hroom'
  have hrules := rules_roundsRead (rs := rs) hroom'
  have henters := roundsRead_enters (rs := rs) hroom'
  have hfollowed := roundsRead_followed (rs := rs) hroom' rfl
  have hstage := steady_stage hsteady
  have htime := steady_time hsteady
  have hstale : Stale rs (v.withDue []) ↔ Stale rs s := by
    unfold Stale
    rw [State.withDue_faults, hv.faults]
  have hround := fun (word : U32) (r : Rule) =>
    inRound_stage (s := v.withDue []) (u := v.stage) (now := s.time.station) rfl (by rw [State.withDue_time, hv.time]) word r
  have hfault := fun (word : U32) (r : Rule) =>
    inRound_fault (s := v.withDue []) (u := v.stage) (now := s.time.station) rfl (by rw [State.withDue_time, hv.time]) word r
  have hsound : WarningSound s.warning → WarningSound (v.withDue []).warning := fun h => by
    rw [State.withDue_warning, hv.warning]
    exact { h with }
  have hunwatched : Unwatched s.warning → Unwatched (v.withDue []).warning := fun h => by
    refine ⟨hsound h.sound, ?_⟩
    rw [State.withDue_warning, hv.warning]
    exact h.rules
  have hcopy : (v.withDue []).warning = { s.warning with display := displayFor u.record } := hv.warning
  generalize roundsRead rs (v.withDue []) = A at *
  simp only [State.withDue_time, State.withDue_faults, State.withDue_record, State.withDue_orders, hv.time, hv.faults,
    hv.record, hv.orders, hstale, hcopy, hround, hfault] at hfaults hrules henters htime
  obtain ⟨hrules1, hrules2, hrules3⟩ := hrules
  refine ⟨htime, hstage, hfaults, hrules1, ?_, ?_, henters, fun h hs => ?_⟩
  · rw [hfaults]
    exact hrules2
  · rw [hfaults]
    exact hrules3
  · have hlevel := hfollowed (hsound hs) (h.imp hstale.2 hunwatched)
    unfold LevelFollowed at hlevel ⊢
    rw [hcopy, State.withDue_record, State.withDue_time, hv.record, hv.time] at hlevel
    exact hlevel

/-- The stage update as its readers have taken it. -/
theorem stageUpdated_of_formed {a : Acquisition} {s v : State}
    (hv : Formed (formedStage a s) (s.rating.noted (formedDischarge a s)) s v)
    (hdue : v.due = readersOf s.orders (.batch (formedBatch a s)) (.sampleEntry a.sampleTime a.cause)) :
    StageUpdated a s (settle v) := by
  obtain ⟨hnone, hsum, htest, hbatch⟩ := readersOf_light s.orders (formedBatch a s) a.sampleTime a.cause
  have hn : NoCompletion v := by rw [NoCompletion, hdue]; exact hnone
  have hl : v.load ≤ 400 := load_le (by rw [hdue]; exact hsum)
  have hreported := mem_formedBatch a s
  have hkept := kept_settle v hn
  have hsettings := settings_settle hn
  have hevents := settle_events hn
  have hbits : ∀ f, Reported (formedStage a s) (formedDischarge a s).above s f → bitSet (settle v).faults.word f = true := by
    intro f hf
    obtain ⟨r, hr, rfl⟩ := (hreported f).2 hf
    exact settle_batch_bits hn hl (by rw [hdue]; exact hbatch) hr
  have hpermit : s.permit.record.state ≠ .open_ → (settle v).permit = s.permit := fun hp =>
    (steady_permit (steady_settle (by rw [hv.permit]; exact hp) hn)).trans hv.permit
  have hopen := settle_tested hn hl (by rw [hdue]; exact htest)
  have hroom : s.permit.record.state ≠ .open_ → s.record.HasRoom 3 →
      Sampled a.sampleTime a.cause (roundsRead (formedBatch a s) (v.withDue [])) (settle v) := fun hp hr =>
    sampled_settle (by rw [hdue, hv.orders]) (by rw [hv.permit]; exact hp) (by rw [hv.record]; exact hr)
  generalize settle v = t at *
  have hstage := (stage_of_kept hkept).trans hv.stage
  have hrating := (rating_of_kept hkept).trans hv.rating
  have hlatch : t.latch = v.latch := by
    have := congrArg State.latch hkept
    exact this
  have hdisplay : t.warning.display = displayFor (formedStage a s).record := by
    have := congrArg Warning.display hsettings
    rw [hv.warning] at this
    exact this
  have hpermits : (t.permit.level = s.permit.level ∧ t.permit.rate = s.permit.rate)
      ∧ t.permit.stage = s.permit.stage := by
    have hunit : t.kept.permit = v.kept.permit := congrArg State.permit hkept
    have hrest : ∀ x y : State, x.kept.permit = y.kept.permit →
        (x.permit.level = y.permit.level ∧ x.permit.rate = y.permit.rate) ∧ x.permit.stage = y.permit.stage :=
      fun x y h => ⟨⟨(congrArg Permit.level h :), (congrArg Permit.rate h :)⟩, (congrArg Permit.stage h :)⟩
    rw [← hv.permit]
    exact hrest t v hunit
  have hwhole : t.kept = (((s.withStage (formedStage a s)).withRating t.rating).withLatch t.latch).kept := by
    rw [hlatch, hkept, hrating]
    exact hv.kept
  unfold StageUpdated
  intro u d x formed w now reported unchanged once fault rules counts target falls warned beacon sample
  refine ⟨hstage, hrating.trans (Rating.noted_eq ..), ?_, ?_, ?_, ?_, fun p => (hevents p).sample (hv.sample p), hbits,
    hpermit, ?_, ?_⟩
  · exact hwhole
  · intro q hq hread
    exact ⟨_, hdisplay.trans (displayFor_read hq hread), halfAway_roundHalfAway q (by decide)⟩
  · intro hunread
    exact hdisplay.trans (displayFor_unread hunread)
  · rw [hlatch, hdisplay]
    have := hv.latch
    rw [hv.warning] at this
    exact this
  · intro hstate
    obtain ⟨hlevel, hrest⟩ := not_or.1 (hopen hstate)
    obtain ⟨hrate, hvalue⟩ := not_or.1 hrest
    rw [hpermits.1.1] at hlevel
    rw [hpermits.1.2, hstage] at hrate
    rw [hpermits.2, hstage] at hvalue
    refine ⟨fun h0 => ?_, fun h0 hvalid => ?_, fun l q hl hq hread => ?_⟩
    · exact not_le.1 fun hle => hlevel ⟨h0, hle⟩
    · exact not_le.1 fun hle => hrate ⟨h0, hvalid, hle⟩
    · exact not_le.1 fun hle => hvalue ⟨hread, l, q, hl, hq, hle⟩
  · intro hshut hspace
    obtain ⟨hwarning, hfaults, hrecord, hports⟩ := hroom hshut hspace
    have hrounds := rounds_of_formed hv hspace.less (formedBatch a s)
    generalize roundsRead (formedBatch a s) (v.withDue []) = A at *
    have hstale : unchanged ↔ Stale (formedBatch a s) s :=
      ⟨fun h r hr => h r.fault ((hreported r.fault).1 ⟨r, hr, rfl⟩),
        fun h f hf => by
          obtain ⟨r, hr, rfl⟩ := (hreported f).2 hf
          exact h r hr⟩
    have hplaced : t.record = A.record.placeOrRenumber sample now := by
      have hsample : Entry.sample (sampleEntryOf a.sampleTime a.cause A) = sample := by
        unfold sampleEntryOf
        rw [hrounds.stage, hv.stage, ← hwarning] <;> rfl
      rw [hrecord, hsample, hrounds.time]
    have hrules : rules = A.warning.rules := congrArg Warning.rules hwarning
    refine ⟨fun f => ?_, fun h => ?_, fun h ho => ?_, fun h ho => ?_, ⟨A.record, hplaced, ?_⟩, fun hq hs => ?_⟩
    · rw [hfaults, hrounds.faults, bitSet_takeReports]
      exact or_congr_right (hreported f)
    · have hmade := hrounds.stale (hstale.1 h)
      rw [hv.stage] at hmade
      exact hrules.trans hmade
    · have hmade := hrounds.first (mt hstale.2 h) ho
      rw [hv.stage, ← hfaults] at hmade
      exact hrules.trans hmade
    · have hmade := hrounds.second (mt hstale.2 h) ho
      rw [hv.stage, ← hfaults] at hmade
      exact hrules.trans hmade
    · rw [hwarning]
      exact hrounds.enters
    · have hlevel := hrounds.followed (hq.imp hstale.1 id) hs
      unfold LevelFollowed at hlevel
      rw [← hwarning] at hlevel
      obtain ⟨htarget, hstays, hfalls, hrises⟩ := hlevel
      have hbeacon : startBeacon target s.time.elapsed = beacon := startBeacon_eq ..
      refine ⟨htarget, fun hle hno => ?_, fun hf => ?_, fun hup => ?_⟩
      · obtain ⟨hl, hr, hrest⟩ := hstays hle hno
        exact ⟨hl, by rw [hplaced, hr], hrest⟩
      · obtain ⟨hl, hh, hb, hev, hsi, hse, hr⟩ := hfalls hf
        exact ⟨hl, hh, hb.trans hbeacon, fun p => (hports p).level (hev p), hsi,
          fun hon hlt => (hports .warning).siren (hse hon hlt), by rw [hplaced, hr]⟩
      · obtain ⟨hl, hh, hb, hev, hsi, hkeep, n, r, hget, hcount, hrl, hfirst, hr⟩ := hrises hup
        exact ⟨hl, hh, hb.trans hbeacon, fun p => (hports p).level (hev p),
          fun h0 hle => ⟨(hsi h0 hle).1, fun hoff => (hports .warning).siren ((hsi h0 hle).2 hoff)⟩, hkeep,
          n, r, hget, hcount, hrl, hfirst, by rw [hplaced, hr]⟩

/-- A stage update made whole, from a state that owes nothing. -/
theorem stageUpdated_settle {s : State} (hdue : s.due = []) (a : Acquisition) :
    StageUpdated a s (settle (stageUpdate a s)) := by
  rw [stageUpdate_eq]
  exact stageUpdated_of_formed (formed_shown ..) (due_shown _ _ _ hdue)

end Sys2Proof.Machine

/-! The completion of an acquisition among what a step owes (R12), and what starts an acquisition (R11). -/

namespace Sys2Proof.Machine

/-! ### One thing owed after another -/

/-- What is owed first is done, with all its consequences, before what is owed after it. -/
theorem drain_append (rest : List Work) : ∀ (n : Nat) {s : State}, NoCompletion s → s.load ≤ n →
    ∃ k ≤ n, ∀ m, drain (k + m) (s.withDue (s.due ++ rest)) = drain m ((drain n s).withDue rest) := by
  intro n
  induction n with
  | zero =>
    intro s hn hl
    have hdue : s.due = [] := by
      have := (drain_ends 0 hn hl).1
      exact this
    exact ⟨0, le_rfl, fun m => by rw [hdue, List.nil_append, Nat.zero_add, drain_nil hdue]⟩
  | succ n ih =>
    intro s hn hl
    cases hd : s.due with
    | nil => exact ⟨0, Nat.zero_le _, fun m => by rw [List.nil_append, Nat.zero_add, drain_nil hd]⟩
    | cons w ws =>
      have hlt := load_afterFirst hn hd
      obtain ⟨k, hk, hdrain⟩ := ih (hn.afterFirst hd) (by omega)
      refine ⟨k + 1, by omega, fun m => ?_⟩
      rw [drain_cons hd, ← hdrain m, Nat.add_right_comm, List.cons_append,
        drain_cons (s := s.withDue (w :: (ws ++ rest))) rfl]
      simp only [State.afterFirst, State.withDue_twice, State.withDue_due, List.append_assoc]

theorem load_le_of_weights {s : State} (hw : (s.due.map Work.weight).sum ≤ 100) : s.load ≤ 199 := by
  have := clearBits_le s.faults.word
  simp only [State.load]
  omega

/-- What a stage update owes: no completion, and little enough. -/
theorem stageUpdate_light {s : State} (hdue : s.due = []) (a : Acquisition) :
    NoCompletion (stageUpdate a s) ∧ (stageUpdate a s).load ≤ 199 := by
  have howes : (stageUpdate a s).due
      = readersOf s.orders (.batch (formedBatch a s)) (.sampleEntry a.sampleTime a.cause) := by
    rw [stageUpdate_eq]
    exact due_shown _ _ _ hdue
  obtain ⟨hnone, hsum, -, -⟩ := readersOf_light s.orders (formedBatch a s) a.sampleTime a.cause
  exact ⟨by rw [NoCompletion, howes]; exact hnone, load_le_of_weights (by rw [howes]; exact hsum)⟩

/-- A completion takes place, or not, and owes no other. -/
theorem complete_light {s : State} (hdue : s.due = []) : NoCompletion (complete s) ∧ (complete s).load ≤ 199 := by
  have hsame : NoCompletion s ∧ s.load ≤ 199 := ⟨.of_due_nil hdue, load_le_of_weights (by simp [hdue])⟩
  unfold complete
  cases s.schedule.acq with
  | none => exact hsame
  | some a =>
    dsimp only
    split
    · exact stageUpdate_light (s := s.withSchedule { s.schedule with acq := none }) hdue a
    · exact hsame

/-- A completion that is owed last takes place when all else has been done. -/
theorem settle_then_completion {s : State} (hn : NoCompletion s) (hw : (s.due.map Work.weight).sum ≤ 100) :
    settle (s.withDue (s.due ++ [.completion])) = settle (complete (settle s)) := by
  have hl := load_le_of_weights hw
  obtain ⟨k, hk, hdrain⟩ := drain_append [.completion] 199 hn hl
  obtain ⟨hend, hsame⟩ := drain_ends 199 hn hl
  have hsettle : settle s = drain 199 s := by
    rw [settle, hsame 400 (by decide), ← hend, State.withDue_same]
  rw [← hsettle] at hdrain hend
  generalize settle s = u at *
  obtain ⟨hn', hl'⟩ := complete_light hend
  have hone : drain (399 - k + 1) (u.withDue [.completion]) = drain (399 - k) (complete u) := by
    rw [drain_cons (s := u.withDue [.completion]) rfl, State.afterFirst, List.append_nil, State.withDue_same,
      State.withDue_twice, ← hend, State.withDue_same]
    rfl
  have hfuel := hdrain (399 - k + 1)
  rw [show k + (399 - k + 1) = 400 by omega, hone, (drain_ends 199 hn' hl').2 (399 - k) (by omega),
    ← (drain_ends 199 hn' hl').2 400 (by omega)] at hfuel
  unfold settle
  rw [hfuel]

/-- No participant is still to finish (R12). -/
theorem finished_iff (a : Acquisition) : a.finished = true ↔ ∀ c, a.still.get c = false := by
  simp only [Acquisition.finished, List.all_eq_true, Bool.not_eq_true']
  exact ⟨fun h c => h c (mem_allChans c), fun h c _ => h c⟩

theorem complete_waits {s : State} (h : ∀ a, s.schedule.acq = some a → ∃ c, a.still.get c = true) : complete s = s := by
  unfold complete
  cases hacq : s.schedule.acq with
  | none => rfl
  | some a =>
    obtain ⟨c, hc⟩ := h a hacq
    exact if_neg fun hf => Bool.noConfusion (((finished_iff a).1 hf c).symm.trans hc)

theorem complete_finished {s : State} {a : Acquisition} (hacq : s.schedule.acq = some a) (h : ∀ c, a.still.get c = false) :
    complete s = stageUpdate a (s.withSchedule { s.schedule with acq := none }) := by
  unfold complete
  rw [hacq]
  exact if_pos ((finished_iff a).2 h)

section
variable {s : State} (hdue : s.due = [.completion])

include hdue

theorem settle_completion : settle s = settle (complete (s.withDue [])) := by
  have howe : s = (s.withDue []).withDue ((s.withDue []).due ++ [.completion]) := by
    rw [State.withDue_due, List.nil_append, State.withDue_twice, ← hdue, State.withDue_same]
  have hthen := settle_then_completion (s := s.withDue []) (.of_due_nil rfl) (by simp)
  rw [← howe, settle_of_due_nil (s.withDue []) rfl] at hthen
  exact hthen

/-- A completion alone, which waits for a participant. -/
theorem settle_waits (h : ∀ a, s.schedule.acq = some a → ∃ c, a.still.get c = true) : settle s = s.withDue [] := by
  rw [settle_completion hdue, complete_waits (s := s.withDue []) h, settle_of_due_nil _ rfl]

/-- A completion alone, which no participant holds up (R12). -/
theorem settle_completes {a : Acquisition} (hacq : s.schedule.acq = some a) (h : ∀ c, a.still.get c = false) :
    StageUpdated a ((s.withDue []).withSchedule { s.schedule with acq := none }) (settle s) := by
  rw [settle_completion hdue, complete_finished (s := s.withDue []) hacq h]
  exact stageUpdated_settle (s := (s.withDue []).withSchedule { s.schedule with acq := none }) rfl a

end

/-! ### The start of an acquisition (R11) -/

/-- A sleeping channel is woken (R11 step 3). -/
def Channel.woken (x : Channel) (now : U32) : Channel := if x.state = .sleeping then x.warm now else x

/-- A channel that is ON begins its first pass (R11 step 4). -/
def Channel.begun (x : Channel) (now : U32) : Channel :=
  if x.state = .on then { x with burst := some { pass := .first, readings := [], slotEnds := after now 100 } } else x

/-- Nothing but the schedule, the channels and the ranging sensor differs. -/
def OnlySampling (s t : State) : Prop := ∃ x y z, t = ((s.withSchedule x).withChans y).withRanging z

section
variable {s t : State}

theorem OnlySampling.refl (s : State) : OnlySampling s s :=
  ⟨s.schedule, s.chans, s.ranging, by simp⟩

theorem OnlySampling.trans {u : State} (h : OnlySampling s t) (h' : OnlySampling t u) : OnlySampling s u := by
  obtain ⟨x, y, z, rfl⟩ := h
  obtain ⟨x', y', z', rfl⟩ := h'
  exact ⟨x', y', z', rfl⟩

theorem onlySampling_setPreWarm (c : Chan) (b : Bool) (s : State) : OnlySampling s (setPreWarm c b s) :=
  ⟨{ s.schedule with preWarm := s.schedule.preWarm.set c b }, s.chans, s.ranging, rfl⟩

theorem onlySampling_setChan (c : Chan) (x : Channel) (s : State) : OnlySampling s (setChan c x s) :=
  ⟨s.schedule, s.chans.set c x, s.ranging, rfl⟩

theorem onlySampling_startSlot (c : Chan) (s : State) : OnlySampling s (startSlot c s) := by
  obtain ⟨x, hx⟩ := startSlot_only c s
  exact ⟨s.schedule, s.chans, x, by rw [hx]; rfl⟩

theorem takeIn_awaited {c : Chan} (h : awaited c s = true) : takeIn s c
    = burstIfAwaited c (setChan c ((chan c s).woken s.time.elapsed) (setPreWarm c false s)) := by
  unfold takeIn Channel.woken
  rw [if_pos h]
  dsimp only
  rw [chan_setPreWarm]
  split
  · rfl
  · rw [← chan_setPreWarm c c false s, setChan_chan]

theorem onlySampling_takeIn (s : State) (c : Chan) : OnlySampling s (takeIn s c) := by
  cases h : awaited c s with
  | false =>
    unfold takeIn
    rw [h]
    exact .refl s
  | true =>
    rw [takeIn_awaited h]
    have hmade := (onlySampling_setPreWarm c false s).trans
      (onlySampling_setChan c ((chan c s).woken s.time.elapsed) _)
    unfold burstIfAwaited
    split
    · exact hmade.trans ((onlySampling_setChan c _ _).trans (onlySampling_startSlot c _))
    · exact hmade

/-- What each channel's turn shows of it, and of the ranging sensor on CH3's. -/
def samplingView (c : Chan) (s : State) : (Channel × Bool) × RangingLine :=
  (chanView c s, if c = .ch3 then s.ranging else { requests := 0, reply := none })

/-- What an acquisition makes of a participant. -/
def taken (now : U32) (c : Chan) (v : (Channel × Bool) × RangingLine) : (Channel × Bool) × RangingLine :=
  (((v.1.1.woken now).begun now, false),
    if c = .ch3 ∧ (v.1.1.woken now).state = .on then { requests := v.2.requests + 1, reply := none } else v.2)

theorem burstIfAwaited_view {c : Chan} {x : Channel} (hmark : s.schedule.preWarm.get c = false)
    (ha : awaited c s = true) : samplingView c (burstIfAwaited c (setChan c x s))
      = ((x.begun s.time.elapsed, false),
          if c = .ch3 ∧ x.state = .on then { requests := s.ranging.requests + 1, reply := none }
          else (samplingView c s).2) := by
  have hchan : chan c (setChan c x s) = x := chan_setChan_same c x s
  unfold burstIfAwaited Channel.begun
  rw [hchan]
  by_cases hon : x.state = .on
  · rw [if_pos ⟨hon, ha⟩, if_pos hon]
    cases c <;> simp [samplingView, chanView, startPass, startSlot, setChan, chan, hon, hmark]
  · rw [if_neg fun h => hon h.1, if_neg hon, if_neg fun h => hon h.2]
    simp only [samplingView, chanView, hchan, Prod.mk.injEq, true_and]
    exact ⟨hmark, rfl⟩

theorem burstIfAwaited_view_other {c k : Chan} (hk : k ≠ c) (s : State) :
    samplingView k (burstIfAwaited c s) = samplingView k s := by
  unfold burstIfAwaited
  split
  · cases c <;> cases k <;>
      simp [samplingView, chanView, startPass, startSlot, setChan, chan, PerChan.get, PerChan.set] at hk ⊢
  · rfl

theorem takeIn_view (c : Chan) (s : State) : samplingView c (takeIn s c)
    = if awaited c s then taken s.time.elapsed c (samplingView c s) else samplingView c s := by
  cases h : awaited c s with
  | false =>
    unfold takeIn
    rw [h]
    rfl
  | true =>
    have hmark : (setPreWarm c false s).schedule.preWarm.get c = false := by simp [setPreWarm]
    rw [takeIn_awaited h, burstIfAwaited_view hmark (by exact h), if_pos rfl]
    unfold taken
    cases c <;> rfl

theorem takeIn_view_other {c k : Chan} (hk : k ≠ c) (s : State) : samplingView k (takeIn s c) = samplingView k s := by
  cases h : awaited c s with
  | false =>
    unfold takeIn
    rw [h]
    rfl
  | true =>
    rw [takeIn_awaited h, burstIfAwaited_view_other hk]
    simp only [samplingView, chanView, chan_setChan_other hk, chan_setPreWarm]
    simp [setChan, setPreWarm, PerChan.get_set_other _ hk]

theorem awaited_congr (h : s.schedule.acq = t.schedule.acq) (c : Chan) : awaited c s = awaited c t := by
  unfold awaited
  rw [h]

theorem scheduleView_takeIn (s : State) (c : Chan) : scheduleView (takeIn s c) = scheduleView s := by
  cases h : awaited c s with
  | false =>
    unfold takeIn
    rw [h]
    rfl
  | true =>
    rw [takeIn_awaited h]
    unfold burstIfAwaited
    split
    · obtain ⟨x, hx⟩ := startSlot_only c (setChan c _ (setChan c ((chan c s).woken s.time.elapsed) (setPreWarm c false s)))
      rw [startPass, hx]
      rfl
    · rfl

/-- What taking in all channels makes of each. -/
theorem foldl_takeIn (s : State) :
    scheduleView (allChans.foldl takeIn s) = scheduleView s
      ∧ (∀ c, samplingView c (allChans.foldl takeIn s)
        = if awaited c s then taken s.time.elapsed c (samplingView c s) else samplingView c s)
      ∧ OnlySampling s (allChans.foldl takeIn s) := by
  obtain ⟨henv, hview⟩ := foldl_local (f := takeIn) (view := samplingView) (env := fun s => (scheduleView s, fun c => awaited c s))
    (h := fun c v x => if v.2 c then taken v.1.2.elapsed c x else x)
    (fun s c => by
      have hsame := scheduleView_takeIn s c
      have hacq : (takeIn s c).schedule.acq = s.schedule.acq := (congrArg (fun v => v.1.acq) hsame :)
      exact Prod.ext hsame (funext fun k => awaited_congr hacq k))
    (fun s c => takeIn_view c s) (fun s c k hk => takeIn_view_other hk s) allChans s allChans_nodup
  refine ⟨congrArg Prod.fst henv, fun c => by rw [hview, if_pos (mem_allChans c)]; rfl, ?_⟩
  generalize allChans = cs
  clear henv hview
  induction cs generalizing s with
  | nil => exact .refl s
  | cons c cs ih => exact (onlySampling_takeIn s c).trans (ih _)

end

/-- The acquisition that starts in `s` (R11). -/
def startedAcquisition (sampleTime : U32) (cause : Cause) (s : State) : Acquisition :=
  { sampleTime := sampleTime, cause := cause, participants := s.chans.map fun _ x => participates x
    still := s.chans.map fun _ x => participates x, handed := .all none }

theorem startAcquisition_eq (sampleTime : U32) (cause : Cause) (s : State) : startAcquisition sampleTime cause s
    = allChans.foldl takeIn
        (s.withSchedule { s.schedule with acq := some (startedAcquisition sampleTime cause s) }) := rfl

theorem still_started (sampleTime : U32) (cause : Cause) (s : State) (c : Chan) :
    (startedAcquisition sampleTime cause s).still.get c = true ↔ InService (chan c s) := by
  unfold startedAcquisition InService
  rw [PerChan.get_map]
  simp [participates, chan]

/-- Schedules that differ in the pre-warm set and the acquisition alone. -/
theorem schedule_eq_of_view {x y : Schedule} {acq : Option Acquisition}
    (h : { x with preWarm := .all false } = { { y with acq := acq } with preWarm := .all false }) :
    x = { y with acq := x.acq, preWarm := x.preWarm } := by
  cases x; cases y
  cases h
  rfl

/-- What R11 makes of the part. -/
theorem acquisitionStarted_start (sampleTime : U32) (cause : Cause) (s : State) :
    AcquisitionStarted sampleTime cause s (startAcquisition sampleTime cause s) := by
  rw [startAcquisition_eq]
  have hstill := still_started sampleTime cause s
  generalize ha : startedAcquisition sampleTime cause s = a at *
  have hparts : a.participants = a.still := by rw [← ha]; rfl
  have htime : a.sampleTime = sampleTime ∧ a.cause = cause ∧ a.handed = .all none := by rw [← ha]; exact ⟨rfl, rfl, rfl⟩
  obtain ⟨hschedule, hview, honly⟩ := foldl_takeIn (s.withSchedule { s.schedule with acq := some a })
  generalize allChans.foldl takeIn (s.withSchedule { s.schedule with acq := some a }) = t at *
  have hawaited : ∀ c, awaited c (s.withSchedule { s.schedule with acq := some a }) = a.still.get c := fun c => rfl
  have hsame : ∀ c, samplingView c (s.withSchedule { s.schedule with acq := some a }) = samplingView c s := fun c => rfl
  simp only [hawaited, hsame, State.withSchedule_time] at hview
  have hacq : t.schedule.acq = some a := (congrArg (fun v => v.1.acq) hschedule :)
  have hin : ∀ c, InService (chan c s) → samplingView c t = taken s.time.elapsed c (samplingView c s) := fun c hc => by
    rw [hview c, if_pos ((hstill c).2 hc)]
  have hout : ∀ c, ¬InService (chan c s) → samplingView c t = samplingView c s := fun c hc => by
    rw [hview c, if_neg (mt (hstill c).1 hc)]
  have hwoken : ∀ x : Channel, x.woken s.time.elapsed = if x.state = .sleeping then
      (if [0, 100, 500, 2000, 5000, 10000].getD x.config.warmUp 0 = 0 then { x with state := .on, warmUntil := none }
       else { x with
        state := .warming
        warmUntil := some (s.time.elapsed
          + BitVec.ofNat 32 ([0, 100, 500, 2000, 5000, 10000].getD x.config.warmUp 0)) })
      else x := fun x => by
    unfold Channel.woken
    rw [Channel.warm_eq]
    split
    · split <;> simp_all
    · rfl
  unfold AcquisitionStarted
  intro now woken begun
  have hwoken' : ∀ x, x.woken s.time.elapsed = woken x := hwoken
  clear_value woken
  have hturn : InService (chan .ch3 s) → t.ranging
      = if (Chan.ch3 = .ch3 ∧ (woken (chan .ch3 s)).state = .on) then { requests := s.ranging.requests + 1, reply := none }
        else s.ranging := fun hc => by
    rw [← hwoken']
    exact congrArg Prod.snd (hin .ch3 hc)
  have hhanded : ∀ c, a.handed.get c = none := fun c => by rw [htime.2.2]; cases c <;> rfl
  refine ⟨⟨a, hacq, htime.1, htime.2.1, fun c => ⟨hparts ▸ hstill c, by rw [hparts], hhanded c⟩⟩,
    ⟨t.schedule.preWarm, ?_, fun c => ⟨fun hc => ?_, fun hc => ?_⟩⟩, fun c => ⟨fun hc => ?_, fun hc => ?_⟩,
    fun hc hon => ?_, fun hc => ?_, ?_⟩
  · have hfields := congrArg Prod.fst hschedule
    exact schedule_eq_of_view hfields
  · exact congrArg (fun v => v.1.2) (hin c hc)
  · exact congrArg (fun v => v.1.2) (hout c hc)
  · have := congrArg (fun v => v.1.1) (hin c hc)
    rw [← hwoken']
    exact this
  · exact congrArg (fun v => v.1.1) (hout c hc)
  · exact (hturn hc).trans (if_pos ⟨rfl, hon⟩)
  · by_cases hservice : InService (chan .ch3 s)
    · exact (hturn hservice).trans (if_neg fun h => hc ⟨hservice, h.2⟩)
    · exact congrArg Prod.snd (hout .ch3 hservice)
  · obtain ⟨x, y, z, rfl⟩ := honly
    exact ⟨x, y, z, rfl⟩

end Sys2Proof.Machine

/-! Acquisitions from their start: FORCE_SAMPLE, and the due instants of station time. -/

namespace Sys2Proof.Machine

/-! ### An acquisition without a channel in service (R12) -/

theorem OnlySampling.due {s t : State} (h : OnlySampling s t) : t.due = s.due := by
  obtain ⟨x, y, z, rfl⟩ := h
  rfl

theorem onlySampling_start (sampleTime : U32) (cause : Cause) (s : State) :
    OnlySampling s (startAcquisition sampleTime cause s) := by
  obtain ⟨-, -, -, -, -, x, y, z, h⟩ := acquisitionStarted_start sampleTime cause s
  exact ⟨x, y, z, h⟩

section
variable {s : State} (hnone : ∀ c, ¬InService (chan c s))

include hnone

theorem startedAcquisition_empty (sampleTime : U32) (cause : Cause) :
    startedAcquisition sampleTime cause s = emptyAcquisition sampleTime cause := by
  have hwho : (s.chans.map fun _ x => participates x) = .all false := by
    have hget : ∀ c, participates (chan c s) = false := fun c => by
      have := mt (still_started sampleTime cause s c).1 (hnone c)
      rw [startedAcquisition, PerChan.get_map] at this
      exact Bool.eq_false_iff.2 this
    have h0 := hget .ch0
    have h1 := hget .ch1
    have h2 := hget .ch2
    have h3 := hget .ch3
    simp only [chan, PerChan.get] at h0 h1 h2 h3
    simp only [PerChan.map, PerChan.all, h0, h1, h2, h3]
  unfold startedAcquisition emptyAcquisition
  rw [hwho]

/-- It takes nothing in. -/
theorem startAcquisition_empty (sampleTime : U32) (cause : Cause) : startAcquisition sampleTime cause s
    = s.withSchedule { s.schedule with acq := some (emptyAcquisition sampleTime cause) } := by
  rw [startAcquisition_eq, startedAcquisition_empty hnone]
  refine List.foldl_fixed' (fun c => ?_) _
  have hawaited : awaited c (s.withSchedule { s.schedule with acq := some (emptyAcquisition sampleTime cause) }) = false := by
    cases c <;> rfl
  unfold takeIn
  rw [if_neg (by rw [hawaited]; exact Bool.false_ne_true)]

end

theorem schedule_acq_none {x : Schedule} (h : x.acq = none) : { x with acq := none } = x := by
  rw [← h]

theorem due_owe_completion {s : State} (hdue : s.due = []) : (s.owe [.completion]).due = [.completion] := by
  rw [State.owe, State.withDue_due, hdue, List.nil_append]

theorem withDue_owe {s : State} (hdue : s.due = []) (ws : List Work) : (s.owe ws).withDue [] = s := by
  rw [State.owe, State.withDue_twice, ← hdue, State.withDue_same]

/-- The empty acquisition ends with its start, and its stage update is made on the part as it was. -/
theorem settle_empty {s : State} {a : Acquisition} (ha : ∀ c, a.still.get c = false) (hacq : s.schedule.acq = none)
    (hdue : s.due = []) :
    StageUpdated a s (settle ((s.withSchedule { s.schedule with acq := some a }).owe [.completion])) := by
  generalize ht : s.withSchedule { s.schedule with acq := some a } = t
  have htdue : t.due = [] := by rw [← ht]; exact hdue
  have hdone := settle_completes (s := t.owe [.completion]) (due_owe_completion htdue) (a := a) (by rw [← ht]; rfl) ha
  have hsame : ((t.owe [.completion]).withDue []).withSchedule { (t.owe [.completion]).schedule with acq := none } = s := by
    rw [withDue_owe htdue, ← ht]
    show s.withSchedule { s.schedule with acq := none } = s
    rw [schedule_acq_none hacq, State.withSchedule_same]
  rwa [hsame] at hdone

/-- An acquisition that has started waits for a channel in service (R12). -/
theorem settle_started {sampleTime : U32} {cause : Cause} {s t : State} (h : AcquisitionStarted sampleTime cause s t)
    (hsome : ∃ c, InService (chan c s)) (hdue : t.due = []) : settle (t.owe [.completion]) = t := by
  rw [settle_waits (due_owe_completion hdue), withDue_owe hdue]
  show ∀ a, t.schedule.acq = some a → ∃ c, a.still.get c = true
  obtain ⟨⟨a, ha, -, -, hwho⟩, -⟩ := h
  intro b hb
  obtain rfl := Option.some.inj (ha.symm.trans hb)
  obtain ⟨c, hc⟩ := hsome
  exact ⟨c, (hwho c).2.1.trans ((hwho c).1.2 hc)⟩

theorem exec_forceSample (s : State) : exec (.forceSample .logger) s = execForceSample .logger s := rfl

/-- Settles O20: an acquisition that is joined, that starts, and that completes with its start. -/
theorem forceSampleStartsOrJoins : Obligations.ForceSampleStartsOrJoins := by
  unfold Obligations.ForceSampleStartsOrJoins
  intro s hj
  have hdue : s.due = [] := hj.2.2
  refine ⟨fun hacq => ?joins, fun hacq hsome => ?starts, fun hacq hnone => ?ends⟩
  case joins =>
    obtain ⟨a, ha⟩ := Option.isSome_iff_exists.1 hacq
    refine gives_of_work hj (exec_forceSample ..) ?_
    rw [ha] <;> rfl
  case starts =>
    have hstarted := acquisitionStarted_start s.time.station .forced s
    have hsettle := settle_started hstarted hsome ((onlySampling_start s.time.station .forced s).due.trans hdue)
    refine ⟨startAcquisition s.time.station .forced s, gives_of_work hj (exec_forceSample ..) ?_, hstarted⟩
    rw [hacq, hsettle] <;> rfl
  case ends =>
    refine ⟨_, gives_of_work hj (exec_forceSample ..) ?_, settle_empty (a := emptyAcquisition s.time.station .forced)
      (fun c => by cases c <;> rfl) hacq hdue⟩
    rw [hacq, ← startAcquisition_empty hnone] <;> rfl

/-! ### The due instants of station time (R8, R9, R11) -/

theorem revisePreWarm_withDue (s : State) (c : Chan) (ws : List Work) :
    revisePreWarm (s.withDue ws) c = (revisePreWarm s c).withDue ws := by
  unfold revisePreWarm
  split
  case isTrue h => rw [if_pos (by exact h)]; rfl
  case isFalse h => rw [if_neg (by exact h)]

theorem placeDue_owe (s : State) (ws : List Work) : placeDue (s.owe ws) = (placeDue s).owe ws := by
  have hfold : ∀ (cs : List Chan) (t : State) (ws : List Work),
      cs.foldl revisePreWarm (t.withDue ws) = (cs.foldl revisePreWarm t).withDue ws := by
    intro cs
    induction cs with
    | nil => intro t ws; rfl
    | cons c cs ih =>
      intro t ws
      rw [List.foldl_cons, revisePreWarm_withDue, ih, List.foldl_cons]
  have hdue := due_placeDue s
  unfold placeDue at hdue ⊢
  rw [State.owe, State.owe, hdue]
  exact hfold allChans
    (s.withSchedule { s.schedule with nextDue := nextMultiple s.schedule.interval s.time.station }) (s.due ++ ws)

/-- With no channel in the pre-warm set, the next due instant is placed and nothing else. -/
theorem placeDue_unmarked {s : State} (h : ∀ c, s.schedule.preWarm.get c = false) : placeDue s
    = s.withSchedule { s.schedule with nextDue := nextMultiple s.schedule.interval s.time.station } := by
  unfold placeDue
  refine List.foldl_fixed' (fun c => ?_) _
  unfold revisePreWarm
  rw [State.withSchedule_schedule, h c]
  rfl

/-- The time after a count of station time (R1). -/
def TimeBase.counted (x : TimeBase) : TimeBase :=
  { station := x.station + 1, elapsed := if ahead x.nextCount x.elapsed then x.nextCount else x.elapsed
    nextCount := x.nextCount + 1000#32 }

theorem countTime_eq (s : State) : countTime s
    = if (s.time.station + 1).toNat % s.schedule.interval = 0 then dueInstant (s.withTime s.time.counted)
      else s.withTime s.time.counted := by
  unfold countTime
  rw [reach_eq] <;> rfl

/-- What a due instant that is not taken makes of one channel (R11). -/
def passedOver (participates : Bool) (v : Channel × Bool) : Channel × Bool :=
  if v.2 && !participates then (v.1.unpower .sleeping, false) else v

theorem passOverChannel_eq {s : State} {a : Acquisition} (ha : s.schedule.acq = some a) (c : Chan) : passOverChannel s c
    = if s.schedule.preWarm.get c && !a.participants.get c then
        setPreWarm c false (setChan c ((chan c s).unpower .sleeping) s)
      else s := by
  unfold passOverChannel
  rw [ha]

/-- Nothing but the schedule and the channels differs. -/
def OnlyPreWarm (s t : State) : Prop := ∃ x y, t = (s.withSchedule x).withChans y

theorem onlyPreWarm_passOver (s : State) (c : Chan) : OnlyPreWarm s (passOverChannel s c) := by
  have hsame : OnlyPreWarm s s := ⟨s.schedule, s.chans, by simp⟩
  unfold passOverChannel
  split
  · exact hsame
  · split
    · exact ⟨_, _, rfl⟩
    · exact hsame

/-- What a due instant that is not taken makes of every channel. -/
theorem foldl_passOverChannel {s : State} {a : Acquisition} (ha : s.schedule.acq = some a) :
    scheduleView (allChans.foldl passOverChannel s) = scheduleView s
      ∧ (∀ c, chanView c (allChans.foldl passOverChannel s) = passedOver (a.participants.get c) (chanView c s))
      ∧ OnlyPreWarm s (allChans.foldl passOverChannel s) := by
  obtain ⟨henv, hview⟩ := foldl_local (f := passOverChannel) (view := chanView) (env := scheduleView)
    (h := fun c v x => match v.1.acq with
      | some a => passedOver (a.participants.get c) x
      | none => x)
    (fun s c => by
      unfold passOverChannel
      split
      · rfl
      · split <;> rfl)
    (fun s c => by
      show _ = match s.schedule.acq with
        | some a => passedOver (a.participants.get c) (chanView c s)
        | none => chanView c s
      cases hs : s.schedule.acq with
      | none =>
        unfold passOverChannel
        rw [hs]
      | some b =>
        rw [passOverChannel_eq hs]
        dsimp only
        unfold passedOver
        split
        case isTrue h => rw [chanView_mark, if_pos (by exact h)]; rfl
        case isFalse h => rw [if_neg (by exact h)])
    (fun s c k hk => by
      unfold passOverChannel
      split
      · rfl
      · split
        · exact chanView_mark_other hk _ s
        · rfl)
    allChans s allChans_nodup
  refine ⟨henv, fun c => ?_, ?_⟩
  · rw [hview, if_pos (mem_allChans c)]
    show (match s.schedule.acq with
      | some a => passedOver (a.participants.get c) (chanView c s)
      | none => chanView c s) = _
    rw [ha]
  · generalize allChans = cs
    clear ha henv hview
    induction cs generalizing s with
    | nil => exact ⟨s.schedule, s.chans, by simp⟩
    | cons c cs ih =>
      obtain ⟨x, y, h⟩ := onlyPreWarm_passOver s c
      obtain ⟨x', y', h'⟩ := ih (s := passOverChannel s c)
      exact ⟨x', y', by rw [List.foldl_cons, h', h]; rfl⟩

/-- The next due instant placed on the part as it stands. -/
def State.withNextDue (s : State) : State :=
  s.withSchedule { s.schedule with nextDue := nextMultiple s.schedule.interval s.time.station }

/-- With no acquisition in flight and none of the channels out of service in the pre-warm set, a due instant starts
one (R11). -/
theorem dueInstant_started {s : State} (hacq : s.schedule.acq = none) (hmarks : ∀ c, ¬InService (chan c s) → s.schedule.preWarm.get c = false)
    {cause : Cause} (hcause : (match s.schedule.mode with
      | .normal => Cause.normal
      | .fast => Cause.fast) = cause) : ∃ t, dueInstant s = t.owe [.completion]
      ∧ AcquisitionStarted s.time.station cause s.withNextDue t
      ∧ ((∀ c, ¬InService (chan c s)) → t = s.withNextDue.withSchedule
          { s.withNextDue.schedule with acq := some (emptyAcquisition s.time.station cause) }) := by
  have hdue : dueInstant s = placeDue ((startAcquisition s.time.station cause s).owe [.completion]) := by
    unfold dueInstant
    rw [hacq, ← hcause] <;> rfl
  have hstarted := acquisitionStarted_start s.time.station cause s
  have hempty : (∀ c, ¬InService (chan c s)) → _ := fun h => startAcquisition_empty h s.time.station cause
  rw [hdue, placeDue_owe]
  generalize startAcquisition s.time.station cause s = u at *
  obtain ⟨hacq', ⟨preWarm, hschedule, hpre⟩, hchans, hranging, hranging', x, y, z, hframe⟩ := hstarted
  have hunmarked : ∀ c, u.schedule.preWarm.get c = false := fun c => by
    rw [hschedule]
    by_cases hc : InService (chan c s)
    · exact (hpre c).1 hc
    · exact ((hpre c).2 hc).trans (hmarks c hc)
  have htime : u.time = s.time := by rw [hframe]; rfl
  have hplaced : placeDue u
      = u.withSchedule { u.schedule with nextDue := nextMultiple s.schedule.interval s.time.station } := by
    rw [placeDue_unmarked hunmarked, htime, hschedule] <;> rfl
  refine ⟨_, rfl, ?_, fun h => ?_⟩
  · rw [hplaced]
    refine ⟨hacq', ⟨preWarm, ?_, hpre⟩, hchans, hranging, hranging', ?_⟩
    · rw [State.withSchedule_schedule, hschedule] <;> rfl
    · rw [hframe]
      exact ⟨_, _, _, rfl⟩
  · rw [hplaced, hempty h] <;> rfl

theorem schedule_eq_of_unmarked {x y : Schedule} (h : { x with preWarm := .all false } = { y with preWarm := .all false }) :
    x = { y with preWarm := x.preWarm } := by
  cases x; cases y
  cases h
  rfl

/-- A channel of the pre-warm set goes back to SLEEPING where it is no participant or its new point lies ahead. -/
theorem revised_passedOver {v : Schedule × TimeBase} {participates : Bool} {before after : Channel × Bool}
    (h : after = revised v (passedOver participates before)) :
    let back := participates = false ∨ ahead (preWarmPoint v after.1) v.2.elapsed = true
    (before.2 = true → back → after = (before.1.unpower .sleeping, false))
    ∧ (¬(before.2 = true ∧ back) → after = before) := by
  obtain ⟨x, mark⟩ := before
  subst h
  have hpoint : preWarmPoint v (x.unpower .sleeping) = preWarmPoint v x := rfl
  cases mark with
  | false => exact ⟨fun h => absurd h Bool.false_ne_true, fun _ => rfl⟩
  | true =>
    cases participates with
    | false => exact ⟨fun _ _ => rfl, fun h => absurd ⟨rfl, .inl rfl⟩ h⟩
    | true =>
      cases hahead : ahead (preWarmPoint v x) v.2.elapsed <;> simp [revised, passedOver, hpoint, hahead]

theorem scheduleView_withNextDue (s : State) : scheduleView s.withNextDue
    = ({ (scheduleView s).1 with nextDue := nextMultiple (scheduleView s).1.interval (scheduleView s).2.station },
      (scheduleView s).2) := rfl

/-- A due instant with an acquisition in flight (R10, R11): each channel's turn, and the next due instant. -/
theorem dueInstant_passed {s : State} {a : Acquisition} (ha : s.schedule.acq = some a) :
    scheduleView (dueInstant s) = scheduleView s.withNextDue
      ∧ (∀ c, chanView c (dueInstant s)
        = revised (scheduleView (dueInstant s)) (passedOver (a.participants.get c) (chanView c s)))
      ∧ OnlyPreWarm s (dueInstant s) := by
  have hdue : dueInstant s = placeDue (allChans.foldl passOverChannel s) := by
    unfold dueInstant
    rw [ha]
  obtain ⟨hpassed, hview, x, y, hframe⟩ := foldl_passOverChannel ha
  rw [hdue]
  generalize allChans.foldl passOverChannel s = p at *
  obtain ⟨hplaced, hrevised⟩ := foldl_revisePreWarm p.withNextDue
  have hsame : placeDue p = allChans.foldl revisePreWarm p.withNextDue := rfl
  have hschedule : scheduleView p.withNextDue = scheduleView s.withNextDue := by
    rw [scheduleView_withNextDue, hpassed] <;> rfl
  refine ⟨hplaced.trans hschedule, fun c => ?_, ?_⟩
  · rw [hsame, hrevised, hplaced, ← hview c] <;> rfl
  · obtain ⟨x', y', h⟩ := placeDue_only p
    rw [h, hframe]
    exact ⟨x', y', rfl⟩

theorem exec_stationTimeCount (s : State) : exec .stationTimeCount s = execStationTimeCount s := rfl

theorem execStationTimeCount_runs {s : State} (h : s.held = none) :
    exec .stationTimeCount s = .next (settle (countTime s)) := by
  rw [exec_stationTimeCount, execStationTimeCount, h] <;> rfl

/-- Settles O21: a second of station time, and what a due instant makes of an acquisition in flight or of none. -/
theorem stationTimeCounts : Obligations.StationTimeCounts := by
  unfold Obligations.StationTimeCounts
  intro s time due placed cause
  refine ⟨fun hruns hno => ?nothing, fun hruns hdue hacq hsound => ?taken, fun hruns hdue a ha => ?passed, fun hheld => ?held⟩
  case nothing =>
    rw [execStationTimeCount_runs hruns.1, countTime_eq, if_neg hno, settle_of_due_nil _ (by exact hruns.2)]
    rfl
  case taken =>
    have hmarks : ∀ c, ¬InService (chan c s) → s.schedule.preWarm.get c = false := fun c hc =>
      Bool.eq_false_iff.2 fun hmark => hc (by rcases hsound c hmark with h | h <;> rw [InService, h] <;> simp)
    obtain ⟨t, ht, hstarted, hempty⟩ := dueInstant_started (s := s.withTime time) (cause := cause) hacq hmarks rfl
    have hcount : countTime s = t.owe [.completion] := by
      rw [countTime_eq, if_pos hdue]
      exact ht
    have htdue : t.due = [] := by
      obtain ⟨-, -, -, -, -, x, y, z, h⟩ := hstarted
      rw [h]
      exact hruns.2
    rw [execStationTimeCount_runs hruns.1, hcount]
    refine ⟨fun hsome => ⟨t, ?_, hstarted⟩, fun hnone => ⟨_, rfl, ?_⟩⟩
    · rw [settle_started hstarted hsome htdue]
    · rw [hempty hnone]
      exact settle_empty (s := placed) (a := emptyAcquisition (s.time.station + 1) cause) (fun c => by cases c <;> rfl)
        hacq hruns.2
  case passed =>
    have hcount : countTime s = dueInstant (s.withTime time) := by
      rw [countTime_eq, if_pos hdue]
      rfl
    obtain ⟨hschedule, hview, x, y, hframe⟩ := dueInstant_passed (s := s.withTime time) ha
    rw [execStationTimeCount_runs hruns.1, hcount]
    generalize dueInstant (s.withTime time) = t at *
    have htdue : t.due = [] := by
      rw [hframe]
      exact hruns.2
    have htime : t.time = time := by rw [hframe]; rfl
    refine ⟨t, by rw [settle_of_due_nil _ htdue], htime, ⟨t.schedule.preWarm, ?_⟩, ⟨x, y, hframe⟩, fun c => ?_⟩
    · exact schedule_eq_of_unmarked (congrArg Prod.fst hschedule)
    · intro slept stands back
      obtain ⟨hslept, hstands⟩ := revised_passedOver (hview c)
      refine ⟨fun hmark hback => ?_, fun hno => ?_⟩
      · have hseen := hslept hmark hback
        exact ⟨congrArg Prod.fst hseen, congrArg Prod.snd hseen⟩
      · have hseen := hstands hno
        exact ⟨congrArg Prod.fst hseen, congrArg Prod.snd hseen⟩
  case held =>
    rw [exec_stationTimeCount, execStationTimeCount, if_pos (Option.isSome_iff_ne_none.2 hheld)]

end Sys2Proof.Machine

/-! Channels that leave service (R24) and the acquisition they leave. -/

namespace Sys2Proof.Machine

theorem parked_shown {c : Chan} {x : Channel} {s : State} (h : Parked c x s) (u : StageUnit) (r : Rating) (ws : List Work) :
    Parked c x (raiseEvent .sample ((shown u r s).owe ws)) := h

/-- A completion leaves a channel that is out of the pre-warm set as it is. -/
theorem settle_completes_parked {c : Chan} {x : Channel} {s : State} {a : Acquisition} (hdue : s.due = [.completion])
    (hacq : s.schedule.acq = some a) (h : ∀ c, a.still.get c = false) (hp : Parked c x s) : Parked c x (settle s) := by
  rw [settle_completion hdue, complete_finished (s := s.withDue []) hacq h]
  have hp' : Parked c x ((s.withDue []).withSchedule { s.schedule with acq := none }) := hp
  have hlight := stageUpdate_light (s := (s.withDue []).withSchedule { s.schedule with acq := none }) rfl a
  refine (scheduleWord_parked c x).settle ?_ hlight.1
  rw [stageUpdate_eq]
  exact parked_shown hp' _ _ _

/-- An acquisition without channel `c` (R24, R36). -/
def Acquisition.without (a : Acquisition) (c : Chan) : Acquisition :=
  { a with still := a.still.set c false, handed := a.handed.set c none }

theorem leaveAcquisition_none {c : Chan} {s : State} (h : s.schedule.acq = none) : leaveAcquisition c s = s := by
  unfold leaveAcquisition
  rw [h]

theorem leaveAcquisition_some {c : Chan} {s : State} {a : Acquisition} (h : s.schedule.acq = some a) :
    leaveAcquisition c s
      = if a.still.get c then (s.withSchedule { s.schedule with acq := some (a.without c) }).owe [.completion]
        else s.withSchedule { s.schedule with acq := some (a.without c) } := by
  unfold leaveAcquisition
  rw [h] <;> rfl

/-- The part after channel `c` has gone to DISABLED, but for the acquisition in flight (R24, R34). -/
def channelDisabled (c : Chan) (s : State) : State :=
  ((setChan c { chan c s with state := .disabled, warmUntil := none, burst := none, missing := 0 } s).withSchedule
    { s.schedule with preWarm := s.schedule.preWarm.set c false }).withStage
    (if s.stage.check = some c then { s.stage with check := none, disagreeCount := 0, lastDiff := none } else s.stage)

theorem disableChannel_eq (c : Chan) (s : State) : disableChannel c s = leaveAcquisition c (channelDisabled c s) := by
  unfold disableChannel channelDisabled
  dsimp only
  have hstage : (setPreWarm c false (setChan c { (chan c s).unpower .disabled with missing := 0 } s)).stage = s.stage := rfl
  rw [hstage]
  split
  · rfl
  · exact congrArg (leaveAcquisition c) (State.withStage_same
      (setPreWarm c false (setChan c { (chan c s).unpower .disabled with missing := 0 } s))).symm

theorem parked_channelDisabled (c : Chan) (s : State) :
    Parked c { chan c s with state := .disabled, warmUntil := none, burst := none, missing := 0 } (channelDisabled c s) :=
  chanView_mark c _ s

theorem exec_disableChannel (ch : Byte) (s : State) :
    exec (.disableChannel .logger ch) s = execDisableChannel .logger ch s := rfl

/-- What is said of every DISABLED channel: it is out of service, out of the pre-warm set, and awaited by nothing. -/
structure OutOfService (c : Chan) (s u : State) : Prop where
  chan : chan c u = { Machine.chan c s with state := .disabled, warmUntil := none, burst := none, missing := 0 }
  preWarm : u.schedule.preWarm.get c = false
  awaited : Machine.awaited c u = false
  check : u.stage.check ≠ some c
  primary : u.stage.primary = s.stage.primary
  encoder : u.encoder = s.encoder
  time : u.time = s.time
  table : u.rating.table = s.rating.table
  run : u.run.number = s.run.number

section
variable {c : Chan} {s : State}

theorem channelDisabled_check : (channelDisabled c s).stage.check ≠ some c := by
  unfold channelDisabled
  rw [State.withStage_stage]
  split
  · simp
  · assumption

theorem channelDisabled_primary : (channelDisabled c s).stage.primary = s.stage.primary := by
  unfold channelDisabled
  rw [State.withStage_stage]
  split <;> rfl

/-- A channel that leaves an acquisition, which goes on or was never in flight. -/
theorem outOfService_left {acq : Option Acquisition} (h : ∀ a, acq = some a → a.still.get c = false) :
    OutOfService c s ((channelDisabled c s).withSchedule { (channelDisabled c s).schedule with acq := acq }) := by
  obtain ⟨hchan, hmark⟩ := Prod.mk.inj (parked_channelDisabled c s)
  refine ⟨hchan, hmark, ?_, channelDisabled_check, channelDisabled_primary, rfl, rfl, rfl, rfl⟩
  cases acq with
  | none => rfl
  | some a => exact h a rfl

/-- A channel that leaves an acquisition as the last one awaited. -/
theorem outOfService_updated {a : Acquisition} {u : State}
    (hparked : Parked c { Machine.chan c s with state := .disabled, warmUntil := none, burst := none, missing := 0 } u)
    (hu : StageUpdated a ((channelDisabled c s).withSchedule { (channelDisabled c s).schedule with acq := none }) u) :
    OutOfService c s u := by
  obtain ⟨hchan, hmark⟩ := Prod.mk.inj hparked
  obtain ⟨hstage, hrating, hkept, -⟩ := hu
  obtain ⟨hprimary, hcheck, -⟩ := formStage_settings (a := a) (u := (channelDisabled c s).stage)
  have hacq := acq_of_kept hkept
  refine ⟨hchan, hmark, ?_, ?_, ?_, (encoder_of_kept hkept :), (time_of_kept hkept :),
    ?_, (runNumber_of_kept hkept :)⟩
  · unfold awaited
    rw [hacq] <;> rfl
  · rw [hstage]
    show (formStage a (channelDisabled c s).stage).check ≠ some c
    rw [hcheck]
    exact channelDisabled_check
  · rw [hstage]
    show (formStage a (channelDisabled c s).stage).primary = _
    rw [hprimary]
    exact channelDisabled_primary
  · rw [hrating] <;> rfl

end

/-- Settles O24: DISABLE_CHANNEL, with the acquisition in flight or its completion. -/
theorem disableLeaves : Obligations.DisableLeaves := by
  unfold Obligations.DisableLeaves
  refine ⟨fun ch s hch hj => gives_of_work hj (exec_disableChannel ch s) (withChannel_above hch _ s), fun c s hj => ?_⟩
  intro answers disabled left
  have hdue : s.due = [] := hj.2.2
  have hanswers : ∀ u, s.stage.primary ≠ some c → (chan c s).state ≠ .disabled → settle (disableChannel c s) = u →
      answers u := fun u hp hst hu =>
    gives_of_work hj (exec_disableChannel (chanByte c) s)
      (by rw [withChannel_chanByte, if_neg hp, if_neg hst, hu])
  have hleft : ∀ acq, left acq
      = (channelDisabled c s).withSchedule { (channelDisabled c s).schedule with acq := acq } := fun acq => rfl
  have hsome : ∀ a, s.schedule.acq = some a → disableChannel c s
      = if a.still.get c then (left (some (a.without c))).owe [.completion] else left (some (a.without c)) := fun a ha => by
    rw [disableChannel_eq, leaveAcquisition_some (s := channelDisabled c s) ha]
    rfl
  have hleaves : s.schedule.acq = none → settle (disableChannel c s) = left none := fun hacq => by
    have hsame : (channelDisabled c s).withSchedule { (channelDisabled c s).schedule with acq := none } = channelDisabled c s := by
      rw [schedule_acq_none (x := (channelDisabled c s).schedule) hacq, State.withSchedule_same]
    rw [disableChannel_eq, leaveAcquisition_none (s := channelDisabled c s) hacq, hleft, hsame,
      settle_of_due_nil _ (by exact hdue)]
  have hstays : ∀ a, s.schedule.acq = some a → (a.still.get c = false ∨ ∃ k, k ≠ c ∧ a.still.get k = true) →
      settle (disableChannel c s) = left (some (a.without c)) := fun a ha h => by
    rw [hsome a ha]
    by_cases hc : a.still.get c = true
    · obtain ⟨k, hk, hstill⟩ := h.resolve_left (by simp [hc])
      rw [if_pos hc, settle_waits (due_owe_completion (by exact hdue)), withDue_owe (by exact hdue)]
      intro b hb
      obtain rfl := Option.some.inj hb
      exact ⟨k, (PerChan.get_set_other _ hk _).trans hstill⟩
    · rw [if_neg hc, settle_of_due_nil _ (by exact hdue)]
  have hends : ∀ a, s.schedule.acq = some a → a.still.get c = true → (∀ k, k ≠ c → a.still.get k = false) →
      StageUpdated (a.without c) (left none) (settle (disableChannel c s))
        ∧ Parked c disabled (settle (disableChannel c s)) := fun a ha hc h => by
    have hfinished : ∀ k, (a.without c).still.get k = false := fun k => by
      by_cases hk : k = c
      · rw [hk]; simp [Acquisition.without]
      · exact (PerChan.get_set_other _ hk _).trans (h k hk)
    have hdisable := hsome a ha
    rw [if_pos hc] at hdisable
    have hleftdue : (left (some (a.without c))).due = [] := hdue
    have hparked : Parked c disabled ((left (some (a.without c))).owe [.completion]) := parked_channelDisabled c s
    have hupdated := settle_completes (due_owe_completion hleftdue) (a := a.without c) rfl hfinished
    rw [withDue_owe hleftdue] at hupdated
    rw [hdisable]
    exact ⟨hupdated, settle_completes_parked (due_owe_completion hleftdue) rfl hfinished hparked⟩
  refine ⟨fun hp => ?_, fun hp hst => ?_, fun hp hst => ⟨?_, fun hacq => hanswers _ hp hst (hleaves hacq), fun a ha =>
    ⟨fun h => hanswers _ hp hst (hstays a ha h), fun hc h => ⟨_, hanswers _ hp hst rfl, (hends a ha hc h).1⟩⟩⟩⟩
  · exact gives_of_work hj (exec_disableChannel (chanByte c) s) (by rw [withChannel_chanByte, if_pos hp])
  · exact gives_of_work hj (exec_disableChannel (chanByte c) s) (by rw [withChannel_chanByte, if_neg hp, if_pos hst])
  · have hout : OutOfService c s (settle (disableChannel c s)) := by
      cases ha : s.schedule.acq with
      | none =>
        rw [hleaves ha, hleft]
        exact outOfService_left (by simp)
      | some a =>
        by_cases h : a.still.get c = false ∨ ∃ k, k ≠ c ∧ a.still.get k = true
        · rw [hstays a ha h, hleft]
          exact outOfService_left fun b hb => by
            obtain rfl := Option.some.inj hb
            simp [Acquisition.without]
        · obtain ⟨hc, hothers⟩ := not_or.1 h
          obtain ⟨hupdated, hparked⟩ := hends a ha (by simpa using hc)
            fun k hk => Bool.eq_false_iff.2 fun hstill => hothers ⟨k, hk, hstill⟩
          exact outOfService_updated hparked hupdated
    exact ⟨_, hanswers _ hp hst rfl, hout.chan, hout.preWarm, hout.awaited, hout.check, hout.primary, hout.encoder,
      hout.time, hout.table, hout.run⟩

end Sys2Proof.Machine

/-! A reading slot's end (R27, R30 to R32, R35, R36): the pass, the sample, the failure, and the acquisition. -/

namespace Sys2Proof.Machine

/-! ### A participant finishes (R12, R36) -/

/-- The acquisition with channel `c`'s sample handed in, where it awaits it. -/
def Acquisition.taking (a : Acquisition) (c : Chan) (h : Handed) : Acquisition :=
  if a.still.get c then { a with still := a.still.set c false, handed := a.handed.set c (some h) } else a

/-- The part with channel `c`'s sample handed in. -/
def handedIn (c : Chan) (h : Handed) (s : State) : State :=
  s.withSchedule { s.schedule with acq := s.schedule.acq.map (·.taking c h) }

section
variable {c : Chan} {h : Handed} {s : State}

theorem schedule_acq_some {x : Schedule} {acq : Option Acquisition} (h : x.acq = acq) : { x with acq := acq } = x := by
  rw [← h]

theorem finishParticipant_eq : finishParticipant c h s
    = if awaited c s then (handedIn c h s).owe [.completion] else handedIn c h s := by
  unfold finishParticipant handedIn awaited
  cases hacq : s.schedule.acq with
  | none =>
    dsimp only [Option.map_none]
    rw [schedule_acq_some hacq, State.withSchedule_same] <;> rfl
  | some a =>
    dsimp only [Option.map_some]
    unfold Acquisition.taking
    by_cases hc : a.still.get c = true
    · rw [if_pos hc, if_pos hc, if_pos hc]
    · rw [if_neg hc, if_neg hc, if_neg hc, schedule_acq_some hacq, State.withSchedule_same]

theorem taking_still {a : Acquisition} {k : Chan} (hk : k ≠ c) : (a.taking c h).still.get k = a.still.get k := by
  unfold Acquisition.taking
  split
  · exact PerChan.get_set_other _ hk _
  · rfl

theorem taking_still_same {a : Acquisition} : (a.taking c h).still.get c = false := by
  unfold Acquisition.taking
  split
  · exact PerChan.get_set_same ..
  · rename_i hno
    simpa using hno

theorem handedIn_due : (handedIn c h s).due = s.due := rfl

/-- Another participant is awaited, or channel `c` is not. -/
def OthersAwaited (c : Chan) (s : State) : Prop :=
  ∀ a, s.schedule.acq = some a → a.still.get c = true → ∃ k, k ≠ c ∧ a.still.get k = true

/-- Channel `c` is the last participant that the acquisition awaits. -/
def AwaitedAlone (c : Chan) (a : Acquisition) (s : State) : Prop :=
  s.schedule.acq = some a ∧ a.still.get c = true ∧ ∀ k, k ≠ c → a.still.get k = false

variable (hn : NoCompletion s) (hw : (s.due.map Work.weight).sum ≤ 100)

include hn

theorem acq_settle_handedIn : (settle (handedIn c h s)).schedule.acq = s.schedule.acq.map (·.taking c h) :=
  acq_of_kept (kept_settle (handedIn c h s) hn)

include hw

/-- The acquisition goes on. -/
theorem settle_finish_waits (hothers : OthersAwaited c s) :
    settle (finishParticipant c h s) = settle (handedIn c h s) := by
  rw [finishParticipant_eq]
  by_cases hc : awaited c s = true
  · rw [if_pos hc]
    have hthen := settle_then_completion (s := handedIn c h s) hn hw
    have hwaits : complete (settle (handedIn c h s)) = settle (handedIn c h s) := by
      refine complete_waits fun b hb => ?_
      rw [acq_settle_handedIn hn] at hb
      obtain ⟨a, ha, rfl⟩ := Option.map_eq_some_iff.1 hb
      have hstill : a.still.get c = true := by
        unfold awaited at hc
        rw [ha] at hc
        exact hc
      obtain ⟨k, hk, hother⟩ := hothers a ha hstill
      exact ⟨k, (taking_still hk).trans hother⟩
    rw [hwaits, settle_of_due_nil (settle (handedIn c h s)) rfl] at hthen
    exact hthen
  · rw [if_neg hc]

/-- The acquisition completes, after all that the sample's end brought about. -/
theorem settle_finish_completes {a : Acquisition} (halone : AwaitedAlone c a s) :
    settle (finishParticipant c h s) = settle (stageUpdate (a.taking c h)
      ((settle (handedIn c h s)).withSchedule { (settle (handedIn c h s)).schedule with acq := none })) := by
  obtain ⟨ha, hc, hrest⟩ := halone
  have hawaited : awaited c s = true := by
    unfold awaited
    rw [ha]
    exact hc
  rw [finishParticipant_eq, if_pos hawaited]
  have hthen := settle_then_completion (s := handedIn c h s) hn hw
  have hfinished : ∀ k, (a.taking c h).still.get k = false := fun k => by
    by_cases hk : k = c
    · rw [hk]; exact taking_still_same
    · exact (taking_still hk).trans (hrest k hk)
  rw [complete_finished (by rw [acq_settle_handedIn hn, ha]; rfl) hfinished] at hthen
  exact hthen

end

/-! ### The slot (R16 to R19, R27) -/

theorem noteReference_eq (c : Chan) (s : State) : noteReference c s = s.withEncoder
    { s.encoder with stepRef := if c = .ch2 then some s.encoder.count else s.encoder.stepRef } := by
  cases c <;> rfl

theorem startSlot_eq (c : Chan) (s : State) : startSlot c s = s.withRanging
    (if c = .ch3 then { requests := s.ranging.requests + 1, reply := none } else s.ranging) := by
  cases c <;> rfl

theorem setChan_setChan (c : Chan) (x y : Channel) (s : State) : setChan c y (setChan c x s) = setChan c y s := by
  cases c <;> rfl

/-- The part at the end of a slot, with the reference noted (R18, R27). -/
def slotReached (c : Chan) (b : Burst) (s : State) : State :=
  (s.withTime { s.time with elapsed := if ahead b.slotEnds s.time.elapsed then b.slotEnds else s.time.elapsed }).withEncoder
    { s.encoder with stepRef := if c = .ch2 then some s.encoder.count else s.encoder.stepRef }

theorem noteReference_reach (c : Chan) (b : Burst) (s : State) :
    noteReference c (reach b.slotEnds s) = slotReached c b s := by
  rw [noteReference_eq, reach_eq]
  rfl

section
variable {c : Chan} {count : U24} {b : Burst} {s : State} {r : Reading} (hr : slotReading c count s = r)

include hr

/-- The pass goes on with the next slot (R27). -/
theorem slotEnd_short (h : (b.readings ++ [r]).length < (chan c s).config.n) : slotEnd c count b s
    = startSlot c (setChan c
        { chan c s with
          lastRaw := some r
          burst := some { b with readings := b.readings ++ [r], slotEnds := after b.slotEnds 100 } } (slotReached c b s)) := by
  unfold slotEnd
  dsimp only
  rw [noteReference_reach, hr]
  exact if_pos h

variable (hfull : (chan c s).config.n ≤ (b.readings ++ [r]).length)

include hfull

/-- A first pass with too few VALID readings is followed by the retry pass (R30). -/
theorem slotEnd_retries (hfew : ¬((chan c s).config.n + 1) / 2 ≤ (validValues (b.readings ++ [r])).length)
    (hpass : b.pass = .first) : slotEnd c count b s
      = startPass c .retry b.slotEnds (setChan c { chan c s with lastRaw := some r } (slotReached c b s)) := by
  unfold slotEnd
  dsimp only
  rw [noteReference_reach, hr, hpass]
  exact (if_neg hfull.not_gt).trans (if_neg hfew)

/-- A pass that decides its burst (R30). -/
theorem slotEnd_ends {good : Bool}
    (hgood : good = decide (((chan c s).config.n + 1) / 2 ≤ (validValues (b.readings ++ [r])).length))
    (hpass : good = true ∨ b.pass = .retry) : slotEnd c count b s
      = endBurst c b (validValues (b.readings ++ [r])) good
          (setChan c { chan c s with lastRaw := some r } (slotReached c b s)) := by
  unfold slotEnd
  dsimp only
  rw [noteReference_reach, hr]
  refine (if_neg hfull.not_gt).trans ?_
  by_cases henough : ((chan c s).config.n + 1) / 2 ≤ (validValues (b.readings ++ [r])).length
  · rw [decide_eq_true henough] at hgood
    subst hgood
    exact if_pos henough
  · rw [decide_eq_false henough] at hgood
    subst hgood
    refine (if_neg henough).trans ?_
    rw [hpass.resolve_left Bool.false_ne_true] <;> rfl

end

/-! ### The burst's end (R30 to R32) -/

/-- The last sample of a burst's end. -/
def lastSampleOf (b : Burst) (vs : List Int) (v : Option Int) (s : State) : LastSample :=
  { time := (match s.schedule.acq with
      | some a => a.sampleTime
      | none => s.time.station)
    value := v, v := vs.length, retried := decide (b.pass = .retry) }

/-- The channel goes on after a burst: ON, or SLEEPING by its power mode (R23). -/
def goesOn (c : Chan) (x : Channel) (s : State) : State :=
  match x.config.mode with
  | .continuous => setChan c x s
  | .switched => setPreWarm c false (setChan c (x.unpower .sleeping) s)

/-- The channel after a burst's end. -/
def Channel.sampled (x : Channel) (l : LastSample) (missing : Nat) : Channel :=
  { x with burst := none, lastSample := some l, missing := missing }

section
variable {c : Chan} {b : Burst} {vs : List Int} {s : State}

theorem endBurst_valid : endBurst c b vs true s
    = finishParticipant c (.valid (median vs))
        (goesOn c ((chan c s).sampled (lastSampleOf b vs (some (median vs)) s) 0) s) := rfl

theorem endBurst_missing (h : (chan c s).missing + 1 < (chan c s).config.f) : endBurst c b vs false s
    = finishParticipant c .missing
        (goesOn c ((chan c s).sampled (lastSampleOf b vs none s) ((chan c s).missing + 1)) s) := by
  unfold endBurst
  dsimp only
  rw [if_neg (by simp; exact h)]
  rfl

theorem endBurst_fails (h : (chan c s).config.f ≤ (chan c s).missing + 1) : endBurst c b vs false s
    = finishParticipant c .missing (failChannel c
        (setChan c ((chan c s).sampled (lastSampleOf b vs none s) (chan c s).config.f) s)) := by
  unfold endBurst
  dsimp only
  rw [if_pos (by simp; exact h)]
  rfl

end

/-! ### A channel that fails (R32, R35) -/

/-- The check that takes the place of a failing primary (R35). -/
def Promoted (c k : Chan) (s : State) : Prop :=
  s.stage.primary = some c ∧ s.stage.check = some k ∧ k ≠ c
  ∧ (chan k s).config.mode = .continuous ∧ (chan k s).state = .on

/-- The channel out of service, before its entries and its report. -/
def outFailed (c : Chan) (s : State) : State :=
  setPreWarm c false (setChan c ((chan c s).unpower .failed) s)

/-- The failing channel's entry. -/
def failEntered (c : Chan) (s : State) : State := append (.channel s.time.station c .failed) (outFailed c s)

/-- The stage unit with the check in the primary's place (R35, R46). -/
def StageUnit.promoted (u : StageUnit) (k : Chan) : StageUnit :=
  { u with primary := some k, check := none, disagreeCount := 0, lastDiff := none }

/-- The promotion with its entry. -/
def promotionEntered (c k : Chan) (s : State) : State :=
  append (.channel s.time.station k .promoted) ((failEntered c s).withStage (s.stage.promoted k))

theorem HandsOn.withStage {n : Nat} {s t : State} (h : HandsOn n s t) (u : StageUnit) : HandsOn n s (t.withStage u) :=
  ⟨h.bits, h.events, h.owes, h.load⟩

theorem parked_withStage {c : Chan} {x : Channel} {s : State} (h : Parked c x s) (u : StageUnit) :
    Parked c x (s.withStage u) := h

theorem kept_withStage_congr {s t : State} (h : s.kept = t.kept) (u : StageUnit) :
    (s.withStage u).kept = (t.withStage u).kept := by
  have hset : ∀ x : State, (x.withStage u).kept = { x.kept with stage := u } := fun _ => rfl
  rw [hset, hset, h]

/-- The report of a channel's failure. -/
def failReport (c : Chan) : Report := { fault := .channelFailed c, arg := .chan c }

section
variable {c : Chan} {s : State}

theorem failEntered_stage : (failEntered c s).stage = s.stage :=
  steady_stage (steady_append (outFailed c s) (.channel s.time.station c .failed))

theorem failEntered_time : (failEntered c s).time = s.time :=
  steady_time (steady_append (outFailed c s) (.channel s.time.station c .failed))

theorem chan_append (k : Chan) (e : Entry) (s : State) : chan k (append e s) = chan k s := by
  obtain ⟨_, _, _, _, h⟩ := append_only e s
  rw [h]
  rfl

theorem chan_failEntered {k : Chan} (hk : k ≠ c) : chan k (failEntered c s) = chan k s := by
  rw [failEntered, chan_append, outFailed, chan_setPreWarm, chan_setChan_other hk]

theorem chan_failEntered_same : chan c (failEntered c s) = (chan c s).unpower .failed := by
  rw [failEntered, chan_append, outFailed, chan_setPreWarm, chan_setChan_same]

theorem promotion_eq (k : Chan) : promotion c (failEntered c s) = some k ↔ Promoted c k s := by
  unfold promotion Promoted
  rw [failEntered_stage]
  by_cases hprimary : s.stage.primary = some c
  · rw [if_pos hprimary]
    cases hcheck : s.stage.check with
    | none => simp
    | some j =>
      dsimp only
      by_cases hj : j = c
      · subst hj
        rw [chan_failEntered_same]
        simp only [Channel.unpower, reduceCtorEq, and_false, ↓reduceIte, Option.some.injEq, false_iff, not_and]
        exact fun _ hk hne => absurd hk.symm hne
      · rw [chan_failEntered hj]
        by_cases hready : (chan j s).config.mode = .continuous ∧ (chan j s).state = .on
        · rw [if_pos hready]
          constructor
          · intro hk
            obtain rfl := Option.some.inj hk
            exact ⟨hprimary, rfl, hj, hready⟩
          · exact fun hk => hk.2.1
        · rw [if_neg hready]
          simp only [reduceCtorEq, Option.some.injEq, false_iff]
          rintro ⟨-, rfl, -, hon⟩
          exact hready hon
  · rw [if_neg hprimary]
    simp [hprimary]

/-- A failure without a promotion, or with one. -/
theorem failChannel_cases :
    ((∀ k, ¬Promoted c k s) ∧ failChannel c s = takeBatch [failReport c] (failEntered c s))
    ∨ ∃ k, Promoted c k s ∧ failChannel c s
      = takeBatch [failReport c, { fault := .primaryPromoted, arg := .chan k }] (promotionEntered c k s) := by
  have hfail : failChannel c s = match promotion c (failEntered c s) with
      | none => takeBatch [failReport c] (failEntered c s)
      | some k => takeBatch [failReport c, { fault := .primaryPromoted, arg := .chan k }]
        (append (.channel (failEntered c s).time.station k .promoted)
          ((failEntered c s).withStage { (failEntered c s).stage.rePair with primary := some k, check := none })) := rfl
  rw [hfail, failEntered_stage, failEntered_time]
  cases hp : promotion c (failEntered c s) with
  | none =>
    refine .inl ⟨fun k hk => ?_, rfl⟩
    rw [(promotion_eq k).2 hk] at hp
    exact absurd hp (by simp)
  | some k => exact .inr ⟨k, (promotion_eq k).1 hp, rfl⟩

/-- What the failure is beside the station stage unit. -/
theorem handsOn_failChannel : HandsOn 0 (outFailed c s) (failChannel c s) := by
  have hentered : HandsOn 0 (outFailed c s) (failEntered c s) := (HandsOn.refl _).append _
  rcases failChannel_cases (c := c) (s := s) with ⟨-, h⟩ | ⟨k, -, h⟩ <;> rw [h]
  · exact hentered.takeBatch _
  · exact ((hentered.withStage _).append _).takeBatch _

theorem parked_failChannel : Parked c ((chan c s).unpower .failed) (failChannel c s) := by
  have hword := scheduleWord_parked c ((chan c s).unpower .failed)
  have hentered : Parked c ((chan c s).unpower .failed) (failEntered c s) := hword.append (chanView_mark c _ s) _
  rcases failChannel_cases (c := c) (s := s) with ⟨-, h⟩ | ⟨k, -, h⟩ <;> rw [h]
  · exact hword.takeBatch hentered _
  · exact hword.takeBatch (hword.append (parked_withStage hentered _) _) _

theorem kept_outFailed : (outFailed c s).kept = s.kept := by
  rw [outFailed, kept_setPreWarm, kept_setChan]
  rfl

/-- The stage unit after a failure. -/
theorem kept_failChannel : ∃ u : StageUnit, (failChannel c s).kept = (s.withStage u).kept
    ∧ (∀ k, Promoted c k s →
        u = s.stage.promoted k)
    ∧ ((∀ k, ¬Promoted c k s) → u = s.stage) := by
  have hentered : (failEntered c s).kept = s.kept := by rw [failEntered, kept_append, kept_outFailed]
  rcases failChannel_cases (c := c) (s := s) with ⟨hno, h⟩ | ⟨k, hk, h⟩ <;> rw [h, kept_takeBatch]
  · exact ⟨s.stage, by rw [hentered, State.withStage_same], fun k hk => absurd hk (hno k), fun _ => rfl⟩
  · refine ⟨s.stage.promoted k, ?_, fun j hj => ?_, fun hno => absurd hk (hno k)⟩
    · rw [promotionEntered, kept_append]
      exact kept_withStage_congr hentered _
    · obtain rfl := Option.some.inj (hk.2.1.symm.trans hj.2.1)
      rfl

theorem bitSet_failChannel : bitSet (failChannel c s).faults.word (.channelFailed c) = true
    ∧ ∀ k, Promoted c k s → bitSet (failChannel c s).faults.word .primaryPromoted = true := by
  rcases failChannel_cases (c := c) (s := s) with ⟨hno, h⟩ | ⟨k, hk, h⟩ <;> rw [h, takeBatch_faults]
  · exact ⟨(bitSet_takeReports ..).2 (.inr ⟨_, List.mem_cons_self, rfl⟩), fun k hk => absurd hk (hno k)⟩
  · exact ⟨(bitSet_takeReports ..).2 (.inr ⟨_, List.mem_cons_self, rfl⟩),
      fun _ _ => (bitSet_takeReports ..).2 (.inr ⟨_, List.mem_cons_of_mem _ List.mem_cons_self, rfl⟩)⟩

theorem failChannel_warning : (failChannel c s).warning = s.warning := by
  rcases failChannel_cases (c := c) (s := s) with ⟨-, h⟩ | ⟨k, -, h⟩ <;> rw [h, takeBatch_warning]
  · exact append_warning (.channel s.time.station c .failed) (outFailed c s)
  · rw [promotionEntered, append_warning]
    exact append_warning (.channel s.time.station c .failed) (outFailed c s)

/-- The record after a failing channel's entry. -/
def failRecord (c : Chan) (s : State) : Record :=
  s.record.placeOrRenumber (.channel s.time.station c .failed) s.time.station

/-- Nothing but the stage unit, the record, the fault unit, the ports and the agenda differs. -/
def OnlyFailure (s t : State) : Prop :=
  ∃ y z f w d, t = ((((s.withStage y).withRecord z).withFaults f).withPorts w).withDue d

theorem OnlyFailure.trans {s t u : State} (h : OnlyFailure s t) (h' : OnlyFailure t u) : OnlyFailure s u := by
  obtain ⟨y, z, f, w, d, rfl⟩ := h
  obtain ⟨y', z', f', w', d', rfl⟩ := h'
  exact ⟨y', z', f', w', d', rfl⟩

theorem onlyFailure_takeBatch (rs : List Report) (s : State) : OnlyFailure s (takeBatch rs s) := by
  obtain ⟨x, y, z, h⟩ := takeBatch_frame rs s
  exact ⟨s.stage, s.record, x, y, z, by rw [h]; rfl⟩

theorem onlyFailure_append {s : State} (hroom : s.record.full = false) (e : Entry) : OnlyFailure s (append e s) := by
  rw [append_of_not_full hroom]
  generalize s.record.placeOrRenumber e s.time.station = r
  exact ⟨s.stage, r, s.faults, (syncRecord (s.withRecord r)).ports, s.due, rfl⟩

theorem onlyFailure_withStage (u : StageUnit) (s : State) : OnlyFailure s (s.withStage u) :=
  ⟨u, s.record, s.faults, s.ports, s.due, rfl⟩

/-- A failure with room in the record. -/
theorem failChannel_with_room (hroom : s.record.HasRoom 2) :
    (∀ k, Promoted c k s → (failChannel c s).record
      = (failRecord c s).placeOrRenumber (.channel s.time.station k .promoted) s.time.station)
    ∧ ((∀ k, ¬Promoted c k s) → (failChannel c s).record = failRecord c s)
    ∧ (s.due = [] → ∀ w ∈ (failChannel c s).due, ∃ word, w = .faultRound word)
    ∧ OnlyFailure (outFailed c s) (failChannel c s) := by
  have hout : (outFailed c s).record.full = false := hroom.not_full
  have hentered : (failEntered c s).record = failRecord c s := append_record_of_not_full hout _
  have hdue : (failEntered c s).due = s.due := by
    rw [failEntered, append_of_not_full hout, due_syncRecord]
    rfl
  have honly : OnlyFailure (outFailed c s) (failEntered c s) := onlyFailure_append hout _
  have hbatch : ∀ (rs : List Report) (t : State), t.due = [] → ∀ w ∈ (takeBatch rs t).due, ∃ word, w = .faultRound word := by
    intro rs t ht w hw
    rw [takeBatch_due, ht, List.nil_append] at hw
    split at hw
    · exact absurd hw List.not_mem_nil
    · exact ⟨_, List.mem_singleton.1 hw⟩
  rcases failChannel_cases (c := c) (s := s) with ⟨hno, h⟩ | ⟨k, hk, h⟩ <;> rw [h]
  · refine ⟨fun k hk => absurd hk (hno k), fun _ => ?_, fun hs => hbatch _ _ (by rw [hdue, hs]),
      honly.trans (onlyFailure_takeBatch _ _)⟩
    rw [takeBatch_record, hentered]
  · have hroom1 : ((failEntered c s).withStage (s.stage.promoted k)).record.full = false := by
      rw [State.withStage_record, hentered]
      exact (hroom.place _ _).not_full
    have hpromoted : (promotionEntered c k s).due = s.due := by
      rw [promotionEntered, append_of_not_full hroom1, due_syncRecord, State.withRecord_due, State.withStage_due, hdue]
    refine ⟨fun j hj => ?_, fun hno => absurd hk (hno k), fun hs => hbatch _ _ (by rw [hpromoted, hs]),
      (honly.trans ((onlyFailure_withStage _ _).trans (onlyFailure_append hroom1 _))).trans (onlyFailure_takeBatch _ _)⟩
    obtain rfl := Option.some.inj (hk.2.1.symm.trans hj.2.1)
    rw [takeBatch_record, promotionEntered, append_record_of_not_full hroom1, State.withStage_record, State.withStage_time,
      hentered, failEntered_time]

/-- What a failure owes is no completion, and little enough. -/
theorem failChannel_light (hdue : s.due = []) :
    NoCompletion (failChannel c s) ∧ ((failChannel c s).due.map Work.weight).sum ≤ 100 := by
  obtain ⟨-, -, ⟨ws, hws, hall⟩, hload⟩ := handsOn_failChannel (c := c) (s := s)
  have hout : (outFailed c s).due = [] := hdue
  have hbefore : (outFailed c s).load ≤ 42 := by
    have := clearBits_le (outFailed c s).faults.word
    rw [State.load, hout]
    simp
    omega
  rw [hout, List.nil_append] at hws
  constructor
  · rw [NoCompletion, hws]
    intro hmem
    rcases hall _ hmem with h | ⟨word, h⟩ <;> exact Work.noConfusion h
  · rw [State.load] at hload
    omega

end

end Sys2Proof.Machine

/-! Settling O27: the end of a reading slot. -/

namespace Sys2Proof.Machine

section
variable {c : Chan} {h : Handed} {s : State}

/-! ### A sample that is no failure -/

/-- The part after a burst's end, with the acquisition as given (R23, R36). -/
def endedWith (c : Chan) (y : Channel) (acq : Option Acquisition) (s : State) : State :=
  match y.config.mode with
  | .continuous => (setChan c y s).withSchedule { s.schedule with acq := acq }
  | .switched =>
    (setChan c (y.unpower .sleeping) s).withSchedule
      { s.schedule with acq := acq, preWarm := s.schedule.preWarm.set c false }

theorem goesOn_withAcq (y : Channel) (acq : Option Acquisition) :
    (goesOn c y s).withSchedule { (goesOn c y s).schedule with acq := acq } = endedWith c y acq s := by
  unfold goesOn endedWith
  cases y.config.mode <;> rfl

theorem goesOn_schedule_acq (y : Channel) : (goesOn c y s).schedule.acq = s.schedule.acq := by
  unfold goesOn
  split <;> rfl

theorem goesOn_due (y : Channel) : (goesOn c y s).due = s.due := by
  unfold goesOn
  split <;> rfl

theorem goesOn_setChan (x y : Channel) : goesOn c y (setChan c x s) = goesOn c y s := by
  unfold goesOn
  split <;> rw [setChan_setChan]

/-- A sample handed in by a channel that goes on. -/
theorem settle_sampled (y : Channel) (hdue : s.due = []) :
    (OthersAwaited c s → settle (finishParticipant c h (goesOn c y s))
      = endedWith c y (s.schedule.acq.map (·.taking c h)) s)
    ∧ ∀ a, AwaitedAlone c a s →
      StageUpdated (a.taking c h) (endedWith c y none s) (settle (finishParticipant c h (goesOn c y s))) := by
  have howes : (goesOn c y s).due = [] := (goesOn_due y).trans hdue
  have hn : NoCompletion (goesOn c y s) := .of_due_nil howes
  have hw : ((goesOn c y s).due.map Work.weight).sum ≤ 100 := by simp [howes]
  have hacq := goesOn_schedule_acq (c := c) (s := s) y
  have hstill : settle (handedIn c h (goesOn c y s)) = handedIn c h (goesOn c y s) :=
    settle_of_due_nil _ (by exact howes)
  have hgiven : ∀ acq, (goesOn c y s).withSchedule { (goesOn c y s).schedule with acq := acq } = endedWith c y acq s :=
    goesOn_withAcq y
  generalize goesOn c y s = t at *
  have hhanded : handedIn c h t = endedWith c y (s.schedule.acq.map (·.taking c h)) s := by
    rw [← hgiven, ← hacq]
    rfl
  constructor
  · intro hothers
    rw [settle_finish_waits hn hw (by unfold OthersAwaited; rw [hacq]; exact hothers), hstill, hhanded]
  · intro a halone
    rw [settle_finish_completes hn hw (by unfold AwaitedAlone; rw [hacq]; exact halone), hstill, ← hgiven]
    exact stageUpdated_settle (s := t.withSchedule { t.schedule with acq := none }) howes _

/-! ### A failure -/

/-- What a failure leaves in the channel, the encoder, the faults and the selections (R32, R35). -/
structure WithFailure (c : Chan) (s t : State) : Prop where
  chan : chan c t = (Machine.chan c s).unpower .failed
  preWarm : t.schedule.preWarm.get c = false
  encoder : t.encoder = s.encoder
  failedBit : bitSet t.faults.word (.channelFailed c) = true
  promotedBit : ∀ k, Promoted c k s → bitSet t.faults.word .primaryPromoted = true
  promotedStage : ∀ k, Promoted c k s → t.stage = s.stage.promoted k
  sameStage : (∀ k, ¬Promoted c k s) → t.stage = s.stage

/-- The entries of a failure (R32, R35). -/
structure WithEntries (c : Chan) (s t : State) : Prop where
  warning : t.warning = s.warning
  promotedRecord : ∀ k, Promoted c k s →
    t.record = (failRecord c s).placeOrRenumber (.channel s.time.station k .promoted) s.time.station
  sameRecord : (∀ k, ¬Promoted c k s) → t.record = failRecord c s

theorem acq_failChannel : (failChannel c s).schedule.acq = s.schedule.acq := by
  obtain ⟨u, hu, -⟩ := kept_failChannel (c := c) (s := s)
  exact (acq_of_kept hu :)

theorem failed_handedIn (hn : NoCompletion (handedIn c h (failChannel c s))) :
    WithFailure c s (settle (handedIn c h (failChannel c s)))
      ∧ (settle (handedIn c h (failChannel c s))).schedule.acq = s.schedule.acq.map (·.taking c h) := by
  have hparked : Parked c ((Machine.chan c s).unpower .failed) (settle (handedIn c h (failChannel c s))) :=
    (scheduleWord_parked c _).settle (by exact parked_failChannel) hn
  obtain ⟨u, hu, hpromoted, hsame⟩ := kept_failChannel (c := c) (s := s)
  have hkept := kept_settle _ hn
  obtain ⟨hfailed, hbit⟩ := bitSet_failChannel (c := c) (s := s)
  have hstage : (settle (handedIn c h (failChannel c s))).stage = u :=
    (stage_of_kept hkept).trans (stage_of_kept hu :)
  have hencoder : (settle (handedIn c h (failChannel c s))).encoder = s.encoder :=
    (encoder_of_kept hkept).trans (encoder_of_kept hu :)
  have hacq : (settle (handedIn c h (failChannel c s))).schedule.acq = (failChannel c s).schedule.acq.map (·.taking c h) :=
    acq_of_kept hkept
  obtain ⟨hchan, hmark⟩ := Prod.mk.inj hparked
  refine ⟨⟨hchan, hmark, hencoder, settle_bits hn hfailed, fun k hk => settle_bits hn (hbit k hk), fun k hk => ?_,
    fun hno => ?_⟩, by rw [hacq, acq_failChannel]⟩
  · rw [hstage, hpromoted k hk]
  · rw [hstage, hsame hno]

/-- With room in the record and no rule that watches the fault word, a failure has no further consequence. -/
theorem settle_failed (hroom : s.record.HasRoom 2) (hdue : s.due = []) (hq : Unwatched s.warning) :
    settle (handedIn c h (failChannel c s)) = (handedIn c h (failChannel c s)).withDue []
      ∧ WithEntries c s (settle (handedIn c h (failChannel c s))) := by
  obtain ⟨hpromoted, hsame, hrounds, -⟩ := failChannel_with_room (c := c) hroom
  have hwarning := failChannel_warning (c := c) (s := s)
  have hstill : settle (handedIn c h (failChannel c s)) = (handedIn c h (failChannel c s)).withDue [] := by
    refine settle_still fun w hw => ?_
    obtain ⟨word, rfl⟩ := hrounds hdue w hw
    exact faultRound_unwatched (by
      show Unwatched (failChannel c s).warning
      rw [hwarning]
      exact hq) word
  rw [hstill]
  exact ⟨rfl, hwarning, hpromoted, hsame⟩

end

/-- The part after a failure whose sample has completed the acquisition. -/
theorem handedIn_frame {c : Chan} {h : Handed} {base t : State} {x : Schedule} {y : StageUnit} {z : Record} {f : FaultUnit}
    {w : PerPort PortUnit} {d : List Work}
    (ht : t = (((((base.withSchedule x).withStage y).withRecord z).withFaults f).withPorts w).withDue d)
    (hdue : base.due = []) :
    ((handedIn c h t).withDue []).withSchedule { ((handedIn c h t).withDue []).schedule with acq := none }
      = ((((base.withSchedule { x with acq := none }).withStage y).withRecord z).withFaults f).withPorts w := by
  have hwhole : ∀ v : State, v.due = [] → v = v.withDue [] := fun v hv => by rw [← hv, State.withDue_same]
  rw [ht, hwhole (((((base.withSchedule { x with acq := none }).withStage y).withRecord z).withFaults f).withPorts w) hdue]
  rfl

/-! ### The slot's end -/

theorem slotReading_bridge {c : Chan} {count : U24} {s : State} (h : c = .ch0 ∨ c = .ch1) : slotReading c count s
    = if count.toInt = -8388608 ∨ count.toInt = 8388607 then failedReading (some count.toInt)
      else convert (chan c s).config count.toInt := by
  rcases h with rfl | rfl <;> rfl

theorem encoderReading_stepped {x : ChanConfig} {e : EncoderInput} {ref : U24} (h : e.stepRef = some ref) :
    encoderReading x e
      = if (x.maxStep : Int) < |(e.count - ref).toInt| then failedReading (some e.count.toInt)
        else convert x e.count.toInt := by
  unfold encoderReading
  rw [h]

theorem encoderReading_first {x : ChanConfig} {e : EncoderInput} (h : e.stepRef = none) :
    encoderReading x e = convert x e.count.toInt := by
  unfold encoderReading
  rw [h]

theorem rangingReading_eq (x : ChanConfig) (reply : Option RangingFrame) : rangingReading x reply
    = match reply with
      | some f => if f.good && f.echo then convert x f.distance.toNat else failedReading none
      | none => failedReading none := by
  cases reply <;> rfl

theorem exec_readingSlotEnd {c : Chan} {count : U24} {b : Burst} {s : State} (hruns : Runs s)
    (hb : (chan c s).burst = some b) :
    exec (.readingSlotEnd c count) s = .next (settle (slotEnd c count b s)) := by
  have hexec : exec (.readingSlotEnd c count) s = execReadingSlotEnd c count s := rfl
  rw [hexec, execReadingSlotEnd, event_runs hruns.1]
  rw [hb]

theorem promoted_setChan {c k : Chan} {y : Channel} {s : State} : Promoted c k (setChan c y s) ↔ Promoted c k s := by
  unfold Promoted
  by_cases hk : k = c
  · simp [hk]
  · rw [chan_setChan_other hk]
    rfl

theorem promoted_slotReached {c k : Chan} {b : Burst} {s : State} : Promoted c k (slotReached c b s) ↔ Promoted c k s :=
  Iff.rfl

/-- Settles O27: the slot's reading, the pass, and the burst's end by a value, a missing sample or a failure. -/
theorem readingJoins : Obligations.ReadingJoins := by
  unfold Obligations.ReadingJoins
  intro c count b s hruns hb x r readings vs enough now encoder reached nextSlot last handing ended failed promoted
    withFailure withEntries others awaitedAlone
  have hreached : ∀ y, reached y = setChan c y (slotReached c b s) := fun y => rfl
  have hexec := exec_readingSlotEnd (count := count) hruns hb
  have hdue : (slotReached c b s).due = [] := hruns.2
  have hended : ∀ acq v missing, ended acq v missing
      = endedWith c ({ x with lastRaw := some r }.sampled (last v) missing) acq (slotReached c b s) := fun acq v missing => by
    simp only [ended, endedWith, Channel.sampled]
    cases x.config.mode <;> rfl
  have hgoes : ∀ {h : Handed} {y : Channel}, slotEnd c count b s = finishParticipant c h
      (goesOn c y (setChan c { x with lastRaw := some r } (slotReached c b s))) →
      (others → settle (slotEnd c count b s) = endedWith c y (s.schedule.acq.map (handing h)) (slotReached c b s))
      ∧ ∀ a, awaitedAlone a → StageUpdated (handing h a) (endedWith c y none (slotReached c b s))
        (settle (slotEnd c count b s)) := fun {h y} hend => by
    rw [goesOn_setChan] at hend
    rw [hend]
    exact settle_sampled (s := slotReached c b s) y hdue
  refine ⟨fun hc => ?_, fun hc ref href => ?_, fun hc href => ?_, fun hc => ?_, fun hshort => ?short, fun hfull hfew hpass => ?retry,
    fun hfull henough => ?good, fun hfull hfew hpass hbelow => ?missing, fun hfull hfew hpass hfails => ?fails⟩
  case short =>
    rw [hexec, slotEnd_short rfl hshort, startSlot_eq, settle_of_due_nil _ (by exact hdue)]
    rfl
  case retry =>
    rw [hexec, slotEnd_retries rfl hfull hfew hpass, startPass, startSlot_eq, chan_setChan_same, setChan_setChan,
      settle_of_due_nil _ (by exact hdue)]
    rfl
  case good =>
    have hend := slotEnd_ends (count := count) (r := r) rfl hfull (decide_eq_true henough).symm (.inl rfl)
    rw [endBurst_valid, chan_setChan_same] at hend
    obtain ⟨hwaits, hupdates⟩ := hgoes hend
    rw [hexec]
    exact ⟨fun ho => by rw [hwaits ho, hended] <;> rfl, fun a ha => ⟨_, rfl, by rw [hended]; exact hupdates a ha⟩⟩
  case missing =>
    have hend := slotEnd_ends (count := count) (r := r) rfl hfull (decide_eq_false hfew).symm (.inr hpass)
    rw [endBurst_missing (by rw [chan_setChan_same]; exact hbelow), chan_setChan_same] at hend
    obtain ⟨hwaits, hupdates⟩ := hgoes hend
    rw [hexec]
    exact ⟨fun ho => by rw [hwaits ho, hended] <;> rfl, fun a ha => ⟨_, rfl, by rw [hended]; exact hupdates a ha⟩⟩
  case fails =>
    have hend := slotEnd_ends (count := count) (r := r) rfl hfull (decide_eq_false hfew).symm (.inr hpass)
    rw [endBurst_fails (by rw [chan_setChan_same]; exact hfails), chan_setChan_same, setChan_setChan] at hend
    generalize hy : ({ x with lastRaw := some r }.sampled (last none) x.config.f) = y
    generalize hU : setChan c y (slotReached c b s) = U
    have hfailed : (chan c U).unpower .failed = failed := by
      rw [← hU, chan_setChan_same, ← hy]
      rfl
    have hacq : U.schedule.acq = s.schedule.acq := by rw [← hU]; rfl
    have hUdue : U.due = [] := by rw [← hU]; exact hdue
    have hpromoted : ∀ k, Promoted c k U ↔ promoted k := fun k => by
      rw [← hU, promoted_setChan]
      exact promoted_slotReached
    have hstage : U.stage = s.stage := by rw [← hU]; rfl
    have hwarning : U.warning = s.warning := by rw [← hU]; rfl
    have hrecord : U.record = s.record := by rw [← hU]; rfl
    have htime : U.time.station = s.time.station := by rw [← hU]; rfl
    have hencoder : U.encoder = encoder := by rw [← hU]; rfl
    have hends : slotEnd c count b s = finishParticipant c .missing (failChannel c U) := by
      rw [hend, ← hU, ← hy]
      rfl
    have hwith : ∀ t, WithFailure c U t → withFailure t := fun t ht =>
      ⟨ht.chan.trans hfailed, ht.preWarm, ht.encoder.trans hencoder, ht.failedBit,
        fun k hk => ⟨ht.promotedBit k ((hpromoted k).2 hk), (ht.promotedStage k ((hpromoted k).2 hk)).trans (by rw [hstage]; rfl)⟩,
        fun hno => (ht.sameStage fun k hk => hno k ((hpromoted k).1 hk)).trans hstage⟩
    have hentries : ∀ t, WithEntries c U t → withEntries t := fun t ht => by
      obtain ⟨hw, hp, hs⟩ := ht
      unfold failRecord at hp hs
      rw [hrecord, htime] at hp hs
      exact ⟨hw.trans hwarning, fun k hk => hp k ((hpromoted k).2 hk), fun hno => hs fun k hk => hno k ((hpromoted k).1 hk)⟩
    obtain ⟨hn, hw⟩ := failChannel_light (c := c) hUdue
    obtain ⟨hfailure, hleft⟩ := failed_handedIn (c := c) (h := .missing) (s := U) hn
    have hfailAcq : (failChannel c U).schedule.acq = s.schedule.acq := acq_failChannel.trans hacq
    have hquiet : Unwatched s.warning → s.record.HasRoom 2 → _ := fun hq hroom =>
      settle_failed (c := c) (h := .missing) (s := U) (by rw [hrecord]; exact hroom) hUdue (by rw [hwarning]; exact hq)
    rw [hexec, hends]
    refine ⟨fun ho => ⟨_, rfl, ?_⟩, fun a ha hq hroom => ?_⟩
    · rw [settle_finish_waits hn hw (by unfold OthersAwaited; rw [hfailAcq]; exact ho)]
      exact ⟨hwith _ hfailure, hleft.trans (by rw [hacq] <;> rfl), fun hq hroom => hentries _ (hquiet hq hroom).2⟩
    · obtain ⟨hsettled, hentered⟩ := hquiet hq hroom
      obtain ⟨-, -, -, y', z, f, w, d, hframe⟩ := failChannel_with_room (c := c) (s := U) (by rw [hrecord]; exact hroom)
      have hout : outFailed c U = (reached failed).withSchedule
          { s.schedule with preWarm := s.schedule.preWarm.set c false } := by
        unfold outFailed
        rw [hfailed, ← hU, setChan_setChan] <;> rfl
      rw [settle_finish_completes hn hw (a := a) (by unfold AwaitedAlone; rw [hfailAcq]; exact ha), hsettled]
      rw [hsettled] at hfailure hentered
      generalize hv : ((handedIn c .missing (failChannel c U)).withDue []).withSchedule
        { ((handedIn c .missing (failChannel c U)).withDue []).schedule with acq := none } = v
      have hvdue : v.due = [] := by rw [← hv]; rfl
      have hvfailure : WithFailure c U v := by
        obtain ⟨h1, h2, h3, h4, h5, h6, h7⟩ := hfailure
        rw [← hv]
        exact ⟨h1, h2, h3, h4, h5, h6, h7⟩
      have hventries : WithEntries c U v := by
        obtain ⟨h1, h2, h3⟩ := hentered
        rw [← hv]
        exact ⟨h1, h2, h3⟩
      refine ⟨_, v, rfl, hwith v hvfailure, hentries v hventries, stageUpdated_settle hvdue _, y', z, f, w, ?_⟩
      rw [hout] at hframe
      rw [← hv]
      exact handedIn_frame hframe hruns.2
  · exact slotReading_bridge hc
  · subst hc
    exact encoderReading_stepped href
  · subst hc
    exact encoderReading_first href
  · subst hc
    exact rangingReading_eq _ _

end Sys2Proof.Machine

/-! The stage record's slots (R69, R74, R77): the usable slots, what a write leaves, and the renumbering. -/

namespace Sys2Proof.Machine

/-! ### The next usable slot (R69) -/

/-- A search that steps by `d` through the 4,096 slots, for as long as `m` holds of the slot it comes to. -/
theorem seek_spec {f : Nat → Nat → Nat} {d : Nat} (m : Nat → Bool) (h0 : ∀ p, f 0 p = (p + d) % 4096)
    (hs : ∀ n p, f (n + 1) p = if m ((p + d) % 4096) then f n ((p + d) % 4096) else (p + d) % 4096) :
    ∀ n p, ∃ j, 1 ≤ j ∧ j ≤ n + 1 ∧ f n p = (p + d * j) % 4096
      ∧ (∀ i, 1 ≤ i → i < j → m ((p + d * i) % 4096) = true) ∧ (m (f n p) = true → j = n + 1) := by
  intro n
  induction n with
  | zero =>
    intro p
    exact ⟨1, le_rfl, le_rfl, by rw [h0, Nat.mul_one], fun i h1 h2 => by omega, fun _ => rfl⟩
  | succ n ih =>
    intro p
    rw [hs]
    cases hm : m ((p + d) % 4096) with
    | false => exact ⟨1, le_rfl, by omega, by rw [Nat.mul_one]; rfl, fun i h1 h2 => by omega, fun h => by simp [hm] at h⟩
    | true =>
      obtain ⟨j, hj, hle, heq, hbefore, hlast⟩ := ih ((p + d) % 4096)
      have hstep : ∀ i, ((p + d) % 4096 + d * i) % 4096 = (p + d * (i + 1)) % 4096 := fun i => by
        rw [Nat.mul_succ]
        omega
      rw [if_pos rfl]
      refine ⟨j + 1, by omega, by omega, by rw [heq, hstep], fun i h1 h2 => ?_, fun h => by rw [hlast h]⟩
      cases i with
      | zero => omega
      | succ i =>
        cases i with
        | zero => rw [Nat.zero_add, Nat.mul_one]; exact hm
        | succ i => rw [← hstep]; exact hbefore (i + 1) (by omega) (by omega)

section
variable {r : Record} (hlen : r.mapOut.length < 4096)

include hlen

/-- Fewer slots are mapped out than there are. -/
theorem exists_usable : ∃ k < 4096, r.mappedOut k = false := by
  by_contra hall
  have hsub : Finset.range 4096 ⊆ (r.mapOut.map MapEntry.slot).toFinset := fun k hk => by
    have hmapped : r.mappedOut k = true := by
      by_contra hno
      exact hall ⟨k, Finset.mem_range.1 hk, by simpa using hno⟩
    obtain ⟨e, he, hek⟩ := List.any_eq_true.1 hmapped
    exact List.mem_toFinset.2 (List.mem_map.2 ⟨e, he, by simpa using hek⟩)
  have hcard := (Finset.card_le_card hsub).trans (List.toFinset_card_le _)
  rw [Finset.card_range, List.length_map] at hcard
  omega

/-- The next usable slot after `p`, past mapped-out slots alone. -/
theorem nextUsable_spec (p : Nat) : ∃ j, 1 ≤ j ∧ j ≤ 4096 ∧ r.nextUsable 4096 p = (p + j) % 4096
    ∧ (∀ i, 1 ≤ i → i < j → r.mappedOut ((p + i) % 4096) = true) ∧ r.mappedOut (r.nextUsable 4096 p) = false := by
  obtain ⟨j, hj, hle, heq, hbefore, hlast⟩ := seek_spec (f := r.nextUsable) (d := 1) r.mappedOut (fun _ => rfl)
    (fun _ _ => rfl) 4096 p
  simp only [one_mul] at heq hbefore
  have husable : r.mappedOut (r.nextUsable 4096 p) = false := by
    by_contra hmapped
    obtain ⟨k, hk, hfree⟩ := exists_usable hlen
    have hj := hlast (by simpa using hmapped)
    have := hbefore ((4095 + k - p % 4096) % 4096 + 1) (by omega) (by omega)
    rw [show (p + ((4095 + k - p % 4096) % 4096 + 1)) % 4096 = k by omega, hfree] at this
    exact Bool.noConfusion this
  refine ⟨j, hj, ?_, heq, hbefore, husable⟩
  by_contra hgt
  have := hbefore (j - 4096) (by omega) (by omega)
  rw [show (p + (j - 4096)) % 4096 = (p + j) % 4096 by omega, ← heq, husable] at this
  exact Bool.noConfusion this

/-- The last usable slot. -/
theorem prevUsable_spec : r.prevUsable 4096 0 < 4096 ∧ r.mappedOut (r.prevUsable 4096 0) = false
    ∧ ∀ k, r.prevUsable 4096 0 < k → k < 4096 → r.mappedOut k = true := by
  obtain ⟨j, hj, hle, heq, hbefore, hlast⟩ := seek_spec (f := r.prevUsable) (d := 4095) r.mappedOut (fun _ => rfl)
    (fun _ _ => rfl) 4096 0
  have husable : r.mappedOut (r.prevUsable 4096 0) = false := by
    by_contra hmapped
    obtain ⟨k, hk, hfree⟩ := exists_usable hlen
    have hj := hlast (by simpa using hmapped)
    have := hbefore (4096 - k) (by omega) (by omega)
    rw [show (0 + 4095 * (4096 - k)) % 4096 = k by omega, hfree] at this
    exact Bool.noConfusion this
  refine ⟨by omega, husable, fun k hk hlt => ?_⟩
  have := hbefore (4096 - k) (by omega) (by omega)
  rwa [show (0 + 4095 * (4096 - k)) % 4096 = k by omega] at this

theorem nextSlot_usable : r.nextSlot < 4096 ∧ r.mappedOut r.nextSlot = false := by
  obtain ⟨j, -, -, heq, -, husable⟩ := nextUsable_spec hlen r.writePos
  refine ⟨?_, husable⟩
  rw [Record.nextSlot, heq]
  omega

/-- The first usable slot follows the last one. -/
theorem nextUsable_last : let m := r.nextUsable 4096 (r.prevUsable 4096 0)
    r.mappedOut m = false ∧ ∀ k, k < m → r.mappedOut k = true := by
  intro m
  obtain ⟨hlast, -, habove⟩ := prevUsable_spec hlen
  obtain ⟨j, hj, hle, heq, hbefore, husable⟩ := nextUsable_spec hlen (r.prevUsable 4096 0)
  refine ⟨husable, fun k hk => ?_⟩
  have hwraps : 4096 ≤ r.prevUsable 4096 0 + j := by
    by_contra hno
    have := habove (r.prevUsable 4096 0 + j) (by omega) (by omega)
    rw [heq, Nat.mod_eq_of_lt (by omega)] at husable
    exact Bool.noConfusion (this.symm.trans husable)
  have hm : m = r.prevUsable 4096 0 + j - 4096 := by
    show r.nextUsable 4096 _ = _
    rw [heq]
    omega
  have := hbefore (4096 - r.prevUsable 4096 0 + k) (by omega) (by omega)
  rwa [show (r.prevUsable 4096 0 + (4096 - r.prevUsable 4096 0 + k)) % 4096 = k by omega] at this

end

/-! ### Writing a slot (R74, R84) -/

section
variable {r : Record}

theorem Record.cell_writeSlot (h : r.wf = true) (n m : Nat) (c : Slot) : (r.writeSlot n c).cell m
    = if m = n then (if r.cell n = .hard then .hard else .clean) else r.cell m := by
  simp only [Record.wf, Bool.and_eq_true] at h
  unfold writeSlot
  by_cases hhard : r.cell n = .hard
  · rw [if_pos hhard, if_pos hhard]
    by_cases hm : m = n
    · rw [hm, if_pos rfl]
      exact hhard
    · rw [if_neg hm]
      rfl
  · rw [if_neg hhard, if_neg hhard]
    exact Sparse.read_write _ _ h.2 n m .clean

/-- A write of a slot, whatever else of the record but its slots and cells is then changed. -/
theorem rewritten_writeSlot (h : r.wf = true) (n : Nat) (c : Slot) : r.Rewritten n c (r.writeSlot n c) := by
  refine ⟨rfl, ?_, fun m hm => ?_, ?_, fun m hm => ?_⟩
  · rw [r.slot_writeSlot h, if_pos rfl]
  · rw [r.slot_writeSlot h, if_neg hm]
  · rw [r.cell_writeSlot h, if_pos rfl]
  · rw [r.cell_writeSlot h, if_neg hm]

theorem Record.place_eq (e : Entry) : r.place e
    = { r with next := r.next + 1, writePos := r.nextSlot }.writeSlot r.nextSlot (.entry r.next e) := rfl

/-- The placed item is found in its slot (R77). -/
theorem slotOf_place (hlen : r.mapOut.length < 4096) (e : Entry) : (r.place e).slotOf r.next = r.nextSlot := by
  have hfree : (r.place e).mappedOut (r.place e).writePos = false := (nextSlot_usable hlen).2
  unfold Record.slotOf
  rw [hfree]
  have hzero : (r.place e).next - 1 - r.next = 0 := by
    show r.next + 1 - 1 - r.next = 0
    omega
  dsimp only
  rw [hzero, Nat.zero_sub]
  rfl

/-! ### The renumbering (R70) -/

theorem read_filter_ne {α : Type} (d : α) {p : Nat → Bool} : ∀ (m : List (Nat × α)) {k : Nat}, p k = false →
    Sparse.read d (m.filter fun x => p x.1) k = d
  | [], _, _ => rfl
  | (a, v) :: m, k, hk => by
    by_cases ha : p a = true
    · rw [List.filter_cons_of_pos (by exact ha), Sparse.read, if_neg (by rintro rfl; simp [hk] at ha),
        read_filter_ne d m hk]
    · rw [List.filter_cons_of_neg (by exact ha), read_filter_ne d m hk]

theorem mappedOut_map (f : MapEntry → MapEntry) (hf : ∀ e, (f e).slot = e.slot) (n : Nat) :
    ({ r with mapOut := r.mapOut.map f } : Record).mappedOut n = r.mappedOut n := by
  unfold Record.mappedOut
  simp only [List.any_map, Function.comp_def, hf]

theorem mappedOut_renumbered (n : Nat) : r.renumbered.mappedOut n = r.mappedOut n :=
  mappedOut_map (fun e => { e with lost := none }) (fun _ => rfl) n

theorem slot_renumbered {k : Nat} (hk : r.mappedOut k = false) : r.renumbered.slot k = .empty := by
  show Sparse.read Slot.empty (r.slots.filter fun x => r.mappedOut x.1) k = _
  exact read_filter_ne (p := r.mappedOut) Slot.empty r.slots hk

/-- A record that has renumbered itself, from the record `r` whose last append took the last sequence (R70). -/
structure Renumbered (time : U32) (r x : Record) : Prop where
  oldest : x.oldest = 1
  next : x.next = 2
  loggerCursor : x.loggerCursor = 1
  warningCursor : x.warningCursor = 1
  mapOut : x.mapOut = r.mapOut.map fun y => { y with lost := none }
  hard : ∀ k, r.cell k = .hard → x.cell k = .hard
  slots : ∃ m, (∀ k, k < m → r.mappedOut k = true) ∧ r.mappedOut m = false ∧ x.writePos = m
    ∧ x.slot m = .entry 1 (.restart time .renumber) ∧ ∀ k, k ≠ m → r.mappedOut k = false → x.slot k = .empty

theorem renumbered_place (hs : r.Sound) (time : U32) :
    Renumbered time r (r.renumbered.place (.restart time .renumber)) := by
  have hlen : r.mapOut.length < 4096 := by have := hs.2; omega
  have hslot : r.renumbered.nextSlot = r.nextUsable 4096 (r.prevUsable 4096 0) := by
    have hsame : ∀ n p, r.renumbered.nextUsable n p = r.nextUsable n p := fun n => by
      induction n with
      | zero => intro p; rfl
      | succ n ih =>
        intro p
        unfold Record.nextUsable
        rw [mappedOut_renumbered, ih]
    exact hsame 4096 (r.prevUsable 4096 0)
  obtain ⟨hfree, hbelow⟩ := nextUsable_last hlen
  obtain ⟨-, hwritten, hothers, hcell, hcells⟩ := rewritten_writeSlot
    (r := { r.renumbered with next := r.renumbered.next + 1, writePos := r.renumbered.nextSlot }) hs.renumbered.1
    r.renumbered.nextSlot (.entry r.renumbered.next (.restart time .renumber))
  rw [Record.place_eq]
  refine ⟨rfl, rfl, rfl, rfl, rfl, fun k hk => ?_, r.renumbered.nextSlot, ?_, ?_, rfl, hwritten, fun k hk hfree => ?_⟩
  · by_cases hkn : k = r.renumbered.nextSlot
    · rw [hkn] at hk ⊢
      exact hcell.trans (if_pos hk)
    · exact (hcells k hkn).trans hk
  · rw [hslot]; exact hbelow
  · rw [hslot]; exact hfree
  · exact (hothers k hk).trans (slot_renumbered hfree)

theorem Renumbered.of_place {time : U32} {e : Entry} {x : Record} (hs : r.Sound) (h : Renumbered time (r.place e) x) :
    Renumbered time r x := by
  obtain ⟨h1, h2, h3, h4, h5, h6, m, h7, h8, h9, h10, h11⟩ := h
  refine ⟨h1, h2, h3, h4, h5, fun k hk => h6 k ?_, m, h7, h8, h9, h10, h11⟩
  have hcells := (rewritten_writeSlot (r := { r with next := r.next + 1, writePos := r.nextSlot }) hs.1 r.nextSlot
    (.entry r.next e)).2.2.2
  by_cases hkn : k = r.nextSlot
  · rw [hkn] at hk ⊢
    exact hcells.1.trans (if_pos hk)
  · exact (hcells.2 k hkn).trans hk

/-- An append to a record with a free slot, with the last sequence or before it (R70, R74). -/
theorem placeOrRenumber_cases (hs : r.Sound) (e : Entry) (time : U32) :
    (r.next + 1 ≠ 4294967296 → r.placeOrRenumber e time = r.place e)
    ∧ (r.next + 1 = 4294967296 → Renumbered time r (r.placeOrRenumber e time)) :=
  ⟨fun h => if_neg h, fun h => by
    have hlast : r.placeOrRenumber e time = (r.place e).renumbered.place (.restart time .renumber) := if_pos h
    rw [hlast]
    exact (renumbered_place (hs.place e) time).of_place hs⟩

end

/-! ### Discard steps (R75, R76) -/

/-- How many discard steps can still free no slot: one for each lost sequence, one for each slot that can still be
mapped out. -/
def Record.stuck (r : Record) : Nat := r.lostCount + (16 - r.mapOut.length)

theorem Record.stuck_le {r : Record} (h : r.Sound) : r.stuck ≤ 16 := by
  have hlost : r.lostCount ≤ r.mapOut.length := List.countP_le_length
  have := h.2
  unfold stuck
  omega

theorem countP_dropLost (q : Nat) : ∀ es : List MapEntry, (es.any fun e => decide (e.lost = some q)) = true →
    (es.map fun e => if e.lost = some q then { e with lost := none } else e).countP (fun e => e.lost.isSome)
      < es.countP fun e => e.lost.isSome := by
  have hle : ∀ es : List MapEntry,
      (es.map fun e => if e.lost = some q then { e with lost := none } else e).countP (fun e => e.lost.isSome)
        ≤ es.countP fun e => e.lost.isSome := fun es => by
    rw [List.countP_map]
    refine List.countP_mono_left fun e _ h => ?_
    simp only [Function.comp_apply] at h
    split at h
    · simp at h
    · exact h
  intro es
  induction es with
  | nil => intro h; simp at h
  | cons e es ih =>
    intro h
    have hrest := hle es
    rw [List.any_cons, Bool.or_eq_true] at h
    rw [List.map_cons, List.countP_cons, List.countP_cons]
    by_cases he : e.lost = some q
    · simp only [he, ↓reduceIte, Option.isSome_none, Bool.false_eq_true, Option.isSome_some]
      omega
    · have := ih (h.resolve_left (by simpa using he))
      simp only [he, ↓reduceIte]
      omega

/-! ### The judgement of a slot (R77, R81, R82) -/

section
variable {r : Record} {n q : Nat}

theorem carries_iff : r.Carries n q ↔ (r.slot n).sequence? = some q := by
  unfold Record.Carries
  cases r.slot n <;> simp [Slot.sequence?]

theorem judge_good (hc : r.cell n = .clean) (h : r.Carries n q) : r.judge n q = .good := by
  simp [Record.judge, hc, carries_iff.1 h]

theorem judge_correctable (hc : r.cell n = .correctable) (h : r.Carries n q) : r.judge n q = .correctable := by
  simp [Record.judge, hc, carries_iff.1 h]

theorem judge_damaged (h : r.cell n = .soft ∨ ((r.cell n = .clean ∨ r.cell n = .correctable) ∧ ¬r.Carries n q)) :
    r.judge n q = .bad false := by
  rw [carries_iff] at h
  rcases h with hc | ⟨hc | hc, hno⟩ <;> simp [Record.judge, *]

theorem judge_hard (hc : r.cell n = .hard) : r.judge n q = .bad true := by simp [Record.judge, hc]

end

section
variable {r : Record}

/-- The record without its oldest sequence. -/
def Record.passed (r : Record) : Record := { r with oldest := r.oldest + 1 }

theorem discard_lost (h : r.lost r.oldest = true) :
    r.discard = ({ r.dropLost r.oldest with oldest := r.oldest + 1 }, r.lossReports r.oldest, false) := by
  unfold Record.discard
  exact if_pos h

theorem discard_held (h : r.lost r.oldest = false) : r.discard
    = ({ r.overwriteCheck.1 with oldest := r.oldest + 1 }, r.overwriteCheck.2.1 ++ r.lossReports r.oldest,
      r.overwriteCheck.2.2) := by
  unfold Record.discard
  exact if_neg (by simp [h])

theorem overwriteCheck_good (h : r.judge r.nextSlot r.oldest = .good) : r.overwriteCheck = (r, [], true) := by
  unfold Record.overwriteCheck
  dsimp only
  rw [h]

theorem overwriteCheck_correctable (h : r.judge r.nextSlot r.oldest = .correctable) :
    r.overwriteCheck = (r, [{ fault := .recordCorrected, arg := .number r.nextSlot }], true) := by
  unfold Record.overwriteCheck
  dsimp only
  rw [h]

theorem overwriteCheck_damaged (h : r.judge r.nextSlot r.oldest = .bad false) :
    r.overwriteCheck = (r, [{ fault := .recordDamaged, arg := .number r.oldest }], true) := by
  unfold Record.overwriteCheck
  dsimp only
  rw [h]

theorem overwriteCheck_hard (h : r.judge r.nextSlot r.oldest = .bad true) : r.overwriteCheck
    = if r.mapOut.length < 16 then
        (r.mapSlot r.nextSlot none, [{ fault := .recordMappedOut, arg := .number r.nextSlot }], false)
      else
        (r, [{ fault := .recordDamaged, arg := .number r.oldest }, { fault := .recordMapFull, arg := .number r.nextSlot }],
          true) := by
  unfold Record.overwriteCheck
  dsimp only
  rw [h]

/-- A discard step frees its slot, or it drops a lost sequence, or it maps a hard slot out. -/
theorem discard_cases : r.discard.2.2 = true
    ∨ (r.lost r.oldest = true ∧ r.discard.1 = { r.dropLost r.oldest with oldest := r.oldest + 1 })
    ∨ (r.lost r.oldest = false ∧ r.mapOut.length < 16
      ∧ r.discard.1 = { r.mapSlot r.nextSlot none with oldest := r.oldest + 1 }) := by
  cases hlost : r.lost r.oldest with
  | true => exact .inr (.inl ⟨rfl, by rw [discard_lost hlost]⟩)
  | false =>
    rw [discard_held hlost]
    cases hj : r.judge r.nextSlot r.oldest with
    | good => exact .inl (by rw [overwriteCheck_good hj])
    | correctable => exact .inl (by rw [overwriteCheck_correctable hj])
    | bad hard =>
      cases hard with
      | false => exact .inl (by rw [overwriteCheck_damaged hj])
      | true =>
        rw [overwriteCheck_hard hj]
        by_cases hlen : r.mapOut.length < 16
        · exact .inr (.inr ⟨rfl, hlen, by rw [if_pos hlen]⟩)
        · exact .inl (by rw [if_neg hlen])

theorem lostCount_dropLost (h : r.lost r.oldest = true) : (r.dropLost r.oldest).lostCount < r.lostCount :=
  countP_dropLost r.oldest r.mapOut h

theorem lostCount_mapSlot (n : Nat) : (r.mapSlot n none).lostCount = r.lostCount := by
  simp [Record.lostCount, Record.mapSlot, List.countP_append]

theorem length_dropLost (q : Nat) : (r.dropLost q).mapOut.length = r.mapOut.length := by simp [Record.dropLost]

theorem stuck_lt_of_discard (hno : r.discard.2.2 = false) : r.discard.1.stuck < r.stuck := by
  rcases discard_cases (r := r) with hfree | ⟨hlost, he⟩ | ⟨-, hlen, he⟩
  · exact absurd (hfree.symm.trans hno) Bool.noConfusion
  · rw [he]
    show (r.dropLost r.oldest).lostCount + (16 - (r.dropLost r.oldest).mapOut.length) < r.stuck
    have := lostCount_dropLost hlost
    rw [length_dropLost, Record.stuck]
    omega
  · rw [he]
    show (r.mapSlot r.nextSlot none).lostCount + (16 - (r.mapSlot r.nextSlot none).mapOut.length) < r.stuck
    rw [lostCount_mapSlot, Record.stuck, Record.mapSlot, List.length_append, List.length_singleton]
    omega

/-- A discard step that frees no slot leaves the record full (R75). -/
theorem full_of_discard (h : r.Sound) (hfull : r.full = true) (hno : r.discard.2.2 = false) : r.discard.1.full = true := by
  have hsixteen := h.2
  rw [Record.full, decide_eq_true_iff] at hfull ⊢
  unfold Record.capacity Record.held at hfull ⊢
  rcases discard_cases (r := r) with hfree | ⟨hlost, he⟩ | ⟨-, hlen, he⟩
  · exact absurd (hfree.symm.trans hno) Bool.noConfusion
  · rw [he]
    have := lostCount_dropLost hlost
    show 4096 - (r.dropLost r.oldest).mapOut.length ≤ r.next - (r.oldest + 1) - (r.dropLost r.oldest).lostCount
    rw [length_dropLost]
    omega
  · rw [he]
    show 4096 - (r.mapSlot r.nextSlot none).mapOut.length ≤ r.next - (r.oldest + 1) - (r.mapSlot r.nextSlot none).lostCount
    rw [lostCount_mapSlot, Record.mapSlot, List.length_append, List.length_singleton]
    omega

end

/-- More fuel than there are steps that free no slot is as good as any. -/
theorem discardSteps_fuel : ∀ (n m : Nat) {s : State}, s.record.stuck < n → s.record.stuck < m →
    discardSteps n s = discardSteps m s := by
  intro n
  induction n with
  | zero => intro m s h; omega
  | succ n ih =>
    intro m s hn hm
    cases m with
    | zero => omega
    | succ m =>
      unfold discardSteps
      dsimp only
      split
      · rfl
      · rename_i hno
        have hlt := stuck_lt_of_discard (r := s.record) (by simpa using hno)
        exact ih m (by rw [takeBatch_record, State.withRecord_record]; omega)
          (by rw [takeBatch_record, State.withRecord_record]; omega)

end Sys2Proof.Machine

/-! An append to the stage record (R70, R74 to R78). -/

namespace Sys2Proof.Machine

/-- RECORD stands at each reader's port whose cursor is behind (R78). -/
def RecordHanded (t : State) : Prop :=
  (t.ports.logger.events.record = true ↔ t.record.loggerCursor < t.record.next)
  ∧ (t.ports.warning.events.record = true ↔ t.record.warningCursor < t.record.next)

theorem recordHanded_syncRecord (s : State) : RecordHanded (syncRecord s) := by
  have hlogger := syncRecord_event (p := .logger) (by decide) s
  have hwarning := syncRecord_event (p := .warning) (by decide) s
  constructor
  · show ((syncRecord s).ports.get .logger).events.record = true ↔ _
    rw [hlogger, decide_eq_true_iff]
    rfl
  · show ((syncRecord s).ports.get .warning).events.record = true ↔ _
    rw [hwarning, decide_eq_true_iff]
    rfl

/-- The item has been placed in slot `n` of the record `before` (R74, R77). -/
def PlacedIn (e : Entry) (n : Nat) (before : Record) (t : State) : Prop :=
  Record.Rewritten { before with next := before.next + 1, writePos := n } n (.entry before.next e) t.record
  ∧ t.record.slotOf before.next = n ∧ RecordHanded t

section
variable {e : Entry} {s t : State} {before : Record}

/-- A renumbering says nothing of a record but its slots' conditions and its map-out table. -/
theorem Renumbered.of_same {time : U32} {r x : Record} (h : Renumbered time before x) (hmap : before.mapOut = r.mapOut)
    (hcells : before.cells = r.cells) : Renumbered time r x := by
  obtain ⟨h1, h2, h3, h4, h5, h6, m, h7, h8, h9, h10, h11⟩ := h
  unfold Record.mappedOut at h7 h8 h11
  rw [hmap] at h5 h7 h8 h11
  unfold Record.cell at h6
  rw [hcells] at h6
  exact ⟨h1, h2, h3, h4, h5, h6, m, h7, h8, h9, h10, h11⟩

/-- What an append to a record with a free slot leaves, whatever went before it. -/
theorem appended_cases (hs : before.Sound)
    (ht : append e s = syncRecord (t.withRecord (before.placeOrRenumber e s.time.station))) :
    (before.next + 1 ≠ 4294967296 → PlacedIn e before.nextSlot before (append e s))
    ∧ (before.next + 1 = 4294967296 →
        Renumbered s.time.station before (append e s).record ∧ RecordHanded (append e s)) := by
  have hhanded : RecordHanded (append e s) := by
    rw [ht]
    exact recordHanded_syncRecord _
  have hrecord : (append e s).record = before.placeOrRenumber e s.time.station := by rw [ht]; rfl
  obtain ⟨hplace, hrenumber⟩ := placeOrRenumber_cases hs e s.time.station
  refine ⟨fun h => ⟨?_, ?_, hhanded⟩, fun h => ⟨hrecord ▸ hrenumber h, hhanded⟩⟩
  · rw [hrecord, hplace h, Record.place_eq]
    exact rewritten_writeSlot (r := { before with next := before.next + 1, writePos := before.nextSlot }) hs.1 _ _
  · rw [hrecord, hplace h]
    exact slotOf_place (by have := hs.2; omega) e

theorem discardSteps_freed (n : Nat) {reports : List Report} (hd : s.record.discard = (before, reports, true)) :
    discardSteps (n + 1) s = takeBatch reports (s.withRecord before) := by
  unfold discardSteps
  rw [hd]
  rfl

theorem discardSteps_stuck (n : Nat) {reports : List Report} (hd : s.record.discard = (before, reports, false)) :
    discardSteps (n + 1) s = discardSteps n (takeBatch reports (s.withRecord before)) := by
  conv_lhs => unfold discardSteps
  rw [hd]
  rfl

/-- An append to a full record whose first discard step frees a slot. -/
theorem append_freed {reports : List Report} (hfull : s.record.full = true)
    (hd : s.record.discard = (s.record.passed, reports, true)) :
    append e s = syncRecord ((takeBatch reports (s.withRecord s.record.passed)).withRecord
      (s.record.passed.placeOrRenumber e s.time.station)) := by
  have hstep := discardSteps_freed (s.record.mapOut.length + 17) hd
  unfold append
  dsimp only
  rw [if_pos hfull, hstep, takeBatch_record, takeBatch_time, State.withRecord_record, State.withRecord_time]

/-- An append to a full record whose first discard step frees none goes on with the next oldest. -/
theorem append_goesOn {reports : List Report} (hs : s.record.Sound) (hfull : s.record.full = true)
    (hd : s.record.discard = (before, reports, false)) :
    append e s = append e (takeBatch reports (s.withRecord before)) := by
  have hno : s.record.discard.2.2 = false := by rw [hd]
  have hbefore : s.record.discard.1 = before := by rw [hd]
  have hfull' := full_of_discard hs hfull hno
  have hstuck := stuck_lt_of_discard hno
  have hle := Record.stuck_le hs
  have hstep := discardSteps_stuck (s.record.mapOut.length + 17) hd
  rw [hbefore] at hfull' hstuck
  have hrecord : (takeBatch reports (s.withRecord before)).record = before := by
    rw [takeBatch_record, State.withRecord_record]
  have hfuel : discardSteps (s.record.mapOut.length + 17) (takeBatch reports (s.withRecord before))
      = discardSteps (before.mapOut.length + 18) (takeBatch reports (s.withRecord before)) :=
    discardSteps_fuel _ _ (by rw [hrecord]; omega) (by rw [hrecord]; omega)
  unfold append
  dsimp only
  rw [if_pos hfull, hstep, hfuel, hrecord, if_pos hfull']

theorem nextUsable_congr {r r' : Record} (h : r'.mapOut = r.mapOut) : ∀ n p, r'.nextUsable n p = r.nextUsable n p := by
  have hmapped : ∀ k, r'.mappedOut k = r.mappedOut k := fun k => by
    unfold Record.mappedOut
    rw [h]
  intro n
  induction n with
  | zero => intro p; rfl
  | succ n ih =>
    intro p
    unfold Record.nextUsable
    rw [hmapped, ih]

theorem nextSlot_congr {r r' : Record} (h : r'.mapOut = r.mapOut) (hw : r'.writePos = r.writePos) :
    r'.nextSlot = r.nextSlot := by
  unfold Record.nextSlot
  rw [hw]
  exact nextUsable_congr h _ _

theorem nextSlot_passed (r : Record) : r.passed.nextSlot = r.nextSlot := nextSlot_congr rfl rfl

/-- An append to a record that is not full reaches the record and the ports alone. -/
theorem append_room_frame (hroom : s.record.full = false) : ∃ x w, append e s = (s.withRecord x).withPorts w := by
  rw [append_of_not_full hroom]
  generalize s.record.placeOrRenumber e s.time.station = r
  exact ⟨r, _, rfl⟩

theorem append_freed_frame {reports : List Report} (hfull : s.record.full = true)
    (hd : s.record.discard = (s.record.passed, reports, true)) : ∃ x w d, append e s
      = (((s.withRecord x).withFaults (takeReports s.time.station s.faults reports)).withPorts w).withDue d := by
  rw [append_freed hfull hd]
  obtain ⟨f, w, d, h⟩ := takeBatch_frame reports (s.withRecord s.record.passed)
  have hfaults : f = takeReports s.time.station s.faults reports := by
    have := takeBatch_faults reports (s.withRecord s.record.passed)
    rw [h] at this
    exact this
  rw [h, hfaults]
  generalize s.record.passed.placeOrRenumber e s.time.station = r
  generalize takeReports s.time.station s.faults reports = u
  exact ⟨r, (syncRecord ((((s.withRecord s.record.passed).withFaults u).withPorts w).withDue d |>.withRecord r)).ports, d, rfl⟩

end

/-- Settles O34: an append with room, the discard step of a full record case by case, and the renumbering. -/
theorem appendPlaces : Obligations.AppendPlaces := by
  unfold Obligations.AppendPlaces
  intro e s hs r n oldest read lost losses handed placedIn renumbered frees goesOn right damaged
  have hsound : s.record.Sound := hs
  have hlen : s.record.mapOut.length < 4096 := by have := hs.2; omega
  obtain ⟨hn, hfree⟩ := nextSlot_usable hlen
  have hrenumbered : ∀ {before : Record} {t : State}, before.mapOut = r.mapOut → before.cells = r.cells →
      Renumbered s.time.station before t.record ∧ RecordHanded t → renumbered t := by
    intro before t hmap hcells h
    obtain ⟨h1, h2, h3, h4, h5, h6, h7⟩ := h.1.of_same hmap hcells
    exact ⟨h.2, h1, h2, h3, h4, h5, h6, h7⟩
  have hfrees : ∀ {reports : List Report}, r.full = true → r.discard = (r.passed, reports, true) → frees reports := by
    intro reports hfull hd
    obtain ⟨hplaced, hlast⟩ := appended_cases (e := e) (before := r.passed) hsound (append_freed hfull hd)
    rw [nextSlot_passed] at hplaced
    exact ⟨fun h => hplaced (by show r.next + 1 ≠ _; omega), fun h => hrenumbered (before := r.passed) rfl rfl (hlast h),
      fun _ => append_freed_frame hfull hd⟩
  refine ⟨hn, hfree, fun hroom hnext => ?_, fun hfull hlost => ?_, fun hfull hheld => ⟨fun hc hr => ?_, fun hc hr => ?_, fun hc => ?_,
    fun hc hlen => ?_, fun hc hlen => ?_⟩, fun hroom hnext => ?_⟩
  · obtain ⟨hplaced, -⟩ := appended_cases (e := e) (t := s) hsound (append_of_not_full hroom e)
    exact ⟨hplaced (by show r.next + 1 ≠ _; omega), append_room_frame hroom⟩
  · exact append_goesOn hsound hfull (discard_lost hlost)
  · exact hfrees hfull (by rw [discard_held hheld, overwriteCheck_good (judge_good hc hr)] <;> rfl)
  · exact hfrees hfull (by rw [discard_held hheld, overwriteCheck_correctable (judge_correctable hc hr)] <;> rfl)
  · exact hfrees hfull (by rw [discard_held hheld, overwriteCheck_damaged (judge_damaged hc)] <;> rfl)
  · exact append_goesOn hsound hfull (by
      rw [discard_held hheld, overwriteCheck_hard (judge_hard hc), if_pos hlen] <;> rfl)
  · exact hfrees hfull (by
      rw [discard_held hheld, overwriteCheck_hard (judge_hard hc), if_neg (by omega)] <;> rfl)
  · obtain ⟨-, hlast⟩ := appended_cases (e := e) (t := s) hsound (append_of_not_full hroom e)
    exact ⟨hrenumbered rfl rfl (hlast hnext), append_room_frame hroom⟩

end Sys2Proof.Machine

/-! The items of READ_RECORDS as they are laid out (11.6). -/

namespace Sys2Proof.Machine

/-- An item's 24 bytes: its type, its number, its body, and 0 in every byte not named. -/
def paddedItem (t : Byte) (n : Nat) (body : List Byte) : List Byte :=
  let bytes := t :: (u32 n ++ body)
  bytes ++ List.replicate (24 - bytes.length) 0

theorem itemBytes_gap (first count : Nat) : itemBytes (.gap first count) = paddedItem 0x80 first (u32 count) := rfl

theorem itemBytes_damaged (q : Nat) : itemBytes (.damaged q) = paddedItem 0x81 q [] := by
  unfold paddedItem
  rw [List.append_nil]
  rfl

theorem itemBytes_entry (q : Nat) (e : Entry) :
    itemBytes (.entry q e) = paddedItem (entryType e) q (entryBody e) := rfl

/-- A padded item is laid out by its type, its number and the fields of its body and of the zeros behind it. -/
theorem paddedItem_laid {t : Byte} {n : Nat} {body : List Byte} {k : Int} {fs : List Field} (hk : k = t.toNat)
    (hbody : LaidFrom 5 (body ++ (List.replicate (19 - body.length) 0#8 ++ [])) 24 fs) :
    LaidFrom 0 (paddedItem t n body) 24 (unsignedField 0 1 k :: unsignedField 1 4 n :: fs) := by
  have hlen : (t :: (u32 n ++ body)).length = 5 + body.length := by
    rw [List.length_cons, List.length_append, u32, beU_length]
    omega
  have hbytes : paddedItem t n body = t :: (u32 n ++ (body ++ (List.replicate (19 - body.length) 0#8 ++ []))) := by
    unfold paddedItem
    dsimp only
    rw [hlen, show 24 - (5 + body.length) = 19 - body.length by omega, List.append_nil, List.cons_append,
      List.append_assoc] <;> rfl
  rw [hbytes]
  exact (laidFrom_byte hk).2 ((laidFrom_u32 rfl).2 hbody)

/-- An entry's item, its sequence named before its type. -/
theorem itemBytes_entry_laid (q : Nat) (e : Entry) {k : Int} {fs : List Field} (hk : k = (entryType e).toNat)
    (hbody : LaidFrom 5 (entryBody e ++ (List.replicate (19 - (entryBody e).length) 0#8 ++ [])) 24 fs) :
    Laid (itemBytes (.entry q e)) 24 (unsignedField 1 4 q :: unsignedField 0 1 k :: fs) := by
  rw [itemBytes_entry]
  refine LaidFrom.laid (paddedItem_laid hk hbody) fun g hg => ?_
  simp only [List.mem_cons] at hg ⊢
  tauto

theorem itemBytes_gap_laid (first count : Nat) : Laid (itemBytes (.gap first count)) 24
    [unsignedField 0 1 0x80, unsignedField 1 4 first, unsignedField 5 4 count, unsignedField 9 8 0,
      unsignedField 17 7 0] := by
  rw [itemBytes_gap]
  refine LaidFrom.laid (paddedItem_laid rfl ?_) fun g hg => hg
  rw [show (u32 count).length = 4 from beU_length 4 count]
  exact (laidFrom_u32 rfl).2 ((laidFrom_zeros (by omega)).2 ((laidFrom_zeros (by omega)).2 (laidFrom_end 24)))

theorem itemBytes_damaged_laid (q : Nat) : Laid (itemBytes (.damaged q)) 24
    [unsignedField 0 1 0x81, unsignedField 1 4 q, unsignedField 5 8 0, unsignedField 13 8 0,
      unsignedField 21 3 0] := by
  rw [itemBytes_damaged]
  refine LaidFrom.laid (paddedItem_laid rfl ?_) fun g hg => hg
  exact (laidFrom_zeros (by decide)).2 ((laidFrom_zeros (by decide)).2 ((laidFrom_zeros (by decide)).2 (laidFrom_end 24)))

/-- The fields of an entry's body and of the zeros behind it (11.6). -/
def bodyFields (e : Entry) : List Field :=
  let u := unsignedField
  let i := signedField
  match e with
  | .sample x =>
    [u 5 4 x.time.toNat, i 9 2 (x.stage.getD 0), u 11 1 (qualityCode x.quality),
      u 12 1 (weigh x.substituted 1 + weigh x.disagree 2 + weigh x.clamped 4),
      u 13 1 (x.source.elim 255 fun c => chanNumber c), i 14 2 x.rate, u 16 1 (weigh x.rateValid 1),
      u 17 4 x.discharge, u 21 1 (dischargeQualityCode x.dischargeQuality),
      u 22 1 (x.level + 16 * causeCode x.cause : Nat), u 23 1 x.generation.toNat]
  | .timeStep old new => [u 5 4 old.toNat, u 9 4 new.toNat, u 13 8 0, u 21 3 0]
  | .warning time old new cause =>
    [u 5 4 time.toNat, u 9 1 old, u 10 1 new, u 11 1 (warningCauseCode cause),
      u 12 1 (match cause with
        | .rule n => n
        | _ => 0),
      u 13 8 0, u 21 3 0]
  | .run x =>
    [u 5 2 x.number.toNat, u 7 4 x.openTime.toNat, u 11 4 x.closeTime.toNat,
      u 15 1 (runOutcomeCode x.outcome + 16 * shiftStatusCode x.status : Nat), i 16 2 (x.meanStage.getD 0),
      u 18 4 (x.discharge.getD 0), i 22 2 x.shift]
  | .channel time c change =>
    [u 5 4 time.toNat, u 9 1 (chanNumber c), u 10 1 (channelChangeCode change), u 11 8 0, u 19 5 0]
  | .restart time kind =>
    [u 5 4 time.toNat, u 9 1 (restartKindCode kind), u 10 1 (restartSourceCode kind), u 11 8 0, u 19 5 0]

theorem entryBody_laid (e : Entry) :
    LaidFrom 5 (entryBody e ++ (List.replicate (19 - (entryBody e).length) 0#8 ++ [])) 24 (bodyFields e) := by
  cases e with
  | sample x =>
    simp only [bodyFields, entryBody, absentZero, chanOrNone_eq, weigh_add_weigh, List.append_assoc]
    simp [bitNumber_add_weigh, u8, u32, s16, -List.append_nil, -List.reduceReplicate]
  | timeStep old new => simp [bodyFields, entryBody, -List.append_nil, -List.reduceReplicate]
  | warning time old new cause =>
    cases cause <;> simp [bodyFields, entryBody, u8, -List.append_nil, -List.reduceReplicate]
  | run x => simp [bodyFields, entryBody, absentZero, u8, s16, -List.append_nil, -List.reduceReplicate]
  | channel time c change => simp [bodyFields, entryBody, u8, -List.append_nil, -List.reduceReplicate]
  | restart time kind => simp [bodyFields, entryBody, u8, -List.append_nil, -List.reduceReplicate]

end Sys2Proof.Machine

/-! READ_RECORDS (R79 to R85): the reading from a cursor on, whatever the memory's condition, of sound slots, and of
one sequence. -/

namespace Sys2Proof.Machine

/-! ### The slot of a sequence (R77) -/

theorem prevUsable_congr {r r' : Record} (h : r'.mapOut = r.mapOut) : ∀ n k, r'.prevUsable n k = r.prevUsable n k := by
  have hmapped : ∀ k, r'.mappedOut k = r.mappedOut k := fun k => by
    unfold Record.mappedOut
    rw [h]
  intro n
  induction n with
  | zero => intro k; rfl
  | succ n ih =>
    intro k
    unfold Record.prevUsable
    rw [hmapped, ih]

theorem slotOf_congr {r r' : Record} (h : r'.mapOut = r.mapOut) (hw : r'.writePos = r.writePos) (hn : r'.next = r.next)
    (q : Nat) : r'.slotOf q = r.slotOf q := by
  have hback : ∀ n k, r'.back n k = r.back n k := fun n => by
    induction n with
    | zero => intro k; rfl
    | succ n ih =>
      intro k
      unfold Record.back
      rw [prevUsable_congr h, ih]
  have hmapped : r'.mappedOut r'.writePos = r.mappedOut r.writePos := by
    unfold Record.mappedOut
    rw [h, hw]
  unfold Record.slotOf
  rw [hmapped, hw, hn, h, prevUsable_congr h]
  dsimp only
  rw [hback]

section
variable {r : Record} {p : Port}

/-! ### The cursor -/

@[simp] theorem Record.setCursor_setCursor (r : Record) (p : Port) (m n : Nat) :
    (r.setCursor p m).setCursor p n = r.setCursor p n := by
  cases p <;> rfl

@[simp] theorem Record.setCursor_cursor (r : Record) (p : Port) : r.setCursor p (r.cursor p) = r := by
  cases p <;> rfl

/-- A cursor is nothing to the reading of a sequence. -/
theorem Record.readSequence_setCursor (r : Record) (p : Port) (n q : Nat) : (r.setCursor p n).readSequence q
    = ((r.readSequence q).1.setCursor p n, (r.readSequence q).2) := by
  unfold Record.readSequence
  have hlost : (r.setCursor p n).lost q = r.lost q := by cases p <;> rfl
  have hmap : (r.setCursor p n).mapOut = r.mapOut := by cases p <;> rfl
  have hslot : (r.setCursor p n).slotOf q = r.slotOf q :=
    slotOf_congr hmap (by cases p <;> rfl) (Record.next_setCursor r p n) q
  rw [hlost, hslot]
  split
  · rfl
  · have hjudge : (r.setCursor p n).judge (r.slotOf q) q = r.judge (r.slotOf q) q := by cases p <;> rfl
    have hcontent : (r.setCursor p n).slot (r.slotOf q) = r.slot (r.slotOf q) := by cases p <;> rfl
    have hwrite : ∀ c, (r.setCursor p n).writeSlot (r.slotOf q) c = (r.writeSlot (r.slotOf q) c).setCursor p n := fun c => by
      cases p <;> rfl
    have hmapped : ∀ l, (r.setCursor p n).mapSlot (r.slotOf q) l = (r.mapSlot (r.slotOf q) l).setCursor p n := fun l => by
      cases p <;> rfl
    unfold Record.readSlot
    rw [hjudge, hcontent, hmap, hmapped, hwrite, hwrite]
    cases r.judge (r.slotOf q) q with
    | good => rfl
    | correctable => rfl
    | bad hard =>
      cases hard with
      | false => rfl
      | true =>
        dsimp only
        split <;> rfl

theorem Record.next_readSequence (r : Record) (q : Nat) : (r.readSequence q).1.next = r.next := by
  unfold Record.readSequence
  split
  · rfl
  · unfold Record.readSlot
    split
    · rfl
    · rfl
    · rfl
    · split <;> rfl

/-! ### The reading of one sequence (R81 to R85) -/

theorem readSequence_lost {q : Nat} (h : r.lost q = true) : r.readSequence q = (r, [], .damaged q) := by
  unfold Record.readSequence
  exact if_pos h

section
variable {q : Nat} (hlost : r.lost q = false)
include hlost

theorem readSequence_held : r.readSequence q = r.readSlot (r.slotOf q) q := by
  unfold Record.readSequence
  exact if_neg (by simp [hlost])

theorem readSequence_good (h : r.judge (r.slotOf q) q = .good) :
    r.readSequence q = (r, [], itemOf q (r.slot (r.slotOf q))) := by
  rw [readSequence_held hlost, Record.readSlot, h]

theorem readSequence_correctable (h : r.judge (r.slotOf q) q = .correctable) :
    r.readSequence q = (r.writeSlot (r.slotOf q) (r.slot (r.slotOf q)),
      [{ fault := .recordCorrected, arg := .number (r.slotOf q) }], itemOf q (r.slot (r.slotOf q))) := by
  rw [readSequence_held hlost, Record.readSlot, h]

theorem readSequence_damaged (h : r.judge (r.slotOf q) q = .bad false) :
    r.readSequence q
      = (r.writeSlot (r.slotOf q) (.placeholder q), [{ fault := .recordDamaged, arg := .number q }], .damaged q) := by
  rw [readSequence_held hlost, Record.readSlot, h]

theorem readSequence_mapped (h : r.judge (r.slotOf q) q = .bad true) (hroom : r.mapOut.length < 16) :
    r.readSequence q = (r.mapSlot (r.slotOf q) (some q),
      [{ fault := .recordMappedOut, arg := .number (r.slotOf q) }], .damaged q) := by
  rw [readSequence_held hlost, Record.readSlot, h]
  exact if_pos hroom

theorem readSequence_mapFull (h : r.judge (r.slotOf q) q = .bad true) (hfull : ¬r.mapOut.length < 16) :
    r.readSequence q = (r.writeSlot (r.slotOf q) (.placeholder q), [{ fault := .recordDamaged, arg := .number q },
      { fault := .recordMapFull, arg := .number (r.slotOf q) }], .damaged q) := by
  rw [readSequence_held hlost, Record.readSlot, h]
  exact if_neg hfull

end
end

/-! ### The reading from the cursor on (R79, R80) -/

section
variable {p : Port} {s : State}

/-- The state after the reading of the sequence at the cursor. -/
def readAt (p : Port) (s : State) : State :=
  takeBatch (s.record.readSequence (s.record.cursor p)).2.1
    (s.withRecord ((s.record.readSequence (s.record.cursor p)).1.setCursor p (s.record.cursor p + 1)))

theorem readOn_behind (h : s.record.cursor p < s.record.next) (n : Nat) : readOn p (n + 1) s
    = ((readOn p n (readAt p s)).1,
      (s.record.readSequence (s.record.cursor p)).2.2 :: (readOn p n (readAt p s)).2) := if_pos h

theorem readOn_caughtUp (h : ¬s.record.cursor p < s.record.next) : ∀ n, readOn p n s = (s, [])
  | 0 => rfl
  | _ + 1 => if_neg h

theorem readAt_record : (readAt p s).record
    = (s.record.readSequence (s.record.cursor p)).1.setCursor p (s.record.cursor p + 1) := by
  rw [readAt, takeBatch_record, State.withRecord_record]

theorem readAt_cursor (hp : p ≠ .cableway) : (readAt p s).record.cursor p = s.record.cursor p + 1 := by
  rw [readAt_record, Record.cursor_setCursor hp]

theorem readAt_next : (readAt p s).record.next = s.record.next := by
  rw [readAt_record, Record.next_setCursor, Record.next_readSequence]

/-- What a reading of up to `n` sequences from the cursor on leaves, and how many it gives. -/
structure ReadUpTo (p : Port) (n : Nat) (s : State) (x : State × List RecordItem) : Prop where
  cursor : x.1.record.cursor p = max (s.record.cursor p) (min s.record.next (s.record.cursor p + n))
  next : x.1.record.next = s.record.next
  length : x.2.length = max (s.record.cursor p) (min s.record.next (s.record.cursor p + n)) - s.record.cursor p
  kept : x.1.kept = s.kept
  noCompletion : NoCompletion x.1

theorem readUpTo_readOn (hp : p ≠ .cableway) (n : Nat) : ∀ {s : State}, NoCompletion s →
    ReadUpTo p n s (readOn p n s) := by
  induction n with
  | zero =>
    intro s hn
    refine ⟨?_, rfl, ?_, rfl, hn⟩
    · show s.record.cursor p = _
      omega
    · show 0 = _
      omega
  | succ n ih =>
    intro s hn
    by_cases hbehind : s.record.cursor p < s.record.next
    · have hread : NoCompletion (readAt p s) := NoCompletion.takeBatch (by exact hn) _
      obtain ⟨hcursor, hnext, hlength, hkept, hdone⟩ := ih hread
      rw [readAt_cursor hp, readAt_next] at hcursor hlength
      rw [readOn_behind hbehind]
      refine ⟨hcursor.trans (by omega), hnext.trans readAt_next, ?_, hkept.trans (kept_takeBatch _ _), hdone⟩
      rw [List.length_cons, hlength]
      omega
    · rw [readOn_caughtUp hbehind]
      refine ⟨?_, rfl, ?_, rfl, hn⟩
      · show s.record.cursor p = _
        omega
      · show 0 = _
        omega

@[simp] theorem takeBatch_nil (s : State) : takeBatch [] s = s := rfl

/-- A reading of sequences whose slots are all good gives their entries, and moves the cursor alone. -/
theorem readOn_good (hp : p ≠ .cableway) {r : Record} {stored : Nat → Entry} : ∀ (n k : Nat),
    (∀ q, k ≤ q → q < max k (min r.next (k + n)) → r.readSequence q = (r, [], .entry q (stored q))) →
    readOn p n (s.withRecord (r.setCursor p k)) = (s.withRecord (r.setCursor p (max k (min r.next (k + n)))),
      (List.range (max k (min r.next (k + n)) - k)).map fun i => .entry (k + i) (stored (k + i))) := by
  intro n
  induction n with
  | zero =>
    intro k _
    rw [show max k (min r.next (k + 0)) = k by omega, Nat.sub_self]
    rfl
  | succ n ih =>
    intro k hgood
    have hcursor : (s.withRecord (r.setCursor p k)).record.cursor p = k := Record.cursor_setCursor hp r k
    have hnext : (s.withRecord (r.setCursor p k)).record.next = r.next := Record.next_setCursor r p k
    by_cases hbehind : k < r.next
    · have hseq : (s.withRecord (r.setCursor p k)).record.readSequence k = (r.setCursor p k, [], .entry k (stored k)) := by
        rw [State.withRecord_record, Record.readSequence_setCursor, hgood k le_rfl (by omega)]
      have hat : readAt p (s.withRecord (r.setCursor p k)) = s.withRecord (r.setCursor p (k + 1)) := by
        rw [readAt, hcursor, hseq, takeBatch_nil, Record.setCursor_setCursor] <;> rfl
      rw [readOn_behind (by rw [hcursor, hnext]; exact hbehind), hat, hcursor, hseq,
        ih (k + 1) fun q h1 h2 => hgood q (by omega) (by omega)]
      have hlast : max (k + 1) (min r.next (k + 1 + n)) = max k (min r.next (k + (n + 1))) := by omega
      rw [hlast, show max k (min r.next (k + (n + 1))) - k = max k (min r.next (k + (n + 1))) - (k + 1) + 1 by omega,
        List.range_succ_eq_map, List.map_cons, List.map_map, Nat.add_zero]
      refine congrArg (Prod.mk _) (congrArg (List.cons _) (List.map_congr_left fun i _ => ?_))
      rw [Function.comp_apply, show k + 1 + i = k + i.succ by omega]
    · rw [readOn_caughtUp (by rw [hcursor, hnext]; exact hbehind), show max k (min r.next (k + (n + 1))) = k by omega,
        Nat.sub_self]
      rfl

/-- A reading of the newest sequence alone. -/
theorem readOn_newest (hp : p ≠ .cableway) (h : s.record.cursor p + 1 = s.record.next) (n : Nat) :
    readOn p (n + 1) s = (readAt p s, [(s.record.readSequence (s.record.cursor p)).2.2]) := by
  rw [readOn_behind (by omega), readOn_caughtUp (by rw [readAt_cursor hp, readAt_next]; omega)]

end

end Sys2Proof.Machine

/-! READ_RECORDS as a command (R79 to R85). -/

namespace Sys2Proof.Machine

section
variable {p : Port} {s : State}

theorem exec_readRecords (p : Port) (upsets : List (Nat × CellCondition)) (s : State) :
    exec (.readRecords p upsets) s = execReadRecords p upsets s := rfl

/-- What changes a slot's condition from outside leaves the numbers of the record. -/
theorem numbers_upsets (p : Port) (us : List (Nat × CellCondition)) (r : Record) :
    (us.foldl upset r).oldest = r.oldest ∧ (us.foldl upset r).next = r.next
      ∧ (us.foldl upset r).cursor p = r.cursor p := by
  induction us generalizing r with
  | nil => exact ⟨rfl, rfl, rfl⟩
  | cons u us ih =>
    obtain ⟨holdest, hnext, hcursor⟩ := ih (upset r u)
    have hone : (upset r u).oldest = r.oldest ∧ (upset r u).next = r.next ∧ (upset r u).cursor p = r.cursor p := by
      unfold upset
      split
      · exact ⟨rfl, rfl, by cases p <;> rfl⟩
      · exact ⟨rfl, rfl, rfl⟩
    exact ⟨holdest.trans hone.1, hnext.trans hone.2.1, hcursor.trans hone.2.2⟩

/-- The reading gives a GAP where the cursor is below the oldest sequence, and then reads on from there. -/
theorem readItems_gap (h : s.record.cursor p < s.record.oldest) : readItems p s
    = ((readOn p 7 (s.withRecord (s.record.setCursor p s.record.oldest))).1,
      .gap (s.record.cursor p) (s.record.oldest - s.record.cursor p)
        :: (readOn p 7 (s.withRecord (s.record.setCursor p s.record.oldest))).2) := by
  unfold readItems
  exact if_pos h

theorem readItems_held (h : ¬s.record.cursor p < s.record.oldest) : readItems p s = readOn p 8 s := by
  unfold readItems
  exact if_neg h

/-- What the reading leaves and how many items it gives. -/
theorem readItems_spec (hp : p ≠ .cableway) (hn : NoCompletion s) {from_ oldest next : Nat}
    (hfrom : s.record.cursor p = from_) (holdest : s.record.oldest = oldest) (hnext : s.record.next = next) :
    let gap := decide (from_ < oldest)
    let first := max from_ oldest
    let last := max first (min next (first + if gap then 7 else 8))
    (readItems p s).1.record.cursor p = last ∧ (readItems p s).1.record.next = next
      ∧ (readItems p s).2.length = (last - first) + (if gap then 1 else 0)
      ∧ (readItems p s).1.kept = s.kept ∧ NoCompletion (readItems p s).1 := by
  subst hfrom holdest hnext
  intro gap first last
  by_cases hgap : s.record.cursor p < s.record.oldest
  · have hfirst : first = s.record.oldest := max_eq_right hgap.le
    obtain ⟨hcursor, hnext, hlength, hkept, hdone⟩ :=
      readUpTo_readOn hp 7 (s := s.withRecord (s.record.setCursor p s.record.oldest)) hn
    rw [State.withRecord_record, Record.cursor_setCursor hp, Record.next_setCursor] at hcursor hlength
    rw [readItems_gap hgap]
    have hlast : last = max s.record.oldest (min s.record.next (s.record.oldest + 7)) := by
      show max first (min s.record.next (first + if gap then 7 else 8)) = _
      rw [hfirst, if_pos (decide_eq_true hgap)]
    refine ⟨hcursor.trans hlast.symm, hnext.trans (Record.next_setCursor ..), ?_, hkept, hdone⟩
    rw [List.length_cons, hlength, hlast, hfirst, if_pos (decide_eq_true hgap)]
  · have hfirst : first = s.record.cursor p := max_eq_left (by omega)
    obtain ⟨hcursor, hnext, hlength, hkept, hdone⟩ := readUpTo_readOn hp 8 hn
    rw [readItems_held hgap]
    have hlast : last = max (s.record.cursor p) (min s.record.next (s.record.cursor p + 8)) := by
      show max first (min s.record.next (first + if gap then 7 else 8)) = _
      rw [hfirst, if_neg (by simpa [gap] using hgap)]
    refine ⟨hcursor.trans hlast.symm, hnext, ?_, hkept, hdone⟩
    rw [hlength, hlast, hfirst, if_neg (by simpa [gap] using hgap)] <;> rfl

/-- The command reads, forms the RECORD events and answers, before the fault rounds that its batches owe. -/
theorem readRecords_gives {upsets : List (Nat × CellCondition)} (hj : Judged p (.readRecords p upsets) s)
    {x : State} {items : List RecordItem}
    (h : readItems p (s.withRecord (upsets.foldl upset s.record)) = (x, items)) :
    Gives p (.readRecords p upsets) s (settle (syncRecord x))
      (okWith (u8 items.length ++ u32 (x.record.cursor p) ++ u32 x.record.next ++ items.flatMap itemBytes)) :=
  gives_of_work hj (exec_readRecords ..) (by rw [h] <;> rfl)

/-- What the reading of slots without an error gives: their entries behind any GAP, with the cursor alone moved. -/
theorem readItems_good (hp : p ≠ .cableway) {stored : Nat → Entry} {gap : Bool} {first last : Nat}
    (hg : gap = decide (s.record.cursor p < s.record.oldest)) (hf : first = max (s.record.cursor p) s.record.oldest)
    (hl : last = max first (min s.record.next (first + if gap then 7 else 8)))
    (hgood : ∀ q, first ≤ q → q < last → s.record.readSequence q = (s.record, [], .entry q (stored q))) :
    readItems p s = (s.withRecord (s.record.setCursor p last),
      (if gap then [RecordItem.gap (s.record.cursor p) (s.record.oldest - s.record.cursor p)] else [])
        ++ (List.range (last - first)).map fun i => .entry (first + i) (stored (first + i))) := by
  by_cases hgap : s.record.cursor p < s.record.oldest
  · rw [decide_eq_true hgap] at hg
    rw [hg, if_pos rfl] at hl ⊢
    rw [max_eq_right hgap.le] at hf
    rw [readItems_gap hgap, ← hf, readOn_good hp 7 first (by rwa [← hl]), ← hl]
    rfl
  · rw [decide_eq_false hgap] at hg
    rw [hg, if_neg Bool.false_ne_true] at hl ⊢
    rw [max_eq_left (by omega)] at hf
    have hread := readOn_good (s := s) hp 8 first (by rwa [← hl])
    rw [hf, Record.setCursor_cursor, ← hf, ← hl] at hread
    rw [readItems_held hgap]
    exact hread

end

theorem syncRecord_whole (t : State) : ((syncRecord t).withDue []).record = t.record
    ∧ ((syncRecord t).withDue []).faults = t.faults ∧ ((syncRecord t).withDue []).warning = t.warning
    ∧ ((syncRecord t).withDue []).ports = (syncRecord t).ports := ⟨rfl, rfl, rfl, rfl⟩

section
variable {p : Port} {s : State} (hp : p ≠ .cableway) (hj : Judged p (.readRecords p []) s)
include hp hj

/-- The reading of the newest sequence alone, where no enabled rule watches the fault word. -/
theorem readNewest_gives (hw : Unwatched s.warning) (hheld : s.record.oldest ≤ s.record.cursor p)
    (hnewest : s.record.cursor p + 1 = s.record.next) {r : Record} {reports : List Report} {item : RecordItem}
    (h : s.record.readSequence (s.record.cursor p) = (r, reports, item)) :
    ∃ u, Gives p (.readRecords p []) s u
        (okWith (u8 1 ++ u32 s.record.next ++ u32 s.record.next ++ itemBytes item))
      ∧ u.record = r.setCursor p s.record.next
      ∧ u.faults = takeReports s.time.station s.faults reports
      ∧ u.warning = s.warning ∧ (u.ports.get p).events.record = false := by
  have hnext : r.next = s.record.next := by
    have := Record.next_readSequence s.record (s.record.cursor p)
    rwa [h] at this
  have hat : readAt p s = takeBatch reports (s.withRecord (r.setCursor p s.record.next)) := by
    rw [readAt, h, hnewest]
  have hread : readItems p s = (readAt p s, [item]) := by
    rw [readItems_held (by omega), readOn_newest hp hnewest, h]
  have hrecord : (readAt p s).record = r.setCursor p s.record.next := by rw [readAt_record, h, hnewest]
  have hgives := readRecords_gives hj (x := readAt p s) (items := [item]) (by
    show readItems p s = _
    exact hread)
  rw [hrecord, Record.cursor_setCursor hp, Record.next_setCursor, hnext, List.flatMap_singleton] at hgives
  have hwarning : (readAt p s).warning = s.warning := by rw [hat, takeBatch_warning] <;> rfl
  have hstill : settle (syncRecord (readAt p s)) = (syncRecord (readAt p s)).withDue [] := by
    refine settle_still fun w hmem => ?_
    have hdue : (syncRecord (readAt p s)).due = (takeBatch reports (s.withRecord (r.setCursor p s.record.next))).due := by
      rw [due_syncRecord, hat]
    rw [hdue, takeBatch_due, State.withRecord_due, show s.due = [] from hj.2.2, List.nil_append] at hmem
    have hw' : ∃ word, w = .faultRound word := by
      split at hmem
      · simp at hmem
      · exact ⟨_, List.mem_singleton.1 hmem⟩
    obtain ⟨word, rfl⟩ := hw'
    exact faultRound_unwatched (by
      show Unwatched (readAt p s).warning
      rwa [hwarning]) word
  obtain ⟨hr, hf, hwarn, hports⟩ := syncRecord_whole (readAt p s)
  rw [hstill] at hgives
  refine ⟨_, hgives, hr.trans hrecord, hf.trans ?_, hwarn.trans hwarning, ?_⟩
  · rw [hat, takeBatch_faults] <;> rfl
  · rw [hports, syncRecord_event hp, hrecord, Record.cursor_setCursor hp, Record.next_setCursor, hnext]
    exact decide_eq_false (lt_irrefl _)

end

/-- Settles O35: the count and the cursor of any reading, the items of sound slots, each case of one sequence, and
the layout of the items. -/
theorem recordsRead : Obligations.RecordsRead := by
  unfold Obligations.RecordsRead
  refine ⟨fun p upsets s hp hj => ?_, itemBytes_gap_laid, itemBytes_damaged_laid, fun q e => ?_⟩
  · intro r from_ gap first last
    refine ⟨?_, fun stored hnone hgood => ?_, fun hnone hsound hw hheld hnewest => ?_⟩
    · obtain ⟨holdest, hnext, hcur⟩ := numbers_upsets p upsets r
      have hn : NoCompletion s := NoCompletion.of_due_nil hj.2.2
      obtain ⟨hcursor, hnext', hlength, hkept, hdone⟩ :=
        readItems_spec (s := s.withRecord (upsets.foldl upset s.record)) hp hn hcur holdest hnext
      have hgives := readRecords_gives hj (Prod.mk.eta (p := readItems p (s.withRecord (upsets.foldl upset s.record)))).symm
      rw [hcursor, hnext'] at hgives
      exact ⟨_, _, hgives, hlength, (kept_settle _ (by exact hdone)).trans ((kept_syncRecord ..).trans hkept)⟩
    · subst hnone
      intro items
      have hseq : ∀ q, first ≤ q → q < last → r.readSequence q = (r, [], .entry q (stored q)) := fun q h1 h2 => by
        obtain ⟨hlost, hjudge, hslot⟩ := hgood q h1 h2
        rw [readSequence_good hlost hjudge, hslot] <;> rfl
      have hread : readItems p s = (s.withRecord (r.setCursor p last), items) := readItems_good hp rfl rfl rfl hseq
      have hgives := readRecords_gives hj (x := s.withRecord (r.setCursor p last)) (items := items) hread
      have hdue : (syncRecord (s.withRecord (r.setCursor p last))).due = [] := hj.2.2
      rw [State.withRecord_record, Record.cursor_setCursor hp, Record.next_setCursor, settle_of_due_nil _ hdue] at hgives
      refine ⟨_, hgives, ⟨_, rfl⟩, ?_⟩
      rw [syncRecord_event hp, State.withRecord_record, Record.cursor_setCursor hp, Record.next_setCursor]
    · subst hnone
      intro m gives right unchanged damaged
      have hone : ∀ {x : Record} {reports : List Report} {item : RecordItem} {becomes : Record → Prop},
          r.readSequence from_ = (x, reports, item) → becomes x → gives item reports becomes := fun hseq hx => by
        obtain ⟨u, hgives, hrecord, hrest⟩ := readNewest_gives hp hj hw hheld hnewest hseq
        exact ⟨u, _, hgives, hx, hrecord, hrest⟩
      have hwritten : ∀ c, r.Rewritten m c (r.writeSlot m c) := rewritten_writeSlot hsound.1 m
      refine ⟨fun hlost => hone (readSequence_lost hlost) rfl, fun hlost =>
        ⟨fun hc hs => hone (item := .damaged from_) ?_ rfl, fun e hc hs => hone (item := .entry from_ e) ?_ rfl,
          fun hc hs => hone (item := .damaged from_) ?_ (hwritten _),
          fun e hc hs => hone (item := .entry from_ e) ?_ (hwritten _),
          fun hc => hone (readSequence_damaged hlost (judge_damaged hc)) (hwritten _),
          fun hc hroom => hone (readSequence_mapped hlost (judge_hard hc) hroom) rfl,
          fun hc hfull => hone (readSequence_mapFull hlost (judge_hard hc) (by omega)) (hwritten _)⟩⟩
      · rw [readSequence_good hlost (judge_good hc (.inl hs)), hs] <;> rfl
      · rw [readSequence_good hlost (judge_good hc (.inr ⟨e, hs⟩)), hs] <;> rfl
      · rw [readSequence_correctable hlost (judge_correctable hc (.inl hs))]
        exact Prod.ext rfl (Prod.ext rfl (congrArg (itemOf from_) hs))
      · rw [readSequence_correctable hlost (judge_correctable hc (.inr ⟨e, hs⟩))]
        exact Prod.ext rfl (Prod.ext rfl (congrArg (itemOf from_) hs))
  · have hlaid := fun {k : Int} (hk : k = (entryType e).toNat) => itemBytes_entry_laid q e hk (entryBody_laid e)
    cases e with
    | sample x => exact hlaid rfl
    | timeStep old new => exact hlaid rfl
    | warning time old new cause => cases cause <;> exact hlaid rfl
    | run x => exact hlaid rfl
    | channel time c change => cases change <;> exact hlaid rfl
    | restart time kind =>
      cases kind with
      | cold => exact hlaid rfl
      | station src => cases src <;> exact hlaid rfl
      | renumber => exact hlaid rfl

end Sys2Proof.Machine

/-! What stops the cableway (section 7.4, R170): the operation or the retract ends, the fault is reported, and the
permit answers the report. -/

namespace Sys2Proof.Machine

/-- The cableway with its operation or its retract ended by a watch. -/
def Cableway.stopped (c : Cableway) (o : OpOutcome) (time : U32) : Cableway :=
  { c with
    op := none, retract := none
    lastOp := match c.op with
      | some op => some { name := op.kind.name, outcome := o, time := time, results := .none }
      | none => c.lastOp }

theorem Cableway.stopped_of_none {c : Cableway} (h : c.op = none) (o : OpOutcome) (time : U32) :
    c.stopped o time = { c with retract := none } := by
  cases c
  dsimp only at h
  subst h
  rfl

theorem endMotion_frame (o : OpOutcome) (s : State) : ∃ x,
    endMotion o s = (s.withCableway (s.cableway.stopped o s.time.station)).withPorts x
      ∧ ∀ op, s.cableway.op = some op → x.cableway.events.opDone = true := by
  unfold endMotion
  cases h : s.cableway.op with
  | none =>
    refine ⟨s.ports, ?_, fun op hop => by simp at hop⟩
    rw [endOp_none h, Cableway.stopped_of_none h]
    rfl
  | some op =>
    refine ⟨_, ?_, fun _ _ => raiseEvent_opDone s⟩
    rw [endOp_of_op h, Cableway.stopped, h]
    rfl

/-- A watch stops the cableway, whose drives are cut already: the ends, the report to the fault unit and the report
to the permit. -/
def haltBy (h : HaltFault) (r : Report) (o : OpOutcome) (s : State) : State :=
  permitReport h (takeBatch [r] (endMotion o s))

theorem limitFault_eq (l : Limit) (s : State) : limitFault l s
    = haltBy .limit { fault := .cableLimit, arg := .limit l } .limit (cutDrives s) := rfl

theorem stallFault_eq (a : Axis) (s : State) : stallFault a s
    = haltBy .stall { fault := .cableStall, arg := .axis a } .stall (cutDrives s) := rfl

theorem loadTripFault_eq (s : State) : loadTripFault s
    = haltBy .loadTrip { fault := .cableLoadTrip, arg := .none } .loadTrip (cutDrives s) := rfl

theorem encoderFault_eq (a : Axis) (s : State) : encoderFault a s
    = haltBy .encoder { fault := .encoderFault, arg := .axis a } .stall
      (onCable (fun c => { c with referenced := false, placement := none }) (cutDrives s)) := rfl

/-! ### The permit's answer to a report (R170) -/

section
variable {h : HaltFault} {s : State}

theorem permitReport_open (hp : s.permit.record.state = .open_) :
    permitReport h s = permitChange .halted (.halt h) (closeRun .abandonedFault s) := by
  rw [permitReport, hp]

theorem permitReport_halts
    (hp : s.permit.record.state = .standingDown ∨ (s.permit.record.state = .closed ∧ h = .loadTrip)) :
    permitReport h s = permitChange .halted (.halt h) s := by
  rcases hp with hp | ⟨hp, rfl⟩
  · rw [permitReport, hp]
  · rw [permitReport, hp]
    exact if_pos rfl

theorem permitReport_stands
    (hp : s.permit.record.state = .halted ∨ (s.permit.record.state = .closed ∧ h ≠ .loadTrip)) :
    permitReport h s = s := by
  rcases hp with hp | ⟨hp, hne⟩
  · rw [permitReport, hp]
  · rw [permitReport, hp]
    exact if_neg hne

theorem permit_cases (h : HaltFault) (p : PermitState) : p = .open_
    ∨ (p = .standingDown ∨ (p = .closed ∧ h = .loadTrip)) ∨ (p = .halted ∨ (p = .closed ∧ h ≠ .loadTrip)) := by
  cases p with
  | open_ => exact .inl rfl
  | standingDown => exact .inr (.inl (.inl rfl))
  | halted => exact .inr (.inr (.inl rfl))
  | closed => exact if hl : h = .loadTrip then .inr (.inl (.inr ⟨rfl, hl⟩)) else .inr (.inr (.inr ⟨rfl, hl⟩))

theorem closeRun_placement (o : RunOutcome) (hpl : s.cableway.placement = none) :
    (closeRun o s).cableway.placement = none := by
  cases hb : s.run.openBody with
  | none => rw [closeRun_of_shut hb, hpl]
  | some b =>
    rw [closeRun_of_open hb, steady_cableway (steady_append ..)]
    rfl

end

/-! ### The part stopped -/

/-- The watch with the report `r` and the outcome `o` has stopped the part, whose drives were cut in `s`. -/
structure HaltedBy (h : HaltFault) (r : Report) (o : OpOutcome) (s u : State) : Prop where
  time : u.time = s.time
  cableway : ∃ pl, u.cableway = { s.cableway.stopped o s.time.station with placement := pl }
    ∧ (s.cableway.placement = none → pl = none)
  told : ∀ op, s.cableway.op = some op → u.ports.cableway.events.opDone = true
  bit : bitSet u.faults.word r.fault = true
  opened : s.permit.record.state = .open_ →
    u.permit.record = { state := .halted, cause := .halt h, time := s.time.station } ∧ u.run.openBody = none
  halted : s.permit.record.state = .standingDown ∨ (s.permit.record.state = .closed ∧ h = .loadTrip) →
    u.permit.record = { state := .halted, cause := .halt h, time := s.time.station } ∧ u.run = s.run
  stands : s.permit.record.state = .halted ∨ (s.permit.record.state = .closed ∧ h ≠ .loadTrip) →
    u.permit = s.permit ∧ u.run = s.run

section
variable {h : HaltFault} {r : Report} {o : OpOutcome} {s t u : State}

/-- Neither what is owed nor what is read of the part touches what a watch has stopped. -/
theorem HaltedBy.of_steady (hh : HaltedBy h r o s t) (hs : u.steady = t.steady)
    (hevents : t.ports.cableway.events.Within u.ports.cableway.events)
    (hbits : bitSet t.faults.word r.fault = true → bitSet u.faults.word r.fault = true) : HaltedBy h r o s u := by
  obtain ⟨htime, hcable, htold, hbit, hopened, hhalted, hstands⟩ := hh
  rw [← steady_permit hs, ← steady_run hs] at hopened hhalted hstands
  rw [← steady_cableway hs] at hcable
  exact ⟨(steady_time hs).trans htime, hcable, fun op hop => hevents.opDone (htold op hop), hbits hbit, hopened, hhalted,
    hstands⟩

theorem HaltedBy.permit_ne (hh : HaltedBy h r o s t) : t.permit.record.state ≠ .open_ := by
  rcases permit_cases h s.permit.record.state with hp | hp | hp
  · rw [(hh.opened hp).1]
    exact PermitState.noConfusion
  · rw [(hh.halted hp).1]
    exact PermitState.noConfusion
  · rw [(hh.stands hp).1]
    rcases hp with hp | ⟨hp, -⟩ <;> rw [hp] <;> decide

/-- What the permit's answer leaves of what was reported. -/
theorem HaltedBy.of_report {x : PerPort PortUnit}
    (ht : t = takeBatch [r] ((s.withCableway (s.cableway.stopped o s.time.station)).withPorts x))
    (hx : ∀ op, s.cableway.op = some op → x.cableway.events.opDone = true) : HaltedBy h r o s (permitReport h t) := by
  have hsteady : t.steady = (s.withCableway (s.cableway.stopped o s.time.station)).steady := by
    rw [ht, steady_takeBatch] <;> rfl
  have htime : t.time = s.time := by rw [steady_time hsteady] <;> rfl
  have hpermit : t.permit = s.permit := by rw [steady_permit hsteady] <;> rfl
  have hrun : t.run = s.run := by rw [steady_run hsteady] <;> rfl
  have hcable : t.cableway = s.cableway.stopped o s.time.station := by rw [steady_cableway hsteady] <;> rfl
  have htold : ∀ op, s.cableway.op = some op → t.ports.cableway.events.opDone = true := fun op hop => by
    refine ((HandsOn.refl ((s.withCableway (s.cableway.stopped o s.time.station)).withPorts x)).takeBatch
      [r] |>.events .cableway).opDone (hx op hop) |> fun hd => ?_
    rw [ht]
    exact hd
  have hbit : bitSet t.faults.word r.fault = true := by
    rw [ht, takeBatch_faults]
    exact (bitSet_takeReports ..).2 (.inr ⟨r, List.mem_singleton_self r, rfl⟩)
  rcases permit_cases h s.permit.record.state with hp | hp | hp
  · have hhands := ((HandsOn.refl t).closeRun .abandonedFault).permitChange .halted (.halt h)
    have hne : (closeRun .abandonedFault t).permit.record.state ≠ .halted := by rw [closeRun_permit, hpermit, hp]; decide
    rw [permitReport_open (by rw [hpermit, hp])]
    obtain ⟨pl, hpl⟩ := closeRun_cableway .abandonedFault t
    refine ⟨?_, ⟨pl, ?_, fun hnone => ?_⟩, fun op hop => (hhands.events .cableway).opDone (htold op hop), hhands.bits _ hbit,
      fun _ => ⟨?_, ?_⟩, fun hq => ?_, fun hq => ?_⟩
    · exact ((time_of_kept (kept_permitChange ..)).trans (closeRun_time ..)).trans htime
    · rw [permitChange_cableway, hpl, hcable]
    · have hplace := closeRun_placement (s := t) .abandonedFault (by rw [hcable]; exact hnone)
      rw [hpl] at hplace
      exact hplace
    · rw [permitChange_permit hne, changedPermit, closeRun_time, htime]
    · rw [permitChange_run, closeRun_notOpen]
    · rw [hp] at hq
      simp at hq
    · rw [hp] at hq
      simp at hq
  · have hhands := (HandsOn.refl t).permitChange .halted (.halt h)
    have hne : t.permit.record.state ≠ .halted := by
      rw [hpermit]
      rcases hp with hp | ⟨hp, -⟩ <;> rw [hp] <;> decide
    rw [permitReport_halts (by rwa [hpermit])]
    refine ⟨?_, ⟨s.cableway.placement, ?_, id⟩, fun op hop => (hhands.events .cableway).opDone (htold op hop),
      hhands.bits _ hbit, fun hq => ?_, fun _ => ⟨?_, ?_⟩, fun hq => ?_⟩
    · exact (time_of_kept (kept_permitChange ..)).trans htime
    · rw [permitChange_cableway, hcable] <;> rfl
    · rw [hq] at hp
      simp at hp
    · rw [permitChange_permit hne, changedPermit, htime]
    · rw [permitChange_run, hrun]
    · rcases hp with hp | ⟨hp, hl⟩ <;> rw [hp] at hq <;> simp at hq
      exact absurd hl hq
  · rw [permitReport_stands (by rwa [hpermit])]
    refine ⟨htime, ⟨s.cableway.placement, hcable, id⟩, htold, hbit, fun hq => ?_, fun hq => ?_,
      fun _ => ⟨hpermit, hrun⟩⟩
    · rw [hq] at hp
      simp at hp
    · rcases hq with hq | ⟨hq, hl⟩ <;> rw [hq] at hp <;> simp at hp
      exact absurd hl hp

theorem NoCompletion.permitReport (hn : NoCompletion s) (h : HaltFault) : NoCompletion (permitReport h s) := by
  rcases permit_cases h s.permit.record.state with hp | hp | hp
  · rw [permitReport_open hp]
    exact NoCompletion.of_due (hn.closeRun .abandonedFault) (due_permitChange ..)
  · rw [permitReport_halts hp]
    exact NoCompletion.of_due hn (due_permitChange ..)
  · rwa [permitReport_stands hp]

/-- A watch stops the part, and nothing that it hands on sets it going again. -/
theorem settle_haltBy (hdue : s.due = []) : HaltedBy h r o s (settle (haltBy h r o s)) := by
  obtain ⟨x, he, hx⟩ := endMotion_frame o s
  have hn : NoCompletion (haltBy h r o s) := by
    rw [haltBy, he]
    exact (NoCompletion.takeBatch (by exact NoCompletion.of_due_nil hdue) _).permitReport h
  have hhalted : HaltedBy h r o s (haltBy h r o s) := by
    rw [haltBy, he]
    exact .of_report rfl hx
  exact hhalted.of_steady (steady_settle hhalted.permit_ne hn) (settle_events hn .cableway) (settle_bits hn)

end

end Sys2Proof.Machine

/-! How an accepted operation begins (R121, R125 to R131, R134): it waits for coasting axes, energises its first drive,
or ends where it already is. -/

namespace Sys2Proof.Machine

section
variable {s : State} {k : OpKind} {c : Cableway} {dir : Direction} {fast : Bool}

/-! ### Waiting (R121) -/

theorem mayResume_of_waiting (h : c.op = some { kind := k, phase := .waiting }) : c.mayResume = c.quiet := by
  unfold Cableway.mayResume
  rw [h]
  cases k <;> rfl

theorem acceptOp_waits (h : s.cableway.quiet = false) : acceptOp k s = setOp k .waiting s := by
  have hmay : (setOp k .waiting s).cableway.mayResume = false := (mayResume_of_waiting rfl).trans h
  rw [acceptOp, resume, hmay]
  exact if_neg Bool.false_ne_true

theorem resume_waiting (hop : s.cableway.op = some { kind := k, phase := .waiting }) (h : s.cableway.quiet = true) :
    resume s = beginOp k s := by
  rw [resume, mayResume_of_waiting hop, h, if_pos rfl, hop]

theorem acceptOp_begins (h : s.cableway.quiet = true) : acceptOp k s = beginOp k (setOp k .waiting s) :=
  resume_waiting rfl h

/-! ### Drives (R121, R136, R138) -/

theorem mayDrive_free (h : c.loadTrip.passed = false) : c.mayDrive dir fast = true := by
  simp [Cableway.mayDrive, h]

theorem mayDrive_slowUp : c.mayDrive .reelUp false = true := by simp [Cableway.mayDrive]

/-- A drive that has been energised for the operation `k`. -/
theorem drives_energise {s0 : State} (hm : c.mayDrive dir fast = true)
    (htraverse : c.traverseCount = s0.cableway.traverseCount) (hreel : c.reelCount = s0.cableway.reelCount) :
    Drives s0 (setOp k .driving (onCable (·.energise dir fast s0.time.elapsed) (s0.withCableway c))) k dir fast := by
  have henergised : (onCable (·.energise dir fast s0.time.elapsed) (s0.withCableway c))
      = s0.withCableway { c.setAxis dir.axis .driven with
          drive := some { dir := dir, fast := fast, since := s0.time.elapsed }, placement := none } :=
    congrArg s0.withCableway (if_pos hm)
  rw [henergised]
  cases dir with
  | traverseOut => exact ⟨⟨_, rfl⟩, rfl, rfl, rfl, rfl, htraverse, hreel⟩
  | traverseIn => exact ⟨⟨_, rfl⟩, rfl, rfl, rfl, rfl, htraverse, hreel⟩
  | reelDown => exact ⟨⟨_, rfl⟩, rfl, rfl, rfl, rfl, htraverse, hreel⟩
  | reelUp => exact ⟨⟨_, rfl⟩, rfl, rfl, rfl, rfl, htraverse, hreel⟩

section
variable {aimed : Bool} {atLimit : State → State}

theorem beginDrive_free (h : ∀ l, dir.limit = some l → s.cableway.pins.limit l = false) :
    beginDrive k dir fast aimed atLimit s = setOp k .driving (onCable (·.energise dir fast s.time.elapsed) s) := by
  unfold beginDrive
  cases hl : dir.limit with
  | none => rfl
  | some l =>
    dsimp only
    rw [h l hl]
    exact if_neg Bool.false_ne_true

theorem beginDrive_aimed {l : Limit} (hl : dir.limit = some l) (h : s.cableway.pins.limit l = true) :
    beginDrive k dir fast true atLimit s = atLimit s := by
  unfold beginDrive
  rw [hl]
  dsimp only
  rw [h, if_pos rfl, if_pos rfl]

theorem beginDrive_blocked {l : Limit} (hl : dir.limit = some l) (h : s.cableway.pins.limit l = true) :
    beginDrive k dir fast false atLimit s = limitFault l s := by
  unfold beginDrive
  rw [hl]
  dsimp only
  rw [h, if_pos rfl, if_neg Bool.false_ne_true]

end
end

/-! ### What an accepted operation comes to -/

section
variable {s s0 : State} {i : Instr} {k : OpKind} {a : Answer}
  (hg : Gives .cableway i s (settle (acceptOp k s0)) a) (hdue : s0.due = [])
include hg hdue

theorem gives_waits (hq : s0.cableway.quiet = false) :
    Gives .cableway i s (s0.withCableway { s0.cableway with op := some { kind := k, phase := .waiting } }) a := by
  rw [acceptOp_waits hq, settle_of_due_nil _ (by exact hdue)] at hg
  exact hg

omit hdue in
/-- The operation's first step begins, and owes nothing. -/
theorem gives_begins (hq : s0.cableway.quiet = true) {u : State} (hb : beginOp k (setOp k .waiting s0) = u)
    (hu : u.due = []) : Gives .cableway i s u a := by
  rwa [acceptOp_begins hq, hb, settle_of_due_nil u hu] at hg

omit hdue in
/-- The operation's first step energises its drive. -/
theorem gives_drives (hq : s0.cableway.quiet = true) {s1 : State} {c : Cableway} {k' : OpKind} {dir : Direction}
    {fast : Bool} (hdue1 : s1.due = []) (hb : beginOp k (setOp k .waiting s0)
      = setOp k' .driving (onCable (·.energise dir fast s1.time.elapsed) (s1.withCableway c)))
    (hm : c.mayDrive dir fast = true) (ht : c.traverseCount = s1.cableway.traverseCount)
    (hr : c.reelCount = s1.cableway.reelCount) :
    ∃ u, Gives .cableway i s u a ∧ Drives s1 u k' dir fast :=
  ⟨_, gives_begins hg hq hb hdue1, drives_energise hm ht hr⟩

end

theorem Cableway.cut_still {c : Cableway} (h : c.drive = none) (now : U32) : c.cut now = c := by
  rw [Cableway.cut, h]

theorem cutDrives_still {s : State} (h : s.cableway.drive = none) : cutDrives s = s := by
  rw [cutDrives, onCable, Cableway.cut_still h, State.withCableway_same]

/-- An operation ended by R126 is so from every earlier state of the same time. -/
theorem OpEnded.of_time {s t u : State} {k : OpKind} {o : OpOutcome} {r : OpResults} (h : OpEnded t u k o r)
    (ht : t.time = s.time) : OpEnded s u k o r := by
  obtain ⟨hop, hdrive, hlast, htold⟩ := h
  rw [ht] at hlast
  exact ⟨hop, hdrive, hlast, htold⟩

theorem HaltedBy.opEnded {h : HaltFault} {r : Report} {o : OpOutcome} {s u : State} {op : Operation}
    (hh : HaltedBy h r o s u) (hop : s.cableway.op = some op) (hd : s.cableway.drive = none) :
    OpEnded s u op.kind o .none := by
  obtain ⟨pl, hcable, -⟩ := hh.cableway
  rw [OpEnded, hcable]
  refine ⟨rfl, hd, ?_, hh.told op hop⟩
  show (match s.cableway.op with
    | some op => some _
    | none => _) = _
  rw [hop]

/-- An operation whose step finds a limit asserted that it does not aim for (R136, R170). -/
theorem gives_blocked {s s0 : State} {i : Instr} {k : OpKind} {a : Answer} {l : Limit}
    (hg : Gives .cableway i s (settle (acceptOp k s0)) a) (hdue : s0.due = []) (hq : s0.cableway.quiet = true)
    (hd : s0.cableway.drive = none) (hopen : s0.permit.record.state = .open_) (htime : s0.time = s.time)
    (hb : beginOp k (setOp k .waiting s0) = limitFault l (setOp k .waiting s0)) :
    ∃ u, Gives .cableway i s u a ∧ OpEnded s u k .limit .none ∧ bitSet u.faults.word .cableLimit = true
      ∧ u.permit.record = { state := .halted, cause := .halt .limit, time := s.time.station }
      ∧ u.run.openBody = none := by
  rw [acceptOp_begins hq, hb, limitFault_eq, cutDrives_still (by exact hd)] at hg
  have hh : HaltedBy .limit { fault := .cableLimit, arg := .limit l } .limit (setOp k .waiting s0) _ :=
    settle_haltBy (by exact hdue)
  obtain ⟨hpermit, hrun⟩ := hh.opened hopen
  refine ⟨_, hg, (hh.opEnded (op := { kind := k, phase := .waiting }) rfl hd).of_time htime, hh.bit, ?_, hrun⟩
  rw [hpermit, show (setOp k .waiting s0).time = s.time from htime]

end Sys2Proof.Machine

/-! The steps of HOME (R127), of MOVE, SOUND, POSITION and CARRY (R128 to R131) and of REEL_FREE (R134). -/

namespace Sys2Proof.Machine

/-! ### HOME (R127) -/

section
variable {s : State} {h : Bool}

theorem homeReel_lowered (htop : s.cableway.pins.top = false) :
    homeReel h s = setOp (.home .reel h) .driving (onCable (·.energise .reelUp true s.time.elapsed) s) := by
  simp [homeReel, beginReelHome, htop]

theorem homeReel_top (htop : s.cableway.pins.top = true) :
    homeReel h s = homeTraverse h (onCable (·.zero .reel) s) := by
  simp [homeReel, beginReelHome, htop]

theorem homeTraverse_out (hhome : s.cableway.pins.home = false) :
    homeTraverse h s = setOp (.home .traverse h) .driving
      (onCable (·.energise .traverseIn s.cableway.homingFast s.time.elapsed) s) := by
  simp [homeTraverse, beginTraverseHome, hhome, onCable]

theorem homeTraverse_home (hhome : s.cableway.pins.home = true) :
    homeTraverse h s = finishHome h (onCable (·.zero .traverse) s) := by
  simp [homeTraverse, beginTraverseHome, hhome]

/-- The axis stands where it settled, give or take 20 counts, if it has settled. -/
def Cableway.Stands (c : Cableway) (a : Axis) : Prop :=
  ∀ n, c.axis a = .settled n → |(c.count a).toInt - n.toInt| ≤ 20

theorem watchDrift_stands {a : Axis} (hstands : s.cableway.Stands a) : watchDrift a s = s := by
  refine if_neg fun hdrift => ?_
  unfold Cableway.drifted at hdrift
  cases hx : s.cableway.axis a with
  | settled n =>
    have := hstands n hx
    rw [hx] at hdrift
    simp only [Bool.and_eq_true, decide_eq_true_eq] at hdrift
    omega
  | driven => simp [hx] at hdrift
  | coasting since => simp [hx] at hdrift

/-- HOME has ended DONE in the state `s`: it leaves the cableway REFERENCED, and the permit CLOSED where it was
accepted in HALTED (R127, R171). -/
structure HomeDone (h : Bool) (op : Operation) (s u : State) : Prop where
  due : u.due = s.due
  cableway : u.cableway = { s.cableway.ended op.kind .done .none s.time.station with
    referenced := true, lastSurface := none }
  told : u.ports.cableway.events.opDone = true
  closes : h = true → s.permit.record.state = .halted →
    u.permit.record = { state := .closed, cause := .homed, time := s.time.station }
  stands : h = false ∨ s.permit.record.state ≠ .halted → u.permit = s.permit

theorem HomeDone.opEnded {op : Operation} {u : State} (hu : HomeDone h op s u) (hd : s.cableway.drive = none) :
    OpEnded s u op.kind .done .none := by
  rw [OpEnded, hu.cableway]
  exact ⟨rfl, hd, rfl, hu.told⟩

theorem homeDone_finishHome {op : Operation} (hop : s.cableway.op = some op)
    (hreel : s.cableway.Stands .reel) (htraverse : s.cableway.Stands .traverse) :
    HomeDone h op s (finishHome h s) := by
  have hend : endOp .done .none (onCable (fun c => { c with referenced := true, lastSurface := none }) s)
      = raiseEvent .opDone (s.withCableway { s.cableway.ended op.kind .done .none s.time.station with
          referenced := true, lastSurface := none }) :=
    endOp_of_op (s := onCable (fun c => { c with referenced := true, lastSurface := none }) s) hop .done .none
  have hunwatched : ∀ t : State, t.cableway = { s.cableway.ended op.kind .done .none s.time.station with
      referenced := true, lastSurface := none } → watchDrift .traverse (watchDrift .reel t) = t := fun t ht => by
    have hr : t.cableway.Stands .reel := by rw [ht]; exact hreel
    have hx : t.cableway.Stands .traverse := by rw [ht]; exact htraverse
    rw [watchDrift_stands hr, watchDrift_stands hx]
  unfold finishHome
  dsimp only
  rw [hend]
  by_cases hp : h = true ∧ s.permit.record.state = .halted
  · have hne : (raiseEvent .opDone (s.withCableway { s.cableway.ended op.kind .done .none s.time.station with
        referenced := true, lastSurface := none })).permit.record.state ≠ .closed := by
      show s.permit.record.state ≠ .closed
      rw [hp.2]
      decide
    rw [if_pos (by exact hp), hunwatched _ (permitChange_cableway ..)]
    refine ⟨due_permitChange .., permitChange_cableway .., ?_, fun _ _ => ?_, fun hno => ?_⟩
    · exact (((HandsOn.refl _).permitChange .closed .homed).events .cableway).opDone (raiseEvent_opDone _)
    · rw [permitChange_permit hne] <;> rfl
    · exact absurd hp fun ⟨h1, h2⟩ => hno.elim (fun hf => Bool.noConfusion (hf.symm.trans h1)) fun hn => hn h2
  · rw [if_neg (by exact hp), hunwatched _ rfl]
    exact ⟨rfl, rfl, raiseEvent_opDone _, fun h1 h2 => absurd ⟨h1, h2⟩ hp, fun _ => rfl⟩

theorem Cableway.stands_zero (c : Cableway) (a : Axis) : (c.zero a).Stands a := by
  intro n hn
  unfold Cableway.zero at hn ⊢
  dsimp only at hn ⊢
  cases a with
  | traverse =>
    cases hx : c.traverseAxis with
    | settled m =>
      simp only [Cableway.axis, hx, Cableway.setCount, Cableway.setAxis] at hn
      obtain rfl := AxisState.settled.inj hn
      simp [Cableway.axis, hx, Cableway.setCount, Cableway.setAxis, Cableway.count]
    | driven => simp [Cableway.axis, hx, Cableway.setCount] at hn
    | coasting since => simp [Cableway.axis, hx, Cableway.setCount] at hn
  | reel =>
    cases hx : c.reelAxis with
    | settled m =>
      simp only [Cableway.axis, hx, Cableway.setCount, Cableway.setAxis] at hn
      obtain rfl := AxisState.settled.inj hn
      simp [Cableway.axis, hx, Cableway.setCount, Cableway.setAxis, Cableway.count]
    | driven => simp [Cableway.axis, hx, Cableway.setCount] at hn
    | coasting since => simp [Cableway.axis, hx, Cableway.setCount] at hn

theorem Cableway.zero_reel (c : Cableway) : c.zero .reel = { c with
    reelCount := 0
    reelAxis := match c.reelAxis with
      | .settled _ => .settled 0
      | x => x } := by
  unfold Cableway.zero
  cases hx : c.reelAxis <;> simp [Cableway.axis, hx, Cableway.setCount, Cableway.setAxis]

theorem Cableway.zero_traverse (c : Cableway) : c.zero .traverse = { c with
    traverseCount := 0
    traverseAxis := match c.traverseAxis with
      | .settled _ => .settled 0
      | x => x } := by
  unfold Cableway.zero
  cases hx : c.traverseAxis <;> simp [Cableway.axis, hx, Cableway.setCount, Cableway.setAxis]

end

/-! ### MOVE (R128) -/

section
variable {s : State} {target : Int}

theorem beginMove_here (h : s.cableway.x = target) : beginMove target s = finishMove s := if_pos h

theorem beginMove_outward (h : s.cableway.x < target) : beginMove target s
    = beginDrive (.move target) .traverseOut (moveFast target s.cableway.x) false finishMove s := by
  unfold beginMove
  dsimp only
  rw [if_neg h.ne, if_pos h]

theorem beginMove_inward (h : target < s.cableway.x) : beginMove target s
    = beginDrive (.move target) .traverseIn (moveFast target s.cableway.x) (decide (target = 0)) finishMove s := by
  unfold beginMove
  dsimp only
  rw [if_neg h.ne', if_neg (by omega)]

/-! ### SOUND (R129) -/

variable {ls lb : Option Int}

theorem beginSound_max (h : (s.cableway.config.maxReel : Int) ≤ s.cableway.reel) :
    beginSound ls lb s = soundMax ls s := if_pos h

theorem beginSound_lowers (h : s.cableway.reel < s.cableway.config.maxReel) : beginSound ls lb s
    = setOp (.sound ls lb) .driving
      (onCable (·.energise .reelDown (soundFast s.cableway ls) s.time.elapsed) s) := by
  rw [beginSound, if_neg (by omega)]
  exact beginDrive_free fun l hl => by simp [Direction.limit] at hl

/-! ### POSITION (R130) -/

variable {p : PositionOp}

theorem beginPosition_here (h : s.cableway.reel = p.target) :
    beginPosition p s = finishPosition { p with stop := some s.cableway.reel } s := if_pos h

theorem beginPosition_bottom (h : s.cableway.reel < p.target) (hb : s.cableway.bottom.passed = true) :
    beginPosition p s = finishPosition { p with stop := some s.cableway.reel, low := true } s := by
  unfold beginPosition
  dsimp only
  rw [if_neg h.ne, if_pos h, hb, if_pos rfl]

theorem beginPosition_max (h : s.cableway.reel < p.target) (hb : s.cableway.bottom.passed = false)
    (hmax : (s.cableway.config.maxReel : Int) ≤ s.cableway.reel) :
    beginPosition p s = finishPosition { p with stop := some s.cableway.reel } s := by
  unfold beginPosition
  dsimp only
  rw [if_neg h.ne, if_pos h, hb, if_neg Bool.false_ne_true, if_pos hmax]

theorem beginPosition_lowers (h : s.cableway.reel < p.target) (hb : s.cableway.bottom.passed = false)
    (hmax : s.cableway.reel < s.cableway.config.maxReel) : beginPosition p s
      = setOp (.position p) .driving
        (onCable (·.energise .reelDown (reelFast p.target s.cableway.reel) s.time.elapsed) s) := by
  unfold beginPosition
  dsimp only
  rw [if_neg h.ne, if_pos h, hb, if_neg Bool.false_ne_true, if_neg (by omega)]
  exact beginDrive_free fun l hl => by simp [Direction.limit] at hl

theorem beginPosition_upward (h : p.target < s.cableway.reel) : beginPosition p s
    = beginDrive (.position p) .reelUp (reelFast p.target s.cableway.reel) false id s := by
  unfold beginPosition
  dsimp only
  rw [if_neg h.ne', if_neg (by omega)]

/-! ### CARRY (R131) -/

theorem beginCarry_here (h : s.cableway.reel ≤ (s.cableway.config.carry : Int)) : beginCarry s = finishCarry s := if_pos h

theorem beginCarry_upward (h : (s.cableway.config.carry : Int) < s.cableway.reel) : beginCarry s
    = beginDrive .carry .reelUp (reelFast s.cableway.config.carry s.cableway.reel)
      (decide ((s.cableway.config.carry : Int) = 0)) finishCarry s := by
  unfold beginCarry
  dsimp only
  rw [if_neg (by omega)]

theorem reelFast_above {target reel : Int} (h : target < reel) : reelFast target reel = decide (300 < reel - target) := by
  rw [reelFast, abs_sub_comm, abs_of_pos (by omega)]

end

/-! ### The ends of operations (R126, R128 to R131) -/

section
variable {s : State} {op : Operation} (hop : s.cableway.op = some op)
include hop

theorem finishPosition_eq (p : PositionOp) {l : Int} (hl : p.stop = some l) : finishPosition p s
    = onCable (fun c =>
        { c with
          placement :=
            some { fraction := p.fraction, depth := max 0 (l - s.cableway.config.hanger - p.surface), low := p.low } })
      (raiseEvent .opDone (s.withCableway (s.cableway.ended op.kind .done
        (.position (some p.fraction) (max 0 (l - s.cableway.config.hanger - p.surface)) p.low) s.time.station))) := by
  rw [finishPosition, hl, endOp_of_op hop]
  rfl

theorem finishCarry_eq : finishCarry s = onCable (fun c => { c with placement := none })
    (raiseEvent .opDone (s.withCableway (s.cableway.ended op.kind .done (.position none 0 false) s.time.station))) := by
  rw [finishCarry, endOp_of_op hop]

end

end Sys2Proof.Machine

/-! The operation commands, accepted or refused (R125 to R131, R134). -/

namespace Sys2Proof.Machine

theorem exec_home (s : State) : exec (.home .cableway) s = command .cableway (.home .cableway)
    (operate true homeGate (fun _ => none)
      (fun s => acceptOp (.home .reel (decide (s.permit.record.state = .halted))) s)) s := rfl

theorem exec_move (target : U32) (s : State) : exec (.move .cableway target) s
    = command .cableway (.move .cableway target)
      (fun s => operate (decide (s.cableway.config.span ≠ 0) && inRange 0 s.cableway.config.span target.toInt) moveGate
        (fun _ => none) (fun s => acceptOp (.move target.toInt) (clearWorking s)) s) s := rfl

theorem exec_sound (s : State) : exec (.sound .cableway) s = command .cableway (.sound .cableway)
    (operate true soundGate (fun _ => none)
      (fun s => acceptOp (.sound none none) (onCable (fun c => { c with placement := none }) s))) s := rfl

theorem exec_position (f : Byte) (s : State) : exec (.position .cableway f) s
    = command .cableway (.position .cableway f)
      (operate (inRange 5 95 f.toNat) overWater positionCheck
        (fun s =>
          match s.working.sounding with
          | some x => acceptOp (.position (positionOp f.toNat s.cableway.config.hanger x)) s
          | none => s)) s := rfl

theorem exec_positionCarry (s : State) : exec (.positionCarry .cableway) s
    = command .cableway (.positionCarry .cableway) (operate true overWater (fun _ => none) (acceptOp .carry)) s := rfl

theorem exec_reelFree (s : State) : exec (.reelFree .cableway) s = command .cableway (.reelFree .cableway)
    (fun s =>
      match repeatReelFree s with
      | some s1 => (s1, plain .ok)
      | none => operate true reelFreeGate (fun _ => none)
          (fun s => acceptOp (.reelFree (after s.time.elapsed 500)) s) s) s := rfl

/-- What an operation command comes to, from its judging (R125). -/
theorem gives_operate {i : Instr} {fit : State → Bool} {gate : State → Bool} {own : State → Option Status}
    {accept : State → State} {s : State} (hj : Judged .cableway i s)
    (he : exec i s = command .cableway i (fun s => operate (fit s) gate own accept s) s) :
    (fit s = false → Gives .cableway i s s (plain .range))
    ∧ (fit s = true → s.cableway.op ≠ none → Gives .cableway i s s (plain .busy))
    ∧ (fit s = true → s.cableway.op = none → gate s = false → Gives .cableway i s s (plain .state))
    ∧ (∀ st, fit s = true → s.cableway.op = none → gate s = true → own s = some st → Gives .cableway i s s (plain st))
    ∧ (fit s = true → s.cableway.op = none → gate s = true → own s = none →
      Gives .cableway i s (settle (accept s)) (plain .accepted)) :=
  ⟨fun hf => gives_of_work hj he (operate_unfit hf), fun hf hop => gives_of_work hj he (operate_busy hf hop),
    fun hf hop hg => gives_of_work hj he (operate_shut hf hop hg),
    fun _ hf hop hg ho => gives_of_work hj he (operate_own hf hop hg ho),
    fun hf hop hg ho => gives_of_work hj he (operate_accepts hf hop hg ho)⟩

theorem overWater_false {s : State} (h : ¬(s.permit.record.state = .open_ ∧ s.cableway.referenced = true)) :
    overWater s = false := Bool.eq_false_iff.2 fun ht => h ((overWater_iff s).1 ht)

theorem Cableway.stands_zero_other (c : Cableway) {a b : Axis} (hne : b ≠ a) (h : c.Stands b) : (c.zero a).Stands b := by
  cases a with
  | traverse =>
    cases b with
    | traverse => exact absurd rfl hne
    | reel =>
      rw [Cableway.zero_traverse]
      exact h
  | reel =>
    cases b with
    | reel => exact absurd rfl hne
    | traverse =>
      rw [Cableway.zero_reel]
      exact h

theorem Cableway.traverseCount_zero (c : Cableway) : (c.zero .traverse).traverseCount = 0 := by rw [zero_traverse]

theorem Cableway.reelCount_zero (c : Cableway) : (c.zero .reel).reelCount = 0 := by rw [zero_reel]

theorem Cableway.reelCount_zero_traverse (c : Cableway) : (c.zero .traverse).reelCount = c.reelCount := by
  rw [zero_traverse]

theorem Cableway.drive_zero (c : Cableway) (a : Axis) : (c.zero a).drive = c.drive := by
  cases a with
  | traverse => rw [zero_traverse]
  | reel => rw [zero_reel]

/-! ### HOME -/

section
variable {s : State} (hj : Judged .cableway (.home .cableway) s) (hop : s.cableway.op = none)
  (hgate : (s.permit.record.state = .closed ∨ s.permit.record.state = .halted) ∧ s.cableway.loadTrip.passed = false)
include hj hop hgate

theorem home_accepted : Gives .cableway (.home .cableway) s
    (settle (acceptOp (.home .reel (decide (s.permit.record.state = .halted))) s)) (plain .accepted) := by
  refine (gives_operate hj (fit := fun _ => true) (exec_home s)).2.2.2.2 rfl hop ?_ rfl
  simp [homeGate, hgate.1, hgate.2]

theorem home_lowered (hq : s.cableway.quiet = true) (htop : s.cableway.pins.top = false) :
    ∃ u, Gives .cableway (.home .cableway) s u (plain .accepted)
      ∧ Drives s u (.home .reel (decide (s.permit.record.state = .halted))) .reelUp true :=
  gives_drives (home_accepted hj hop hgate) hq hj.2.2
    (c := { s.cableway with op := some { kind := .home .reel (decide (s.permit.record.state = .halted)), phase := .waiting } })
    (homeReel_lowered htop) (mayDrive_free hgate.2) rfl rfl

theorem home_out (hq : s.cableway.quiet = true) (htop : s.cableway.pins.top = true)
    (hhome : s.cableway.pins.home = false) {x : AxisState} (hx : x = match s.cableway.reelAxis with
      | .settled _ => .settled 0
      | y => y) :
    ∃ u, Gives .cableway (.home .cableway) s u (plain .accepted)
      ∧ Drives (s.withCableway { s.cableway with reelCount := 0, reelAxis := x }) u
        (.home .traverse (decide (s.permit.record.state = .halted))) .traverseIn
        (s.cableway.referenced && decide (1000 < s.cableway.x)) := by
  have hzero : ∀ k, onCable (·.zero .reel) (setOp k .waiting s) = s.withCableway
      { s.cableway with reelCount := 0, reelAxis := x, op := some { kind := k, phase := .waiting } } := fun k => by
    rw [onCable, Cableway.zero_reel, hx]
    rfl
  refine gives_drives (home_accepted hj hop hgate) hq
    (s1 := s.withCableway { s.cableway with reelCount := 0, reelAxis := x }) hj.2.2
    (c := { s.cableway with
      reelCount := 0, reelAxis := x
      op := some { kind := .home .reel (decide (s.permit.record.state = .halted)), phase := .waiting } })
    ?_ (mayDrive_free hgate.2) rfl rfl
  rw [beginOp, homeReel_top (by exact htop), hzero]
  exact homeTraverse_out hhome

theorem home_home (hq : s.cableway.quiet = true) (htop : s.cableway.pins.top = true)
    (hhome : s.cableway.pins.home = true) (hd : s.cableway.drive = none) :
    ∃ u, Gives .cableway (.home .cableway) s u (plain .accepted)
      ∧ OpEnded s u (.home .reel (decide (s.permit.record.state = .halted))) .done .none
      ∧ u.cableway.referenced = true ∧ u.cableway.reelCount = 0 ∧ u.cableway.traverseCount = 0
      ∧ u.cableway.lastSurface = none
      ∧ (s.permit.record.state = .halted →
        u.permit.record = { state := .closed, cause := .homed, time := s.time.station })
      ∧ (s.permit.record.state = .closed → u.permit = s.permit) := by
  generalize hk : decide (s.permit.record.state = .halted) = h
  have hacc := home_accepted hj hop hgate
  rw [hk] at hacc
  have hbegin : beginOp (.home .reel h) (setOp (.home .reel h) .waiting s)
      = finishHome h (onCable (·.zero .traverse) (onCable (·.zero .reel) (setOp (.home .reel h) .waiting s))) := by
    rw [beginOp, homeReel_top (by exact htop), homeTraverse_home (by rw [pins_zeroed]; exact hhome)]
  have hdone := homeDone_finishHome (h := h) (op := { kind := .home .reel h, phase := .waiting })
    (s := onCable (·.zero .traverse) (onCable (·.zero .reel) (setOp (.home .reel h) .waiting s)))
    (Cableway.op_of_afield ((Cableway.afield_zero ..).trans (Cableway.afield_zero ..)))
    (Cableway.stands_zero_other _ (by decide) (Cableway.stands_zero _ _)) (Cableway.stands_zero _ _)
  refine ⟨_, gives_begins hacc hq hbegin (hdone.due.trans hj.2.2), (hdone.opEnded ?_).of_time rfl, ?_, ?_, ?_, ?_, ?_, ?_⟩
  · exact ((Cableway.drive_zero ..).trans (Cableway.drive_zero ..)).trans hd
  · rw [hdone.cableway]
  · refine (congrArg Cableway.reelCount hdone.cableway).trans ?_
    exact (Cableway.reelCount_zero_traverse _).trans (Cableway.reelCount_zero _)
  · exact (congrArg Cableway.traverseCount hdone.cableway).trans (Cableway.traverseCount_zero _)
  · rw [hdone.cableway]
  · exact fun hp => hdone.closes (by rw [← hk, hp] <;> rfl) hp
  · exact fun hp => hdone.stands (.inr (by show s.permit.record.state ≠ .halted; rw [hp]; decide))

end

end Sys2Proof.Machine

/-! The operation commands, each by its first step (R128 to R131, R134). -/

namespace Sys2Proof.Machine

section
variable {s s0 : State} {i : Instr} {k : OpKind} {a : Answer} {o : OpOutcome} {r : OpResults}
  (hg : Gives .cableway i s (settle (acceptOp k s0)) a) (hdue : s0.due = []) (hq : s0.cableway.quiet = true)
  (hd : s0.cableway.drive = none) (htime : s0.time = s.time)
include hg hdue hq hd htime

/-- The operation ends at once. -/
theorem gives_ends (hb : beginOp k (setOp k .waiting s0) = endOp o r (setOp k .waiting s0)) :
    ∃ u, Gives .cableway i s u a ∧ OpEnded s u k o r ∧ u.working = s0.working := by
  have hend := endOp_of_op (s := setOp k .waiting s0) (op := { kind := k, phase := .waiting }) rfl o r
  refine ⟨_, gives_begins hg hq (hb.trans hend) hdue, ?_, rfl⟩
  rw [← hend]
  exact (opEnded_endOp (s := setOp k .waiting s0) rfl hd o r).of_time htime

/-- The operation ends at once and leaves its meter placement. -/
theorem gives_ends_placed {pl : Option Placement} (hb : beginOp k (setOp k .waiting s0)
    = onCable (fun c => { c with placement := pl }) (endOp o r (setOp k .waiting s0))) :
    ∃ u, Gives .cableway i s u a ∧ OpEnded s u k o r ∧ u.cableway.placement = pl := by
  have hend := endOp_of_op (s := setOp k .waiting s0) (op := { kind := k, phase := .waiting }) rfl o r
  rw [hend] at hb
  obtain ⟨hop, hdrive, hlast, htold⟩ : OpEnded s (endOp o r (setOp k .waiting s0)) k o r :=
    (opEnded_endOp (s := setOp k .waiting s0) rfl hd o r).of_time htime
  rw [hend] at hop hdrive hlast htold
  exact ⟨_, gives_begins hg hq hb hdue, ⟨hop, hdrive, hlast, htold⟩, rfl⟩

end

theorem repeatReelFree_none {s : State} (h : ∀ op, s.cableway.op = some op → op.kind.name ≠ .reelFree) :
    repeatReelFree s = none := by
  unfold repeatReelFree
  cases hop : s.cableway.op with
  | none => rfl
  | some op =>
    obtain ⟨k, ph⟩ := op
    have hk := h _ hop
    cases k with
    | reelFree w => exact absurd rfl hk
    | _ => rfl

theorem command_congr {p : Port} {c : Instr} {work work' : State → State × Answer} {s : State} (h : work s = work' s) :
    command p c work s = command p c work' s := by
  unfold command
  rw [h]

theorem exec_reelFree_new {s : State} (h : repeatReelFree s = none) : exec (.reelFree .cableway) s
    = command .cableway (.reelFree .cableway) (operate true reelFreeGate (fun _ => none)
        (fun s => acceptOp (.reelFree (after s.time.elapsed 500)) s)) s := by
  rw [exec_reelFree]
  exact command_congr (by rw [h])

theorem inRange_false {lo hi v : Int} (h : ¬(lo ≤ v ∧ v ≤ hi)) : inRange lo hi v = false := by
  simpa [inRange] using h

theorem inRange_true {lo hi v : Int} (h : lo ≤ v ∧ v ≤ hi) : inRange lo hi v = true := by
  simpa [inRange] using h

theorem soundFast_new (c : Cableway) : soundFast c none = match c.lastSurface with
    | some mark => decide (c.reel < mark - 300)
    | none => false := by
  unfold soundFast
  cases c.lastSurface <;> rfl

/-! ### The first steps of an accepted operation -/

section
variable {s s0 : State} {i : Instr} {a : Answer}

/-- The drive of the operation's own first step, of a state that has nothing but the operation new. -/
theorem gives_own_drive {k : OpKind} (hg : Gives .cableway i s (settle (acceptOp k s0)) a) (hdue : s0.due = [])
    (hq : s0.cableway.quiet = true) {dir : Direction} {fast : Bool}
    (hb : beginOp k (setOp k .waiting s0)
      = setOp k .driving (onCable (·.energise dir fast s0.time.elapsed) (setOp k .waiting s0)))
    (hm : s0.cableway.mayDrive dir fast = true) : ∃ u, Gives .cableway i s u a ∧ Drives s0 u k dir fast :=
  gives_drives hg hq (s1 := s0) hdue (c := { s0.cableway with op := some { kind := k, phase := .waiting } }) hb hm rfl rfl

variable (hdue : s0.due = []) (hq : s0.cableway.quiet = true)

section
variable {target : Int} (hg : Gives .cableway i s (settle (acceptOp (.move target) s0)) a)
include hg hdue hq

theorem move_outward (hload : s0.cableway.loadTrip.passed = false) (hlt : s0.cableway.x < target)
    (hfar : s0.cableway.pins.far = false) :
    ∃ u, Gives .cableway i s u a ∧ Drives s0 u (.move target) .traverseOut (moveFast target s0.cableway.x) := by
  have hb := beginMove_outward (s := setOp (.move target) .waiting s0) hlt
  refine gives_own_drive hg hdue hq (hb.trans (beginDrive_free ?_)) (mayDrive_free hload)
  rintro l ⟨⟩
  exact hfar

theorem move_inward (hload : s0.cableway.loadTrip.passed = false) (hlt : target < s0.cableway.x)
    (hhome : s0.cableway.pins.home = false) :
    ∃ u, Gives .cableway i s u a ∧ Drives s0 u (.move target) .traverseIn (moveFast target s0.cableway.x) := by
  have hb := beginMove_inward (s := setOp (.move target) .waiting s0) hlt
  refine gives_own_drive hg hdue hq (hb.trans (beginDrive_free ?_)) (mayDrive_free hload)
  rintro l ⟨⟩
  exact hhome

variable (hd : s0.cableway.drive = none) (htime : s0.time = s.time)
include hd htime

/-- A MOVE ends where it is, or at the home limit on its way to 0. -/
theorem move_ends (h : s0.cableway.x = target ∨ (target < s0.cableway.x ∧ s0.cableway.pins.home = true ∧ target = 0)) :
    ∃ u, Gives .cableway i s u a ∧ OpEnded s u (.move target) .done (.move s0.cableway.x) ∧ u.working = s0.working := by
  refine gives_ends hg hdue hq hd htime ?_
  rcases h with hx | ⟨hlt, hhome, hzero⟩
  · exact beginMove_here (s := setOp (.move target) .waiting s0) hx
  · have hb := beginMove_inward (s := setOp (.move target) .waiting s0) hlt
    rw [decide_eq_true hzero] at hb
    exact hb.trans (beginDrive_aimed rfl hhome)

theorem move_blocked (hopen : s0.permit.record.state = .open_)
    (h : (s0.cableway.x < target ∧ s0.cableway.pins.far = true)
      ∨ (target < s0.cableway.x ∧ s0.cableway.pins.home = true ∧ target ≠ 0)) :
    ∃ u, Gives .cableway i s u a ∧ OpEnded s u (.move target) .limit .none ∧ bitSet u.faults.word .cableLimit = true
      ∧ u.permit.record = { state := .halted, cause := .halt .limit, time := s.time.station }
      ∧ u.run.openBody = none := by
  rcases h with ⟨hlt, hfar⟩ | ⟨hlt, hhome, hne⟩
  · have hb := beginMove_outward (s := setOp (.move target) .waiting s0) hlt
    exact gives_blocked hg hdue hq hd hopen htime (hb.trans (beginDrive_blocked rfl hfar))
  · have hb := beginMove_inward (s := setOp (.move target) .waiting s0) hlt
    rw [decide_eq_false hne] at hb
    exact gives_blocked hg hdue hq hd hopen htime (hb.trans (beginDrive_blocked rfl hhome))

end

section
variable {p : PositionOp} (hg : Gives .cableway i s (settle (acceptOp (.position p) s0)) a)
include hg hdue hq

theorem position_lowers (hload : s0.cableway.loadTrip.passed = false) (hlt : s0.cableway.reel < p.target)
    (hb : s0.cableway.bottom.passed = false) (hmax : s0.cableway.reel < s0.cableway.config.maxReel) :
    ∃ u, Gives .cableway i s u a ∧ Drives s0 u (.position p) .reelDown (reelFast p.target s0.cableway.reel) :=
  gives_own_drive hg hdue hq (beginPosition_lowers (s := setOp (.position p) .waiting s0) hlt hb hmax)
    (mayDrive_free hload)

theorem position_raises (hload : s0.cableway.loadTrip.passed = false) (hlt : p.target < s0.cableway.reel)
    (htop : s0.cableway.pins.top = false) :
    ∃ u, Gives .cableway i s u a ∧ Drives s0 u (.position p) .reelUp (reelFast p.target s0.cableway.reel) := by
  have hb := beginPosition_upward (s := setOp (.position p) .waiting s0) hlt
  refine gives_own_drive hg hdue hq (hb.trans (beginDrive_free ?_)) (mayDrive_free hload)
  rintro l ⟨⟩
  exact htop

variable (hd : s0.cableway.drive = none) (htime : s0.time = s.time)
include hd htime

/-- A POSITION ends where it is, at the bottom contact and at the maximum reel length. -/
theorem position_ends {low : Bool} (h : (s0.cableway.reel = p.target ∧ low = p.low)
      ∨ (s0.cableway.reel < p.target ∧ s0.cableway.bottom.passed = true ∧ low = true)
      ∨ (s0.cableway.reel < p.target ∧ s0.cableway.bottom.passed = false
        ∧ (s0.cableway.config.maxReel : Int) ≤ s0.cableway.reel ∧ low = p.low))
    {depth : Int} (hdepth : depth = max 0 (s0.cableway.reel - s0.cableway.config.hanger - p.surface)) :
    ∃ u, Gives .cableway i s u a ∧ OpEnded s u (.position p) .done (.position (some p.fraction) depth low)
      ∧ u.cableway.placement = some { fraction := p.fraction, depth := depth, low := low } := by
  subst hdepth
  refine gives_ends_placed hg hdue hq hd htime ?_
  rcases h with ⟨heq, rfl⟩ | ⟨hlt, hb, rfl⟩ | ⟨hlt, hb, hmax, rfl⟩
  · exact beginPosition_here (s := setOp (.position p) .waiting s0) heq
  · exact beginPosition_bottom (s := setOp (.position p) .waiting s0) hlt hb
  · exact beginPosition_max (s := setOp (.position p) .waiting s0) hlt hb hmax

theorem position_blocked (hopen : s0.permit.record.state = .open_) (hlt : p.target < s0.cableway.reel)
    (htop : s0.cableway.pins.top = true) :
    ∃ u, Gives .cableway i s u a ∧ OpEnded s u (.position p) .limit .none ∧ bitSet u.faults.word .cableLimit = true
      ∧ u.permit.record = { state := .halted, cause := .halt .limit, time := s.time.station }
      ∧ u.run.openBody = none := by
  have hb := beginPosition_upward (s := setOp (.position p) .waiting s0) hlt
  exact gives_blocked hg hdue hq hd hopen htime (hb.trans (beginDrive_blocked rfl htop))

end

section
variable (hg : Gives .cableway i s (settle (acceptOp .carry s0)) a)
include hg hdue hq

theorem carry_raises (hload : s0.cableway.loadTrip.passed = false)
    (hlt : (s0.cableway.config.carry : Int) < s0.cableway.reel) (htop : s0.cableway.pins.top = false) :
    ∃ u, Gives .cableway i s u a
      ∧ Drives s0 u .carry .reelUp (decide (300 < s0.cableway.reel - s0.cableway.config.carry)) := by
  have hb := beginCarry_upward (s := setOp .carry .waiting s0) hlt
  rw [← reelFast_above hlt]
  refine gives_own_drive hg hdue hq (hb.trans (beginDrive_free ?_)) (mayDrive_free hload)
  rintro l ⟨⟩
  exact htop

variable (hd : s0.cableway.drive = none) (htime : s0.time = s.time)
include hd htime

theorem carry_ends (h : s0.cableway.reel ≤ s0.cableway.config.carry
      ∨ (s0.cableway.pins.top = true ∧ s0.cableway.config.carry = 0)) :
    ∃ u, Gives .cableway i s u a ∧ OpEnded s u .carry .done (.position none 0 false) ∧ u.cableway.placement = none := by
  refine gives_ends_placed hg hdue hq hd htime ?_
  by_cases hle : s0.cableway.reel ≤ s0.cableway.config.carry
  · exact beginCarry_here (s := setOp .carry .waiting s0) hle
  · obtain ⟨htop, hzero⟩ := h.resolve_left hle
    have hb := beginCarry_upward (s := setOp .carry .waiting s0) (by exact not_le.1 hle)
    rw [decide_eq_true (by exact congrArg Int.ofNat hzero)] at hb
    exact hb.trans (beginDrive_aimed rfl htop)

theorem carry_blocked (hopen : s0.permit.record.state = .open_)
    (hlt : (s0.cableway.config.carry : Int) < s0.cableway.reel) (htop : s0.cableway.pins.top = true)
    (hne : s0.cableway.config.carry ≠ 0) :
    ∃ u, Gives .cableway i s u a ∧ OpEnded s u .carry .limit .none ∧ bitSet u.faults.word .cableLimit = true
      ∧ u.permit.record = { state := .halted, cause := .halt .limit, time := s.time.station }
      ∧ u.run.openBody = none := by
  have hb := beginCarry_upward (s := setOp .carry .waiting s0) hlt
  rw [decide_eq_false (by exact fun h => hne (Int.ofNat.inj h))] at hb
  exact gives_blocked hg hdue hq hd hopen htime (hb.trans (beginDrive_blocked rfl htop))

end

section
variable (hg : Gives .cableway i s (settle (acceptOp (.sound none none) s0)) a)
include hg hdue hq

theorem sound_lowers (hload : s0.cableway.loadTrip.passed = false) (hlt : s0.cableway.reel < s0.cableway.config.maxReel) :
    ∃ u, Gives .cableway i s u a ∧ Drives s0 u (.sound none none) .reelDown (match s0.cableway.lastSurface with
      | some mark => decide (s0.cableway.reel < mark - 300)
      | none => false) := by
  rw [← soundFast_new]
  exact gives_own_drive hg hdue hq (beginSound_lowers (s := setOp (.sound none none) .waiting s0) hlt) (mayDrive_free hload)

theorem sound_max (hd : s0.cableway.drive = none) (htime : s0.time = s.time)
    (hmax : (s0.cableway.config.maxReel : Int) ≤ s0.cableway.reel) :
    ∃ u, Gives .cableway i s u a ∧ OpEnded s u (.sound none none) .noSurface .none ∧ u.working = s0.working := by
  have hb := beginSound_max (s := setOp (.sound none none) .waiting s0) (ls := none) (lb := none) hmax
  rw [soundMax, cutDrives_still (by exact hd)] at hb
  exact gives_ends hg hdue hq hd htime hb

end

section
variable {w : U32} (hg : Gives .cableway i s (settle (acceptOp (.reelFree w) s0)) a)
include hg hdue hq

theorem reelFree_raises (htop : s0.cableway.pins.top = false) :
    ∃ u, Gives .cableway i s u a ∧ Drives s0 u (.reelFree w) .reelUp false := by
  have hb : beginOp (.reelFree w) (setOp (.reelFree w) .waiting s0)
      = beginDrive (.reelFree w) .reelUp false true finishReelFree (setOp (.reelFree w) .waiting s0) := rfl
  refine gives_own_drive hg hdue hq (hb.trans (beginDrive_free ?_)) mayDrive_slowUp
  rintro l ⟨⟩
  exact htop

theorem reelFree_ends (hd : s0.cableway.drive = none) (htime : s0.time = s.time) (htop : s0.cableway.pins.top = true) :
    ∃ u, Gives .cableway i s u a ∧ OpEnded s u (.reelFree w) .done .none ∧ u.working = s0.working := by
  have hb : beginOp (.reelFree w) (setOp (.reelFree w) .waiting s0)
      = beginDrive (.reelFree w) .reelUp false true finishReelFree (setOp (.reelFree w) .waiting s0) := rfl
  exact gives_ends hg hdue hq hd htime (hb.trans (beginDrive_aimed rfl htop))

end
end

end Sys2Proof.Machine

/-! The operation commands (R125 to R131, R134). -/

namespace Sys2Proof.Machine

/-- Settles O46: each operation command by its judging, then by its first step. -/
theorem operationsDrive : Obligations.OperationsDrive := by
  unfold Obligations.OperationsDrive
  intro s c accepted refused waits drives ends blocked overWater
  refine ⟨fun hj => ?home, fun target hj => ?move, fun hj => ?sound, fun f hj => ?position, fun hj => ?carry,
    fun hj => ?reelFree⟩
  case home =>
    intro gate k
    obtain ⟨-, hbusy, hshut, -, -⟩ := gives_operate hj (fit := fun _ => true) (exec_home s)
    refine ⟨hbusy rfl, fun hop hno => hshut rfl hop ?_, fun hop hg hq => ?_, fun hop hg htop hq => ?_,
      fun hop hg htop hhome hq => ?_, fun hop hg htop hhome hq hd => ?_⟩
    · exact Bool.eq_false_iff.2 fun ht => hno (by simpa [homeGate] using ht)
    · exact gives_waits (home_accepted hj hop hg) hj.2.2 hq
    · exact home_lowered hj hop hg hq htop
    · exact home_out hj hop hg hq htop hhome rfl
    · exact home_home hj hop hg hq htop hhome hd
  case move =>
    intro fits gate k s0 fast
    obtain ⟨hunfit, hbusy, hshut, -, hacc⟩ := gives_operate hj
      (fit := fun s => decide (s.cableway.config.span ≠ 0) && inRange 0 s.cableway.config.span target.toInt)
      (exec_move target s)
    have hfit : fits ↔ (decide (s.cableway.config.span ≠ 0) && inRange 0 s.cableway.config.span target.toInt) = true := by
      simp [inRange, fits, c]
    have hgate : gate ↔ moveGate s = true := by simp [moveGate, Machine.overWater, gate, overWater, c]
    refine ⟨fun hno => hunfit (Bool.eq_false_iff.2 fun ht => hno (hfit.2 ht)), fun hf => hbusy (hfit.1 hf),
      fun hf hop hno => hshut (hfit.1 hf) hop (Bool.eq_false_iff.2 fun ht => hno (hgate.2 ht)), fun hf hop hg hq => ?_,
      fun hf hop hg hload => ?_⟩
    · exact gives_waits (s0 := s0) (hacc (hfit.1 hf) hop (hgate.1 hg) rfl) hj.2.2 hq
    · have hgives : Gives .cableway (.move .cableway target) s (settle (acceptOp (.move target.toInt) s0))
          (plain .accepted) := hacc (hfit.1 hf) hop (hgate.1 hg) rfl
      have hdue : s0.due = [] := hj.2.2
      refine ⟨fun hlt hfar hq => move_outward hdue hq hgives hload hlt hfar,
        fun hlt hhome hq => move_inward hdue hq hgives hload hlt hhome, fun hx hq hd => ?_,
        fun hlt hfar hq hd => move_blocked hdue hq hgives hd rfl hg.1.1 (.inl ⟨hlt, hfar⟩),
        fun hlt hhome hne hq hd => move_blocked hdue hq hgives hd rfl hg.1.1 (.inr ⟨hlt, hhome, hne⟩),
        fun hlt hhome hzero hq hd => ?_⟩
      · obtain ⟨u, hu, hended, -⟩ := move_ends hdue hq hgives hd rfl (.inl hx)
        exact ⟨u, hu, (show s0.cableway.x = target.toInt from hx) ▸ hended, trivial⟩
      · obtain ⟨u, hu, hended, -⟩ := move_ends hdue hq hgives hd rfl (.inr ⟨hlt, hhome, hzero⟩)
        exact ⟨u, hu, hended, trivial⟩
  case sound =>
    intro gate s0 fast
    obtain ⟨-, hbusy, hshut, -, hacc⟩ := gives_operate hj (fit := fun _ => true) (exec_sound s)
    have hgate : gate ↔ soundGate s = true := by simp [soundGate, Machine.overWater, gate, overWater, c]
    have hgives : c.op = none → gate → Gives .cableway (.sound .cableway) s (settle (acceptOp (.sound none none) s0))
        (plain .accepted) := fun hop hg => hacc rfl hop (hgate.1 hg) rfl
    have hdue : s0.due = [] := hj.2.2
    exact ⟨hbusy rfl, fun hop hno => hshut rfl hop (Bool.eq_false_iff.2 fun ht => hno (hgate.2 ht)),
      fun hop hg hq => gives_waits (hgives hop hg) hdue hq,
      fun hop hg hload hlt hq => sound_lowers hdue hq (hgives hop hg) hload hlt,
      fun hop hg hmax hq hd => sound_max (s0 := s0) hdue hq (hgives hop hg) hd rfl hmax⟩
  case position =>
    intro fits
    obtain ⟨hunfit, hbusy, hshut, hown, hacc⟩ := gives_operate hj (fit := fun _ => inRange 5 95 f.toNat) (exec_position f s)
    have hfit : fits ↔ inRange 5 95 f.toNat = true := by
      simp only [inRange, fits, Bool.and_eq_true, decide_eq_true_eq]
      omega
    have hgate : overWater ↔ Machine.overWater s = true := (overWater_iff s).symm
    refine ⟨fun hno => hunfit (Bool.eq_false_iff.2 fun ht => hno (hfit.2 ht)), fun hf => hbusy (hfit.1 hf),
      fun hf hop hno => hshut (hfit.1 hf) hop (overWater_false hno), fun hf hop hg hnone => ?_,
      fun x hf hop hg hx => ⟨fun hshallow => ?_, fun hdeep => ?_⟩⟩
    · exact hown _ (hfit.1 hf) hop (hgate.1 hg) (by rw [positionCheck, hnone])
    · exact hown _ (hfit.1 hf) hop (hgate.1 hg) (by rw [positionCheck, hx]; exact if_pos hshallow)
    · intro aim target k fast
      have hgives := hacc (hfit.1 hf) hop (hgate.1 hg) (by rw [positionCheck, hx]; exact if_neg (not_le.2 hdeep))
      rw [hx] at hgives
      have hdue : s.due = [] := hj.2.2
      refine ⟨gives_waits hgives hdue, fun hload hlt hb hmax hq => position_lowers hdue hq hgives hload hlt hb hmax,
        fun hload hlt htop hq => position_raises hdue hq hgives hload hlt htop, ?_,
        fun hlt htop hq hd => position_blocked hdue hq hgives hd rfl hg.1 hlt htop⟩
      intro here
      exact ⟨fun heq hq hd => position_ends hdue hq hgives hd rfl (.inl ⟨heq.symm, rfl⟩) rfl,
        fun hlt hb hq hd => position_ends hdue hq hgives hd rfl (.inr (.inl ⟨hlt, hb, rfl⟩)) rfl,
        fun hlt hb hmax hq hd => position_ends hdue hq hgives hd rfl (.inr (.inr ⟨hlt, hb, hmax, rfl⟩)) rfl⟩
  case carry =>
    obtain ⟨-, hbusy, hshut, -, hacc⟩ := gives_operate hj (fit := fun _ => true) (exec_positionCarry s)
    refine ⟨hbusy rfl, fun hop hno => hshut rfl hop (overWater_false hno), fun hop hg => ?_⟩
    have hgives := hacc rfl hop ((overWater_iff s).2 hg) rfl
    have hdue : s.due = [] := hj.2.2
    exact ⟨gives_waits hgives hdue, fun hload hlt htop hq => carry_raises hdue hq hgives hload hlt htop,
      fun hhere hq hd => carry_ends hdue hq hgives hd rfl hhere,
      fun hlt htop hne hq hd => carry_blocked hdue hq hgives hd rfl hg.1 hlt htop hne⟩
  case reelFree =>
    intro gate k
    have hdue : s.due = [] := hj.2.2
    have hgate : gate ↔ reelFreeGate s = true := by simp [reelFreeGate, gate, c]
    have hgives : c.op = none → gate → Gives .cableway (.reelFree .cableway) s (settle (acceptOp k s))
        (plain .accepted) := fun hop hg =>
      (gives_operate hj (fit := fun _ => true)
        (exec_reelFree_new (repeatReelFree_none fun op h => by simp [c, h] at hop))).2.2.2.2 rfl hop (hgate.1 hg) rfl
    refine ⟨fun w ph hop => gives_of_work hj (exec_reelFree s) ?_, fun hop hno => ?_,
      fun hop hg hq => gives_waits (hgives hop hg) hdue hq, fun op hop hne => ?_,
      fun hop hg htop hq => reelFree_raises hdue hq (hgives hop hg) htop, fun hop hg htop hq hd => ?_⟩
    · have hrepeat : repeatReelFree s = some (s.withCableway { c with op := some { kind := k, phase := ph } }) := by
        unfold repeatReelFree
        rw [show s.cableway.op = _ from hop]
        rfl
      rw [hrepeat]
    · exact (gives_operate hj (fit := fun _ => true)
        (exec_reelFree_new (repeatReelFree_none fun op h => by simp [c, h] at hop))).2.2.1 rfl hop
          (Bool.eq_false_iff.2 fun ht => hno (hgate.2 ht))
    · refine (gives_operate hj (fit := fun _ => true) (exec_reelFree_new (repeatReelFree_none fun op' h => ?_))).2.1 rfl ?_
      · obtain rfl := Option.some.inj (h.symm.trans hop)
        exact hne
      · exact fun h => Option.some_ne_none op (hop.symm.trans h)
    · obtain ⟨u, hu, hended, -⟩ := reelFree_ends hdue hq (hgives hop hg) hd rfl htop
      exact ⟨u, hu, hended, trivial⟩

end Sys2Proof.Machine

/-! The filtered inputs (R120) and what a contact's assertion means to the operation in flight (R129, R130, R132). -/

namespace Sys2Proof.Machine

/-! ### A drive cut for its axis to settle (R121) -/

theorem resume_held {s : State} (h : s.cableway.mayResume = false) : resume s = s := by
  rw [resume, h]
  exact if_neg Bool.false_ne_true

section
variable {c : Cableway} {k : OpKind}

theorem mayResume_of_settling (h : c.op = some { kind := k, phase := .settling }) (hk : k.name ≠ .reelFree) :
    c.mayResume = c.quiet := by
  unfold Cableway.mayResume
  rw [h]
  cases k with
  | reelFree w => exact absurd rfl hk
  | _ => rfl

theorem mayResume_of_coasting_reel (h : c.op = some { kind := k, phase := .settling })
    (hr : c.reelAxis.isCoasting = true) : c.mayResume = false := by
  have hquiet : c.quiet = false := by simp [Cableway.quiet, hr]
  unfold Cableway.mayResume
  rw [h]
  cases k with
  | reelFree w => simp [hr]
  | _ => exact hquiet

end

section
variable {s : State} {k : OpKind}

/-- A drive is cut: the operation waits for its axis. -/
theorem cutAndSettle_driven {d : Drive} (hd : s.cableway.drive = some d)
    (hk : k.name ≠ .reelFree ∨ d.dir.axis = .reel) : cutAndSettle k s = s.withCableway
      { s.cableway.setAxis d.dir.axis (.coasting s.time.elapsed) with
        drive := none, op := some { kind := k, phase := .settling } } := by
  have hcut : setOp k .settling (cutDrives s) = s.withCableway
      { s.cableway.setAxis d.dir.axis (.coasting s.time.elapsed) with
        drive := none, op := some { kind := k, phase := .settling } } := by
    rw [cutDrives, onCable, Cableway.cut, hd]
    rfl
  rw [cutAndSettle, hcut]
  refine resume_held ?_
  cases ha : d.dir.axis with
  | reel => exact mayResume_of_coasting_reel rfl rfl
  | traverse =>
    rw [ha] at hk
    exact mayResume_of_settling rfl (hk.resolve_right Axis.noConfusion)

/-- With no drive to cut, the operation waits for what coasts. -/
theorem cutAndSettle_waits (hd : s.cableway.drive = none) (hq : s.cableway.quiet = false) (hk : k.name ≠ .reelFree) :
    cutAndSettle k s = s.withCableway { s.cableway with op := some { kind := k, phase := .settling } } := by
  rw [cutAndSettle, cutDrives_still hd]
  exact resume_held ((mayResume_of_settling (c := (setOp k .settling s).cableway) rfl hk).trans hq)

/-- A change of speed (R135). -/
theorem Cableway.speed_eq (c : Cableway) (fast : Bool) : c.speed fast
    = { c with drive := c.drive.map fun d => { d with fast := fast && c.mayDrive d.dir fast } } := by
  unfold Cableway.speed
  cases hd : c.drive with
  | none =>
    have hsame : { c with drive := none } = c := by rw [← hd]
    exact hsame.symm
  | some d => rfl

/-- A cut by a contact, of the reel's drive or with no drive on. -/
theorem reelCut_cases {t : State} (ht : t = cutAndSettle k s) (hk : k.name ≠ .reelFree) :
    (∀ d, s.cableway.drive = some d → d.dir.axis = .reel → t = s.withCableway
      { s.cableway with
        op := some { kind := k, phase := .settling }, drive := none, reelAxis := .coasting s.time.elapsed })
    ∧ (s.cableway.drive = none → s.cableway.quiet = false →
      t = s.withCableway { s.cableway with op := some { kind := k, phase := .settling } }) := by
  refine ⟨fun d hd hreel => ht.trans ?_, fun hd hq => ht.trans (cutAndSettle_waits hd hq hk)⟩
  rw [cutAndSettle_driven hd (.inl hk), hreel] <;> rfl

/-! ### Contacts (R129, R130, R132) -/

theorem contactAsserts_idle {i : Contact} (hi : i ≠ .loadTrip) (hop : s.cableway.op = none) :
    contactAsserts i s = s := by
  cases i with
  | loadTrip => exact absurd rfl hi
  | surface => rw [contactAsserts, surfaceContact, hop]
  | bottom => rw [contactAsserts, bottomContact, hop]
  | meter => rw [contactAsserts, meterEdge, hop]

variable {ph : Phase} (hop : s.cableway.op = some { kind := k, phase := ph })
include hop

theorem setOp_same : setOp k ph s = s := by
  have hsame : { s.cableway with op := some { kind := k, phase := ph } } = s.cableway := by
    rw [← hop]
  exact (congrArg s.withCableway hsame).trans (State.withCableway_same s)

theorem meterEdge_counts {x : ObserveOp} {ends : U32} (hk : k = .observe x) (hx : x.phase = .count ends) :
    meterEdge s = s.withCableway
      { s.cableway with
        op := some
          { kind := .observe
              { x with
                pulses := if x.pulses < 65535 then x.pulses + 1 else x.pulses
                saturated := if x.pulses < 65535 then x.saturated else true }
            phase := ph } } := by
  subst hk
  have hpulse : x.pulse = { x with
      pulses := if x.pulses < 65535 then x.pulses + 1 else x.pulses
      saturated := if x.pulses < 65535 then x.saturated else true } := by
    unfold ObserveOp.pulse
    rw [hx]
    dsimp only
    split <;> rw [← hx]
  rw [meterEdge, hop]
  dsimp only
  rw [hpulse]
  rfl

theorem meterEdge_other (hk : ¬∃ x ends, k = .observe x ∧ x.phase = .count ends) : meterEdge s = s := by
  rw [meterEdge, hop]
  cases k with
  | observe x =>
    have hpulse : x.pulse = x := by
      unfold ObserveOp.pulse
      cases hx : x.phase with
      | dwell ends => rfl
      | count ends => exact absurd ⟨x, ends, rfl, hx⟩ hk
    dsimp only
    rw [hpulse]
    exact setOp_same hop
  | _ => rfl

theorem surfaceContact_sound {lb : Option Int} (hk : k = .sound none lb) : surfaceContact s = s.withCableway
    { s.cableway with
      op := some { kind := .sound (some s.cableway.reel) lb, phase := ph }, lastSurface := some s.cableway.reel
      drive := s.cableway.drive.map fun d => { d with fast := false } } := by
  subst hk
  rw [surfaceContact, hop]
  refine congrArg s.withCableway ?_
  dsimp only
  rw [Cableway.speed_eq]
  rfl

theorem surfaceContact_other (hk : ∀ lb, k ≠ .sound none lb) : surfaceContact s = s := by
  rw [surfaceContact, hop]
  cases k with
  | sound ls lb =>
    cases ls with
    | none => exact absurd rfl (hk lb)
    | some l => rfl
  | _ => rfl

theorem bottomContact_sound {ls : Int} (hk : k = .sound (some ls) none) :
    bottomContact s = cutAndSettle (.sound (some ls) (some s.cableway.reel)) s := by
  subst hk
  rw [bottomContact, hop]

theorem bottomContact_position {p : PositionOp} (hk : k = .position p) {d : Drive} (hd : s.cableway.drive = some d)
    (hdir : d.dir = .reelDown) :
    bottomContact s = cutAndSettle (.position { p with stop := some s.cableway.reel, low := true }) s := by
  subst hk
  rw [bottomContact, hop]
  dsimp only
  rw [hd]
  exact if_pos hdir

theorem bottomContact_other (hsound : ∀ ls, k ≠ .sound (some ls) none)
    (hposition : ∀ p, k = .position p → ¬∃ d, s.cableway.drive = some d ∧ d.dir = .reelDown) :
    bottomContact s = s := by
  rw [bottomContact, hop]
  cases k with
  | sound ls lb =>
    cases ls with
    | none => rfl
    | some l =>
      cases lb with
      | none => exact absurd rfl (hsound l)
      | some m => rfl
  | position p =>
    cases hd : s.cableway.drive with
    | none => rfl
    | some d => exact if_neg fun hdir => hposition p rfl ⟨d, hd, hdir⟩
  | _ => rfl

end

/-! ### Filters (R120) -/

theorem exec_inputChange (i : Contact) (closed : Bool) (s : State) :
    exec (.inputChange i closed) s = execInputChange i closed s := rfl

theorem exec_filterPass (i : Contact) (s : State) : exec (.filterPass i) s = execFilterPass i s := rfl

theorem filter_withPins (c : Cableway) (x : Pins) (i : Contact) : { c with pins := x }.filter i = c.filter i := by
  cases i <;> rfl

section
variable {i : Contact} {closed : Bool} {s : State}

/-- The part with the new level at the pin. -/
def pinned (i : Contact) (closed : Bool) (s : State) : State :=
  onCable (fun c => { c with pins := c.pins.setContact i closed }) s

theorem filter_pinned (i : Contact) (closed : Bool) (s : State) :
    (pinned i closed s).cableway.filter i = s.cableway.filter i := filter_withPins ..

theorem changeInput_same (h : closed = (s.cableway.filter i).passed) : changeInput i closed s
    = onCable (·.setFilter i { s.cableway.filter i with candidate := none }) (pinned i closed s) := by
  rw [← filter_pinned i closed s] at h ⊢
  exact if_pos h

theorem changeInput_timed (h : closed ≠ (s.cableway.filter i).passed) (hw : s.cableway.config.width i ≠ 0) :
    changeInput i closed s
      = onCable (·.setFilter i { s.cableway.filter i with
          candidate := some ((s.cableway.filter i).candidate.getD s.time.elapsed) }) (pinned i closed s) := by
  rw [← filter_pinned i closed s] at h ⊢
  exact (if_neg h).trans (if_neg hw)

theorem changeInput_passes (h : closed ≠ (s.cableway.filter i).passed) (hw : s.cableway.config.width i = 0) :
    changeInput i closed s = passLevel i closed (pinned i closed s) := by
  rw [← filter_pinned i closed s] at h
  exact (if_neg h).trans (if_pos hw)

theorem passFilter_eq {t : U32} (h : (s.cableway.filter i).candidate = some t) : passFilter i s
    = passLevel i (!(s.cableway.filter i).passed) (reach (after t (s.cableway.config.width i)) s) := by
  unfold passFilter
  dsimp only
  rw [h]

theorem passLevel_open : passLevel i false s
    = onCable (·.setFilter i { passed := false, candidate := none }) s := rfl

theorem passLevel_closed : passLevel i true s
    = contactAsserts i (onCable (·.setFilter i { passed := true, candidate := none }) s) := rfl

end

/-- Settles O49: the filters, and what the assertion of a contact means to the operation in flight. -/
theorem inputsFiltered : Obligations.InputsFiltered := by
  unfold Obligations.InputsFiltered
  intro i s c f width asserts
  have hwidth : c.config.width i = width := by cases i <;> rfl
  have hasserts : ∀ b : State, b.due = [] → asserts (.next (settle (contactAsserts i b))) b := fun b hdue => by
    have hnext : ∀ {t : State}, t.due = [] → contactAsserts i b = t →
        (.next (settle (contactAsserts i b)) : Host.Outcome State Fault Refusal) = .next t := fun hd ht => by
      rw [ht, settle_of_due_nil _ hd]
    refine ⟨fun hi hop => hnext hdue (contactAsserts_idle hi hop), fun k ph hop => ⟨?_, ?_, ?_⟩⟩
    · rintro rfl
      exact ⟨fun x ends hk hx => hnext hdue (meterEdge_counts hop hk hx), fun hno => hnext hdue (meterEdge_other hop hno)⟩
    · rintro rfl
      exact ⟨fun lb hk => hnext hdue (surfaceContact_sound hop hk), fun hno => hnext hdue (surfaceContact_other hop hno)⟩
    · rintro rfl
      refine ⟨fun ls hk => ?_, fun p hk ⟨d, hd, hdir⟩ => ?_,
        fun hsound hposition => hnext hdue (bottomContact_other hop hsound hposition)⟩
      · obtain ⟨hdriven, hwaits⟩ := reelCut_cases (k := .sound (some ls) (some b.cableway.reel))
          (bottomContact_sound hop hk) OpName.noConfusion
        exact ⟨fun d hd hreel => hnext hdue (hdriven d hd hreel), fun hd hq => hnext hdue (hwaits hd hq)⟩
      · obtain ⟨hdriven, hwaits⟩ := reelCut_cases
          (k := .position { p with stop := some b.cableway.reel, low := true })
          (bottomContact_position hop hk hd hdir) OpName.noConfusion
        exact ⟨fun d hd hreel => hnext hdue (hdriven d hd hreel), fun hd hq => hnext hdue (hwaits hd hq)⟩
  refine ⟨fun closed => ?_, fun hruns t hcand => ?_⟩
  · intro s0
    have hexec : Runs s → ∀ {t : State}, changeInput i closed s = t →
        exec (.inputChange i closed) s = .next (settle t) := fun hruns {t} ht => by
      rw [exec_inputChange, execInputChange, hruns.1, ht]
      rfl
    refine ⟨fun hruns h => ?_, fun hruns h hw => ?_, fun hruns h hw => ⟨fun hopen => ?_, fun hclosed => ?_⟩, fun hheld => ?_⟩
    · rw [hexec hruns (changeInput_same h), settle_of_due_nil _ (by exact hruns.2)]
      rfl
    · rw [hexec hruns (changeInput_timed h (by exact hwidth.trans_ne hw)), settle_of_due_nil _ (by exact hruns.2)]
      rfl
    · have hpass := changeInput_passes h (hwidth.trans hw)
      subst hopen
      rw [hexec hruns hpass, passLevel_open, settle_of_due_nil _ (by exact hruns.2)]
      rfl
    · have hpass := changeInput_passes h (hwidth.trans hw)
      subst hclosed
      rw [hexec hruns hpass, passLevel_closed]
      exact hasserts _ hruns.2
    · rw [exec_inputChange, execInputChange, if_pos (Option.isSome_iff_ne_none.2 hheld)]
      rfl
  · intro end_ now passed b
    have hpass := passFilter_eq hcand
    have hexec : exec (.filterPass i) s = .next (settle (passFilter i s)) := event_runs hruns.1 _
    have hb : ∀ {p level}, f.passed = p → level = !p → onCable (·.setFilter i { passed := level, candidate := none })
        (reach (after t (s.cableway.config.width i)) s) = b := fun hp hlevel => by
      rw [show s.cableway.config.width i = width from hwidth, reach_eq, hlevel, ← hp]
      rfl
    refine ⟨fun hp => ?_, fun hp => ?_⟩
    · rw [hexec, hpass, hp, Bool.not_true, passLevel_open, show _ = b from hb (level := false) hp rfl,
        settle_of_due_nil _ (by exact hruns.2)]
    · rw [hexec, hpass, hp, Bool.not_false, passLevel_closed, show _ = b from hb (level := true) hp rfl]
      exact hasserts _ hruns.2

end Sys2Proof.Machine

/-! The watches (section 7.4): the limits, the stall watch, the encoders and the load trip. -/

namespace Sys2Proof.Machine

/-! ### The part stopped from a state before the cut -/

/-- `s1` is `s` with its drives cut; the pins, the filters and the elapsed time may have moved on. -/
structure CutFrom (s s1 : State) : Prop where
  due : s1.due = []
  station : s1.time.station = s.time.station
  permit : s1.permit = s.permit
  run : s1.run = s.run
  drive : s1.cableway.drive = none
  op : s1.cableway.op = s.cableway.op
  coasts : ∀ d, s.cableway.drive = some d → s1.cableway.axis d.dir.axis = .coasting s1.time.elapsed
  traverse : s1.cableway.traverseCount = s.cableway.traverseCount
  reel : s1.cableway.reelCount = s.cableway.reelCount

section
variable {s s' s1 : State}

theorem Cableway.cut_driven {c : Cableway} {d : Drive} (h : c.drive = some d) (now : U32) :
    c.cut now = { c.setAxis d.dir.axis (.coasting now) with drive := none } := by
  rw [Cableway.cut, h]

theorem Cableway.axis_setAxis (c : Cableway) (a : Axis) (x : AxisState) : (c.setAxis a x).axis a = x := by
  cases a <;> rfl

theorem cutFrom_cutDrives (hdue : s'.due = []) (hstation : s'.time.station = s.time.station)
    (hpermit : s'.permit = s.permit) (hrun : s'.run = s.run) (hdrive : s'.cableway.drive = s.cableway.drive)
    (hop : s'.cableway.op = s.cableway.op) (htraverse : s'.cableway.traverseCount = s.cableway.traverseCount)
    (hreel : s'.cableway.reelCount = s.cableway.reelCount) : CutFrom s (cutDrives s') := by
  have hcounts : (cutDrives s').cableway.traverseCount = s'.cableway.traverseCount
      ∧ (cutDrives s').cableway.reelCount = s'.cableway.reelCount := by
    cases hd : s'.cableway.drive with
    | none => rw [cutDrives_still hd]; exact ⟨rfl, rfl⟩
    | some d =>
      rw [cutDrives, onCable, Cableway.cut_driven hd]
      cases d.dir <;> exact ⟨rfl, rfl⟩
  refine ⟨hdue, hstation, hpermit, hrun, Cableway.cut_drive .., ?_, fun d hd => ?_, hcounts.1.trans htraverse,
    hcounts.2.trans hreel⟩
  · exact (Cableway.op_of_afield (by simp [cutDrives, onCable])).trans hop
  · rw [← hdrive] at hd
    rw [cutDrives, onCable, Cableway.cut_driven hd]
    exact Cableway.axis_setAxis ..

theorem referenced_cutDrives (s : State) : (cutDrives s).cableway.referenced = s.cableway.referenced := by
  have h : (cutDrives s).cableway.afield = s.cableway.afield := by simp [cutDrives, onCable]
  have := congrArg Cableway.referenced h
  exact this

/-- What a watch stops. -/
theorem CutFrom.halts {h : HaltFault} {r : Report} {o : OpOutcome} {i : Instr} (hc : CutFrom s s1)
    (he : exec i s = .next (settle (haltBy h r o s1)))
    (hreferenced : r.fault ≠ .encoderFault → s1.cableway.referenced = s.cableway.referenced)
    (hlost : r.fault = .encoderFault → s1.cableway.referenced = false ∧ s1.cableway.placement = none) :
    ∃ t, exec i s = .next t
      ∧ t.cableway.drive = none ∧ t.cableway.op = none ∧ t.cableway.retract = none
      ∧ (∀ op, s.cableway.op = some op → OpEnded s t op.kind o .none)
      ∧ bitSet t.faults.word r.fault = true
      ∧ (s.permit.record.state = .open_ →
        t.permit.record = { state := .halted, cause := .halt h, time := s.time.station } ∧ t.run.openBody = none)
      ∧ (s.permit.record.state = .standingDown ∨ (s.permit.record.state = .closed ∧ h = .loadTrip) →
        t.permit.record = { state := .halted, cause := .halt h, time := s.time.station } ∧ t.run = s.run)
      ∧ (s.permit.record.state = .halted ∨ (s.permit.record.state = .closed ∧ h ≠ .loadTrip) →
        t.permit = s.permit ∧ t.run = s.run)
      ∧ (∀ d, s.cableway.drive = some d → t.cableway.axis d.dir.axis = .coasting t.time.elapsed)
      ∧ t.cableway.traverseCount = s.cableway.traverseCount ∧ t.cableway.reelCount = s.cableway.reelCount
      ∧ (r.fault ≠ .encoderFault → t.cableway.referenced = s.cableway.referenced)
      ∧ (r.fault = .encoderFault → t.cableway.referenced = false ∧ t.cableway.placement = none) := by
  have hh : HaltedBy h r o s1 (settle (haltBy h r o s1)) := settle_haltBy hc.due
  obtain ⟨pl, hcable, hpl⟩ := hh.cableway
  have hopened := hh.opened
  have hhalted := hh.halted
  have hstands := hh.stands
  rw [hc.permit, hc.station] at hopened hhalted
  rw [hc.permit, hc.run] at hstands
  rw [hc.run] at hhalted
  refine ⟨_, he, ?_, ?_, ?_, fun op hop => ?_, hh.bit, hopened, hhalted, hstands, fun d hd => ?_, ?_, ?_, fun hf => ?_,
    fun hf => ?_⟩
  · rw [hcable]
    exact hc.drive
  · rw [hcable]
    rfl
  · rw [hcable]
    rfl
  · have hended := hh.opEnded (hc.op.trans hop) hc.drive
    rw [OpEnded, hc.station] at hended
    exact hended
  · rw [hcable, hh.time, ← hc.coasts d hd]
    cases d.dir <;> rfl
  · rw [hcable]
    exact hc.traverse
  · rw [hcable]
    exact hc.reel
  · rw [hcable]
    exact hreferenced hf
  · rw [hcable]
    exact ⟨(hlost hf).1, hpl (hlost hf).2⟩

end

/-! ### The happenings -/

theorem exec_limitSwitchChange (l : Limit) (closed : Bool) (s : State) :
    exec (.limitSwitchChange l closed) s = execLimitSwitchChange l closed s := rfl

theorem exec_stallWatchExpiry (s : State) : exec .stallWatchExpiry s = event expireStall s := rfl

theorem exec_cablewayEncoderStep (a : Axis) (m : EncoderMove) (s : State) :
    exec (.cablewayEncoderStep a m) s = event (stepEncoder a m) s := rfl

section
variable {s : State}

/-- The part with the new level of a limit. -/
def limited (l : Limit) (closed : Bool) (s : State) : State :=
  onCable (fun c => { c with pins := c.pins.setLimit l closed }) s

theorem limitSwitch_runs (hruns : Runs s) (l : Limit) (closed : Bool) :
    exec (.limitSwitchChange l closed) s = .next (settle (changeLimit l closed s)) := by
  rw [exec_limitSwitchChange, execLimitSwitchChange, hruns.1]
  rfl

theorem changeLimit_still (hd : s.cableway.drive = none) (l : Limit) (closed : Bool) :
    changeLimit l closed s = limited l closed s := by
  rw [changeLimit, hd]
  rfl

theorem changeLimit_met {d : Drive} {l : Limit} (hd : s.cableway.drive = some d) (hl : d.dir.limit = some l)
    (hp : s.cableway.pins.limit l = false) : changeLimit l true s = limitMet l (limited l true s) := by
  rw [changeLimit, hd]
  exact if_pos ⟨rfl, hp, hl⟩

/-- A limit that the operation's step does not aim for (R136). -/
theorem limitMet_unaimed {k : OpKind} {ph : Phase} {l : Limit} (hop : s.cableway.op = some { kind := k, phase := ph })
    (hk : (∃ target, k = .move target ∧ (target ≠ 0 ∨ l = .far)) ∨ (∃ p, k = .position p)
      ∨ (k = .carry ∧ s.cableway.config.carry ≠ 0)) : limitMet l s = limitFault l s := by
  rw [limitMet, hop]
  rcases hk with ⟨target, rfl, hne | rfl⟩ | ⟨p, rfl⟩ | ⟨rfl, hne⟩
  · cases l with
    | home => exact if_neg hne
    | far => rfl
    | top => rfl
  · rfl
  · rfl
  · cases l with
    | home => rfl
    | far => rfl
    | top => exact if_neg hne

/-- A limit that is met while the drive does not aim for it stops the part. -/
theorem limit_halts (hruns : Runs s) {d : Drive} {k : OpKind} {ph : Phase} {l : Limit} (hd : s.cableway.drive = some d)
    (hl : d.dir.limit = some l) (hp : s.cableway.pins.limit l = false)
    (hop : s.cableway.op = some { kind := k, phase := ph })
    (hk : (∃ target, k = .move target ∧ (target ≠ 0 ∨ l = .far)) ∨ (∃ p, k = .position p)
      ∨ (k = .carry ∧ s.cableway.config.carry ≠ 0)) :
    exec (.limitSwitchChange l true) s = .next (settle (haltBy .limit { fault := .cableLimit, arg := .limit l } .limit
      (cutDrives (limited l true s)))) := by
  rw [limitSwitch_runs hruns, changeLimit_met hd hl hp, limitMet_unaimed (s := limited l true s) hop hk, limitFault_eq]

theorem stall_halts (hruns : Runs s) {d : Drive} (hd : s.cableway.drive = some d) :
    exec .stallWatchExpiry s = .next (settle (haltBy .stall { fault := .cableStall, arg := .axis d.dir.axis } .stall
      (cutDrives (reach (after d.since 3000) s)))) := by
  rw [exec_stallWatchExpiry, event_runs hruns.1, expireStall, hd]
  rfl

theorem impossible_halts (hruns : Runs s) (a : Axis) : exec (.cablewayEncoderStep a .impossible) s
    = .next (settle (haltBy .encoder { fault := .encoderFault, arg := .axis a } .stall
      (onCable (fun c => { c with referenced := false, placement := none }) (cutDrives s)))) := by
  rw [exec_cablewayEncoderStep, event_runs hruns.1]
  rfl

theorem loadTrip_halts (hruns : Runs s) (hp : s.cableway.loadTrip.passed = false) {t : U32}
    (hc : s.cableway.loadTrip.candidate = some t) : exec (.filterPass .loadTrip) s
      = .next (settle (haltBy .loadTrip { fault := .cableLoadTrip, arg := .none } .loadTrip
        (cutDrives (onCable (·.setFilter .loadTrip { passed := true, candidate := none }) (reach (after t 2) s))))) := by
  have hpass := passFilter_eq (i := .loadTrip) hc
  rw [show s.cableway.filter .loadTrip = s.cableway.loadTrip from rfl, hp, Bool.not_false, passLevel_closed] at hpass
  have hexec : exec (.filterPass .loadTrip) s = .next (settle (passFilter .loadTrip s)) := event_runs hruns.1 _
  rw [hexec, hpass]
  rfl

end

end Sys2Proof.Machine

/-! The steps of the cableway's encoders (R121, R135, R137) and what they mean to the drive that is on. -/

namespace Sys2Proof.Machine

section
variable {s : State}

/-! ### A step (R122, R137) -/

/-- A count one step on, short of the ends of its range. -/
theorem countOn_within {up : Bool} {n : U32} (h : if up then n ≠ 2147483647#32 else n ≠ 2147483648#32) :
    countOn up n = if up then n + 1 else n - 1 := by
  unfold countOn
  cases up with
  | true => rw [if_pos rfl, if_pos rfl, if_neg h]
  | false => rw [if_neg Bool.false_ne_true, if_neg Bool.false_ne_true, if_neg h]

/-- The part with the count of an axis one step on. -/
def stepped (a : Axis) (n : U32) (s : State) : State := s.withCableway (s.cableway.setCount a n)

theorem exec_step (hruns : Runs s) (a : Axis) {up : Bool} {n : U32}
    (hn : countOn up (s.cableway.count a) = n) :
    exec (.cablewayEncoderStep a (if up then .up else .down)) s = .next (settle (countChanged a (stepped a n s))) := by
  subst hn
  rw [exec_cablewayEncoderStep, event_runs hruns.1]
  cases up <;> rfl

theorem Cableway.axis_setCount (c : Cableway) (a b : Axis) (n : U32) : (c.setCount a n).axis b = c.axis b := by
  cases a <;> cases b <;> rfl

theorem Cableway.count_setCount (c : Cableway) (a : Axis) (n : U32) : (c.setCount a n).count a = n := by
  cases a <;> rfl

theorem Cableway.setCount_beside (c : Cableway) (a : Axis) (n : U32) : (c.setCount a n).drive = c.drive
    ∧ (c.setCount a n).op = c.op ∧ (c.setCount a n).retract = c.retract ∧ (c.setCount a n).loadTrip = c.loadTrip
    ∧ (c.setCount a n).referenced = c.referenced ∧ (c.setCount a n).lastSurface = c.lastSurface
    ∧ (c.setCount a n).config = c.config := by
  cases a <;> exact ⟨rfl, rfl, rfl, rfl, rfl, rfl, rfl⟩

theorem Cableway.drifted_setCount {c : Cableway} {a : Axis} {m : U32} (ha : c.axis a = .settled m) (n : U32) :
    (c.setCount a n).drifted a = (c.referenced && decide (20 < |n.toInt - m.toInt|)) := by
  unfold Cableway.drifted
  rw [Cableway.axis_setCount, ha, Cableway.count_setCount]
  cases a <;> rfl

theorem countChanged_settled {a : Axis} {m : U32} (ha : s.cableway.axis a = .settled m) :
    countChanged a s = if s.cableway.drifted a then encoderFault a s else s := by
  rw [countChanged, ha]

theorem countChanged_coasting {a : Axis} {since : U32} (ha : s.cableway.axis a = .coasting since) :
    countChanged a s = s.withCableway (s.cableway.setAxis a (.coasting s.time.elapsed)) := by
  rw [countChanged, ha]
  rfl

theorem countChanged_driven {a : Axis} {d : Drive} (ha : s.cableway.axis a = .driven) (hd : s.cableway.drive = some d)
    (hdir : d.dir.axis = a) : countChanged a s = trackMotion
      (s.withCableway { s.cableway with drive := some { d with since := s.time.elapsed } }) := by
  rw [countChanged, ha]
  refine congrArg trackMotion (congrArg s.withCableway ?_)
  dsimp only
  rw [hd, Option.map_some, if_pos hdir]

/-! ### What the step of a driven axis means (R121, R127 to R131, R139) -/

section
variable {d : Drive}

/-- A change of speed with the load trip clear. -/
theorem speed_free (hd : s.cableway.drive = some d) (hload : s.cableway.loadTrip.passed = false) (fast : Bool) :
    onCable (·.speed fast) s = s.withCableway { s.cableway with drive := some { d with fast := fast } } := by
  refine congrArg s.withCableway ?_
  dsimp only
  rw [Cableway.speed_eq, hd, Option.map_some, mayDrive_free hload, Bool.and_true]

theorem trackMotion_retract (hd : s.cableway.drive = some d) (hop : s.cableway.op = none) {ph : Phase} :
    (s.cableway.retract = some { step := .reel, phase := ph } → trackMotion s = s)
    ∧ (s.cableway.retract = some { step := .traverse, phase := ph } →
      trackMotion s = onCable (·.speed s.cableway.homingFast) s) := by
  refine ⟨fun hr => ?_, fun hr => ?_⟩
  · unfold trackMotion
    dsimp only
    rw [hd, hop, hr]
  · unfold trackMotion
    dsimp only
    rw [hd, hop, hr]

variable (hd : s.cableway.drive = some d) {k : OpKind} {ph : Phase}
  (hop : s.cableway.op = some { kind := k, phase := ph })
include hd hop

theorem trackMotion_homeReel {h : Bool} (hk : k = .home .reel h) : trackMotion s = s := by
  unfold trackMotion
  dsimp only
  rw [hd, hop, hk]

theorem trackMotion_homeTraverse {h : Bool} (hk : k = .home .traverse h) :
    trackMotion s = onCable (·.speed s.cableway.homingFast) s := by
  unfold trackMotion
  dsimp only
  rw [hd, hop, hk]

theorem trackMotion_reelFree {w : U32} (hk : k = .reelFree w) : trackMotion s = s := by
  unfold trackMotion
  dsimp only
  rw [hd, hop, hk]

theorem trackMotion_move {target : Int} (hk : k = .move target) : trackMotion s
    = if (d.dir = .traverseOut ∧ target ≤ s.cableway.x) ∨ (d.dir = .traverseIn ∧ s.cableway.x ≤ target) then
        cutAndSettle (.move target) s
      else onCable (·.speed (moveFast target s.cableway.x)) s := by
  unfold trackMotion
  dsimp only
  rw [hd, hop, hk]

theorem trackMotion_sound {ls lb : Option Int} (hk : k = .sound ls lb) : trackMotion s
    = if (s.cableway.config.maxReel : Int) ≤ s.cableway.reel then soundMax ls s
      else onCable (·.speed (soundFast s.cableway ls)) s := by
  unfold trackMotion
  dsimp only
  rw [hd, hop, hk]

theorem trackMotion_position {p : PositionOp} (hk : k = .position p) : trackMotion s
    = if (d.dir = .reelDown ∧ (p.target ≤ s.cableway.reel ∨ (s.cableway.config.maxReel : Int) ≤ s.cableway.reel))
          ∨ (d.dir = .reelUp ∧ s.cableway.reel ≤ p.target) then
        cutAndSettle (.position { p with stop := some s.cableway.reel }) s
      else onCable (·.speed (reelFast p.target s.cableway.reel)) s := by
  unfold trackMotion
  dsimp only
  rw [hd, hop, hk]

theorem trackMotion_carry (hk : k = .carry) : trackMotion s
    = if s.cableway.reel ≤ (s.cableway.config.carry : Int) then cutAndSettle .carry s
      else onCable (·.speed (reelFast s.cableway.config.carry s.cableway.reel)) s := by
  unfold trackMotion
  dsimp only
  rw [hd, hop, hk]

end

/-- A SOUND that reaches the maximum reel length ends at the cut (R129). -/
theorem soundMax_ends {d : Drive} {ls lb : Option Int} {ph : Phase} (hd : s.cableway.drive = some d)
    (hop : s.cableway.op = some { kind := .sound ls lb, phase := ph }) :
    (soundMax ls s).due = s.due
      ∧ OpEnded s (soundMax ls s) (.sound ls lb) (if ls = none then .noSurface else .noBottom) .none
      ∧ (soundMax ls s).cableway.lastSurface = s.cableway.lastSurface ∧ (soundMax ls s).working = s.working
      ∧ (soundMax ls s).cableway.axis d.dir.axis = .coasting s.time.elapsed := by
  have hout : (if ls.isSome then OpOutcome.noBottom else .noSurface) = if ls = none then .noSurface else .noBottom := by
    cases ls <;> rfl
  have hcut : (cutDrives s).cableway.op = some { kind := .sound ls lb, phase := ph } :=
    (Cableway.op_of_afield (by simp [cutDrives, onCable])).trans hop
  have hcable : (cutDrives s).cableway = { s.cableway.setAxis d.dir.axis (.coasting s.time.elapsed) with drive := none } :=
    Cableway.cut_driven hd _
  rw [soundMax, hout, endOp_of_op hcut]
  refine ⟨rfl, ⟨rfl, Cableway.cut_drive .., rfl, raiseEvent_opDone _⟩, ?_, rfl, ?_⟩
  · refine (congrArg Cableway.lastSurface hcable).trans ?_
    cases d.dir <;> rfl
  · refine (congrArg (Cableway.axis · d.dir.axis) hcable).trans ?_
    exact Cableway.axis_setAxis ..

end

end Sys2Proof.Machine

/-! The watches and the steps of the encoders (R121, R135 to R138, R170). -/

namespace Sys2Proof.Machine

/-- The speeds of SOUND (R129). -/
theorem soundFast_cases (c : Cableway) (ls : Option Int) :
    (∀ mark, ls = none → c.lastSurface = some mark → soundFast c ls = decide (c.reel < mark - 300))
    ∧ (ls ≠ none ∨ c.lastSurface = none → soundFast c ls = false) := by
  unfold soundFast
  cases ls with
  | none =>
    refine ⟨fun mark _ hmark => by rw [hmark], fun h => ?_⟩
    rw [h.resolve_left fun hne => hne rfl]
  | some l =>
    refine ⟨fun mark hnone => absurd hnone (Option.some_ne_none l), fun _ => ?_⟩
    cases c.lastSurface <;> rfl

/-- The step of an axis that a drive moves, with the load trip clear: `t` is the part with the count and the stall
watch moved on. -/
structure DrivenStep (s : State) (i : Instr) (c1 : Cableway) (d : Drive) (t : State) : Prop where
  state : t = s.withCableway { c1 with drive := some { d with since := s.time.elapsed } }
  exec : exec i s = .next (settle (trackMotion t))
  due : s.due = []
  load : c1.loadTrip.passed = false

section
variable {s t : State} {i : Instr} {c1 : Cableway} {d : Drive} (h : DrivenStep s i c1 d t)
include h

theorem DrivenStep.drive : t.cableway.drive = some { d with since := s.time.elapsed } := by
  rw [h.state]
  rfl

theorem DrivenStep.speeds {fast : Bool} (ht : trackMotion t = onCable (·.speed fast) t) : Machine.exec i s
    = .next (s.withCableway { c1 with drive := some { dir := d.dir, fast := fast, since := s.time.elapsed } }) := by
  have hload : t.cableway.loadTrip.passed = false := by rw [h.state]; exact h.load
  have hdue : t.due = [] := by rw [h.state]; exact h.due
  rw [h.exec, ht, speed_free h.drive hload, settle_of_due_nil _ (by exact hdue), h.state] <;> rfl

theorem DrivenStep.stays (ht : trackMotion t = t) : Machine.exec i s
    = .next (s.withCableway { c1 with drive := some { dir := d.dir, fast := d.fast, since := s.time.elapsed } }) := by
  have hdue : t.due = [] := by rw [h.state]; exact h.due
  rw [h.exec, ht, settle_of_due_nil _ hdue, h.state]

theorem DrivenStep.settles {k : OpKind} (hk : k.name ≠ .reelFree) (ht : trackMotion t = cutAndSettle k t) :
    Machine.exec i s = .next (s.withCableway
      { c1.setAxis d.dir.axis (.coasting s.time.elapsed) with
        drive := none, op := some { kind := k, phase := .settling } }) := by
  have hdue : t.due = [] := by rw [h.state]; exact h.due
  rw [h.exec, ht, cutAndSettle_driven h.drive (.inl hk), settle_of_due_nil _ (by exact hdue), h.state]
  cases d.dir <;> rfl

end

theorem drivenStep {s : State} (hruns : Runs s) {a : Axis} {up : Bool} {d : Drive} {n : U32}
    (ha : s.cableway.axis a = .driven) (hd : s.cableway.drive = some d) (hdir : d.dir.axis = a)
    (hload : s.cableway.loadTrip.passed = false) (hn : countOn up (s.cableway.count a) = n) :
    DrivenStep s (.cablewayEncoderStep a (if up then .up else .down)) (s.cableway.setCount a n) d
      (s.withCableway { s.cableway.setCount a n with drive := some { d with since := s.time.elapsed } }) := by
  obtain ⟨hdrive, -, -, htrip, -⟩ := s.cableway.setCount_beside a n
  refine ⟨rfl, ?_, hruns.2, by rw [htrip, hload]⟩
  rw [exec_step hruns a hn, countChanged_driven (s := stepped a n s) (d := d)
    ((Cableway.axis_setCount ..).trans ha) (hdrive.trans hd) hdir]
  rfl

theorem cutFrom_reach (s : State) (u : U32) (hdue : s.due = []) : CutFrom s (cutDrives (reach u s)) := by
  rw [reach_eq]
  exact cutFrom_cutDrives hdue rfl rfl rfl rfl rfl rfl rfl

theorem cutFrom_loadTrip (s : State) (u : U32) (f : Filter) (hdue : s.due = []) :
    CutFrom s (cutDrives (onCable (·.setFilter .loadTrip f) (reach u s))) := by
  rw [reach_eq]
  exact cutFrom_cutDrives hdue rfl rfl rfl rfl rfl rfl rfl

theorem referenced_reach (u : U32) (s : State) : (reach u s).cableway.referenced = s.cableway.referenced := by
  rw [reach_eq] <;> rfl

/-- An encoder fault also makes the position UNREFERENCED (R137). -/
theorem CutFrom.unreferenced {s s1 : State} (h : CutFrom s s1) :
    CutFrom s (onCable (fun c => { c with referenced := false, placement := none }) s1) := by
  obtain ⟨hdue, hstation, hpermit, hrun, hdrive, hop, hcoasts, htraverse, hreel⟩ := h
  refine ⟨hdue, hstation, hpermit, hrun, hdrive, hop, fun d hd => ?_, htraverse, hreel⟩
  have hcoast := hcoasts d hd
  cases hx : d.dir.axis with
  | traverse =>
    rw [hx] at hcoast
    exact hcoast
  | reel =>
    rw [hx] at hcoast
    exact hcoast

/-- An encoder fault leaves the counts, the position UNREFERENCED and its bit. -/
theorem settle_encoderFault {s : State} (hdue : s.due = []) (a : Axis) :
    (settle (encoderFault a s)).cableway.count a = s.cableway.count a
      ∧ (settle (encoderFault a s)).cableway.referenced = false
      ∧ bitSet (settle (encoderFault a s)).faults.word .encoderFault = true := by
  have hcut : CutFrom s (onCable (fun c => { c with referenced := false, placement := none }) (cutDrives s)) :=
    (cutFrom_cutDrives hdue rfl rfl rfl rfl rfl rfl rfl).unreferenced
  have hh := settle_haltBy (h := .encoder) (r := { fault := .encoderFault, arg := .axis a }) (o := .stall) hcut.due
  obtain ⟨pl, hcable, -⟩ := hh.cableway
  rw [encoderFault_eq]
  refine ⟨?_, ?_, hh.bit⟩
  · rw [hcable]
    cases a with
    | traverse => exact hcut.traverse
    | reel => exact hcut.reel
  · rw [hcable]
    rfl

/-- Settles O50: each watch stops the part, and each step of an encoder by the state of its axis. -/
theorem watchesHalt : Obligations.WatchesHalt := by
  unfold Obligations.WatchesHalt
  intro s hruns c halts
  have hlimited : ∀ l, CutFrom s (cutDrives (limited l true s)) := fun l =>
    cutFrom_cutDrives hruns.2 rfl rfl rfl rfl rfl rfl rfl
  refine ⟨fun l closed hd => ?_, fun d target hd hdir hop hfar => ?_, fun d l k ph hd hl hp hop hk => ?_, fun d hd => ?_,
    fun a => ?_, fun hp hc => ?_, fun a up n ha => ?_, fun a up since ha => ?_,
    fun a up d ha hd hdir hload hin => ?_⟩
  · rw [limitSwitch_runs hruns, changeLimit_still hd, settle_of_due_nil _ (by exact hruns.2)]
    rfl
  · exact (hlimited .far).halts (limit_halts hruns hd (by rw [hdir] <;> rfl) hfar hop (.inl ⟨target, rfl, .inr rfl⟩))
      (fun _ => referenced_cutDrives _) (fun h => StationFault.noConfusion h)
  · have hk' : (∃ target, k = .move target ∧ (target ≠ 0 ∨ l = .far)) ∨ (∃ p, k = .position p)
        ∨ (k = .carry ∧ s.cableway.config.carry ≠ 0) :=
      hk.imp_left fun ⟨target, htarget, hne⟩ => ⟨target, htarget, .inl hne⟩
    exact (hlimited l).halts (limit_halts hruns hd hl hp hop hk')
      (fun _ => referenced_cutDrives _) (fun h => StationFault.noConfusion h)
  · exact (cutFrom_reach s _ hruns.2).halts (stall_halts hruns hd)
      (fun _ => (referenced_cutDrives _).trans (referenced_reach ..)) (fun h => StationFault.noConfusion h)
  · have hcut : CutFrom s (cutDrives s) := cutFrom_cutDrives hruns.2 rfl rfl rfl rfl rfl rfl rfl
    exact hcut.unreferenced.halts (impossible_halts hruns a) (fun h => absurd rfl h) fun _ => ⟨rfl, rfl⟩
  · obtain ⟨t, ht⟩ := Option.ne_none_iff_exists'.1 hc
    exact (cutFrom_loadTrip s _ _ hruns.2).halts (loadTrip_halts hruns hp ht)
      (fun _ => (referenced_cutDrives _).trans (referenced_reach ..)) (fun h => StationFault.noConfusion h)
  · intro count moved hin
    have hn : countOn up (s.cableway.count a) = moved := countOn_within hin
    have hstep := exec_step hruns a hn
    rw [countChanged_settled ((Cableway.axis_setCount ..).trans ha)] at hstep
    have hdrift : (stepped a moved s).cableway.drifted a = (c.referenced && decide (20 < |moved.toInt - n.toInt|)) :=
      Cableway.drifted_setCount ha moved
    refine ⟨fun hstill => ?_, fun href hfar => ?_⟩
    · have hno : (stepped a moved s).cableway.drifted a = false := by
        rw [hdrift]
        rcases hstill with href | hle
        · rw [href, Bool.false_and]
        · rw [decide_eq_false (not_lt.2 hle), Bool.and_false]
      rw [hstep, hno, if_neg Bool.false_ne_true, settle_of_due_nil _ (by exact hruns.2)]
      rfl
    · rw [hdrift, href, decide_eq_true hfar, Bool.and_true, if_pos rfl] at hstep
      obtain ⟨hcount, hlost, hbit⟩ := settle_encoderFault (s := stepped a moved s) hruns.2 a
      exact ⟨_, hstep, hcount.trans (Cableway.count_setCount ..), hlost, hbit⟩
  · intro count hin
    rw [exec_step hruns a (countOn_within hin), countChanged_coasting ((Cableway.axis_setCount ..).trans ha),
      settle_of_due_nil _ (by exact hruns.2)]
    rfl
  · subst hdir
    intro step c1 speeds settling homing
    obtain ⟨t, h⟩ : ∃ t, DrivenStep s step c1 d t := ⟨_, drivenStep hruns ha hd rfl hload (countOn_within hin)⟩
    obtain ⟨-, hop1, hretract1, -, -, hsurface1, hconfig1⟩ : c1.drive = c.drive ∧ c1.op = c.op ∧ c1.retract = c.retract
      ∧ c1.loadTrip = c.loadTrip ∧ c1.referenced = c.referenced ∧ c1.lastSurface = c.lastSurface
      ∧ c1.config = c.config := c.setCount_beside ..
    have hcable : t.cableway = { c1 with drive := some { d with since := s.time.elapsed } } := by rw [h.state] <;> rfl
    have hop : t.cableway.op = c.op := by rw [hcable, ← hop1]
    have hconfig : t.cableway.config = c.config := by rw [hcable, ← hconfig1]
    have hsurface : t.cableway.lastSurface = c.lastSurface := by rw [hcable, ← hsurface1]
    have hx : t.cableway.x = c1.x := by rw [hcable] <;> rfl
    have hreel : t.cableway.reel = c1.reel := by rw [hcable] <;> rfl
    have hhoming : t.cableway.homingFast = homing := by rw [hcable] <;> rfl
    have hspeeds : ∀ {fast}, trackMotion t = onCable (·.speed fast) t → speeds fast := fun ht => h.speeds ht
    have hsettles : ∀ {k : OpKind}, k.name ≠ .reelFree → trackMotion t = cutAndSettle k t → settling k :=
      fun hk ht => h.settles hk ht
    refine ⟨fun hnone ph => ⟨fun hr => ?_, fun hr => ?_⟩, fun k ph hk => ?_⟩
    · exact h.stays ((trackMotion_retract h.drive (hop.trans hnone) (ph := ph)).1 (by rw [hcable, ← hr]; exact hretract1))
    · rw [← hhoming]
      exact hspeeds ((trackMotion_retract h.drive (hop.trans hnone) (ph := ph)).2 (by rw [hcable, ← hr]; exact hretract1))
    · have hopk : t.cableway.op = some { kind := k, phase := ph } := hop.trans hk
      refine ⟨fun b hb => h.stays (trackMotion_homeReel h.drive hopk hb), fun b hb => ?_,
        fun w hw => h.stays (trackMotion_reelFree h.drive hopk hw), fun target hm => ?_, fun ls lb hs => ?_,
        fun p hp => ?_, fun hcarry => ?_⟩
      · rw [← hhoming]
        exact hspeeds (trackMotion_homeTraverse h.drive hopk hb)
      · have htrack := trackMotion_move h.drive hopk hm
        rw [hx] at htrack
        subst hm
        exact ⟨fun hr => hsettles OpName.noConfusion (htrack.trans (if_pos hr)),
          fun hr => hspeeds (htrack.trans (if_neg hr))⟩
      · have htrack := trackMotion_sound h.drive hopk hs
        rw [hreel, hconfig] at htrack
        subst hs
        refine ⟨fun hmax => ?_, fun hlt => ?_⟩
        · obtain ⟨hdue, hended, hmark, hworking, haxis⟩ := soundMax_ends h.drive hopk
          have hsound : trackMotion t = soundMax ls t := htrack.trans (if_pos hmax)
          have htdue : t.due = [] := by rw [h.state]; exact h.due
          have hexec := h.exec
          rw [hsound, settle_of_due_nil _ (hdue.trans htdue)] at hexec
          refine ⟨_, hexec, hended.of_time (by rw [h.state] <;> rfl), hmark.trans hsurface, hworking.trans ?_,
            haxis.trans ?_⟩
          · rw [h.state] <;> rfl
          · rw [h.state] <;> rfl
        · obtain ⟨hmarked, hunmarked⟩ := soundFast_cases t.cableway ls
          rw [hsurface, hreel] at hmarked
          rw [hsurface] at hunmarked
          have hspeed := hspeeds (htrack.trans (if_neg (not_le.2 hlt)))
          exact ⟨fun mark hnone hmark => hmarked mark hnone hmark ▸ hspeed, fun hno => hunmarked hno ▸ hspeed⟩
      · have htrack := trackMotion_position h.drive hopk hp
        rw [hreel, hconfig] at htrack
        subst hp
        exact ⟨fun hr => hsettles OpName.noConfusion (htrack.trans (if_pos hr)),
          fun hr => hspeeds (htrack.trans (if_neg hr))⟩
      · have htrack := trackMotion_carry h.drive hopk hcarry
        rw [hreel, hconfig] at htrack
        refine ⟨fun hle => hsettles OpName.noConfusion (htrack.trans (if_pos hle)), fun hlt => ?_⟩
        rw [← reelFast_above hlt]
        exact hspeeds (htrack.trans (if_neg (not_le.2 hlt)))

end Sys2Proof.Machine

/-! What ends an operation or the retract (R121, R126, R133, R134, R139): ABORT, an aimed limit, and an axis that has
settled. -/

namespace Sys2Proof.Machine

section
variable {s : State}

theorem OpEnded.of_station {s t u : State} {k : OpKind} {o : OpOutcome} {r : OpResults} (h : OpEnded t u k o r)
    (ht : t.time.station = s.time.station) : OpEnded s u k o r := by
  obtain ⟨hop, hdrive, hlast, htold⟩ := h
  rw [ht] at hlast
  exact ⟨hop, hdrive, hlast, htold⟩

/-! ### The end of the retract (R169) -/

/-- The retract has ended in the state `s`. -/
structure RetractDone (cause : PermitCause) (s u : State) : Prop where
  due : u.due = s.due
  cableway : u.cableway = { s.cableway with retract := none }
  closes : s.permit.record.state = .standingDown →
    u.permit.record = { state := .closed, cause := cause, time := s.time.station }
      ∧ u.ports.cableway.events.permit = true ∧ u.ports.warning.events.permit = true
  stands : s.permit.record.state ≠ .standingDown → u.permit = s.permit

theorem retractDone_finishRetract (cause : PermitCause) (s : State) : RetractDone cause s (finishRetract cause s) := by
  unfold finishRetract
  dsimp only
  by_cases hp : s.permit.record.state = .standingDown
  · have hne : (onCable (fun c => { c with retract := none }) s).permit.record.state ≠ .closed := by
      show s.permit.record.state ≠ .closed
      rw [hp]
      decide
    rw [if_pos (by exact hp)]
    refine ⟨due_permitChange .., permitChange_cableway .., fun _ => ⟨?_, ?_, ?_⟩, fun hno => absurd hp hno⟩
    · rw [permitChange_permit hne] <;> rfl
    · exact (permitChange_raises hne cause (p := .cableway) (by decide)).1
    · exact (permitChange_raises hne cause (p := .warning) (by decide)).1
  · rw [if_neg (by exact hp)]
    exact ⟨rfl, rfl, fun h => absurd h hp, fun _ => rfl⟩

/-! ### ABORT (R133) -/

theorem exec_abort (s : State) : exec (.abort .cableway) s = command .cableway (.abort .cableway)
    (fun s => (settle (abortMotion s).1, okWith (u8 (abortMotion s).2))) s := rfl

theorem abortMotion_op {op : Operation} (h : s.cableway.op = some op) :
    abortMotion s = (endOp .aborted .none (cutDrives s), 0) := if_pos (by rw [h] <;> rfl)

theorem abortMotion_retract (h : s.cableway.op = none) (hr : s.cableway.retract ≠ none) :
    abortMotion s = (finishRetract .retractAborted (cutDrives s), 0) := by
  rw [abortMotion, h]
  exact if_pos (Option.isSome_iff_ne_none.2 hr)

theorem abortMotion_none (h : s.cableway.op = none) (hr : s.cableway.retract = none) : abortMotion s = (s, 1) := by
  rw [abortMotion, h, hr]
  rfl

theorem placement_cutDrives (s : State) : (cutDrives s).cableway.placement = s.cableway.placement := by
  cases hd : s.cableway.drive with
  | none => rw [cutDrives_still hd]
  | some d =>
    rw [cutDrives, onCable, Cableway.cut_driven hd]
    cases d.dir <;> rfl

theorem op_cutDrives (s : State) : (cutDrives s).cableway.op = s.cableway.op :=
  Cableway.op_of_afield (by simp [cutDrives, onCable])

theorem u8_zero : u8 0 = [0] := by decide

theorem u8_one : u8 1 = [1] := by decide

theorem abort_op (hj : Judged .cableway (.abort .cableway) s) {op : Operation} (hop : s.cableway.op = some op) :
    ∃ u, Gives .cableway (.abort .cableway) s u (okWith [0])
      ∧ OpEnded s u op.kind .aborted .none ∧ u.working = s.working ∧ u.permit = s.permit
      ∧ u.cableway.placement = s.cableway.placement ∧ ∃ x y, u = (s.withCableway x).withPorts y := by
  have hop' := (op_cutDrives s).trans hop
  have hended : OpEnded (cutDrives s) _ op.kind .aborted .none :=
    opEnded_endOp hop' (Cableway.cut_drive ..) .aborted .none
  have heq := endOp_of_op hop' .aborted .none
  rw [heq] at hended
  refine ⟨_, gives_of_work hj (exec_abort s) ?_, hended.of_station rfl, rfl, rfl, placement_cutDrives s, _, _, rfl⟩
  rw [abortMotion_op hop, heq, settle_of_due_nil _ (by exact hj.2.2), u8_zero]

theorem abort_retract (hj : Judged .cableway (.abort .cableway) s) (hop : s.cableway.op = none)
    (hr : s.cableway.retract ≠ none) :
    ∃ u, Gives .cableway (.abort .cableway) s u (okWith [0])
      ∧ u.cableway.retract = none ∧ u.cableway.drive = none
      ∧ (s.permit.record.state = .standingDown →
        u.permit.record = { state := .closed, cause := .retractAborted, time := s.time.station })
      ∧ (s.permit.record.state ≠ .standingDown → u.permit = s.permit) := by
  have hdone := retractDone_finishRetract .retractAborted (cutDrives s)
  refine ⟨finishRetract .retractAborted (cutDrives s), gives_of_work hj (exec_abort s) ?_, ?_, ?_,
    fun hp => (hdone.closes hp).1, hdone.stands⟩
  · rw [abortMotion_retract hop hr, settle_of_due_nil _ (hdone.due.trans hj.2.2), u8_zero]
  · rw [hdone.cableway]
  · rw [hdone.cableway]
    exact Cableway.cut_drive ..

theorem abort_none (hj : Judged .cableway (.abort .cableway) s) (hop : s.cableway.op = none)
    (hr : s.cableway.retract = none) : Gives .cableway (.abort .cableway) s s (okWith [1]) :=
  gives_of_work hj (exec_abort s) (by
    rw [abortMotion_none hop hr, settle_of_due_nil _ hj.2.2, u8_one])

/-! ### Aimed limits (R127, R128, R131, R134, R139) -/

/-- The part after an aimed limit: its axis coasts from the cut. -/
def Cableway.limitCut (c : Cableway) (d : Drive) (l : Limit) (pins : Pins) (now : U32) : Cableway :=
  { c.setAxis d.dir.axis (.coasting now) with pins := pins.setLimit l true, drive := none }

theorem setRetract_cutDrives {d : Drive} (hd : s.cableway.drive = some d) (st : HomeStep) (ph : Phase) :
    setRetract st ph (cutDrives s) = s.withCableway
      { s.cableway.setAxis d.dir.axis (.coasting s.time.elapsed) with
        drive := none, retract := some { step := st, phase := ph } } := by
  rw [cutDrives, onCable, Cableway.cut_driven hd]
  rfl

section
variable {d : Drive} {l : Limit} {k : OpKind} {ph : Phase} (hruns : Runs s) (hd : s.cableway.drive = some d)
  (hl : d.dir.limit = some l) (hp : s.cableway.pins.limit l = false)
include hruns hd hl hp

/-- An operation that aims for a limit without a count to set. -/
theorem limit_aimed (hop : s.cableway.op = some { kind := k, phase := ph })
    (hk : (k = .move 0 ∧ l = .home) ∨ (k = .carry ∧ s.cableway.config.carry = 0 ∧ l = .top)
      ∨ (∃ w, k = .reelFree w ∧ l = .top)) :
    exec (.limitSwitchChange l true) s = .next (s.withCableway
      (Cableway.limitCut { s.cableway with op := some { kind := k, phase := .settling } } d l s.cableway.pins
        s.time.elapsed)) := by
  have hmet : limitMet l (limited l true s) = cutAndSettle k (limited l true s) := by
    rw [limitMet, show (limited l true s).cableway.op = _ from hop]
    rcases hk with ⟨rfl, rfl⟩ | ⟨rfl, hcarry, rfl⟩ | ⟨w, rfl, rfl⟩
    · rfl
    · exact if_pos hcarry
    · rfl
  have hreel : k.name ≠ .reelFree ∨ d.dir.axis = .reel := by
    rcases hk with ⟨rfl, -⟩ | ⟨rfl, -⟩ | ⟨w, rfl, rfl⟩
    · exact .inl OpName.noConfusion
    · exact .inl OpName.noConfusion
    · cases hdir : d.dir <;> simp [hdir, Direction.limit, Direction.axis] at hl ⊢
  rw [limitSwitch_runs hruns, changeLimit_met hd hl hp, hmet, cutAndSettle_driven (s := limited l true s) hd hreel,
    settle_of_due_nil _ (by exact hruns.2), Cableway.limitCut]
  cases d.dir <;> rfl

theorem limit_home {st : HomeStep} {h : Bool} (hop : s.cableway.op = some { kind := .home st h, phase := ph })
    (hst : (st = .reel ∧ l = .top) ∨ (st = .traverse ∧ l = .home)) {c1 : Cableway}
    (hc : c1 = match st with
      | .reel => { s.cableway with reelCount := 0 }
      | .traverse => { s.cableway with traverseCount := 0 }) :
    exec (.limitSwitchChange l true) s = .next (s.withCableway
      (Cableway.limitCut { c1 with op := some { kind := .home st h, phase := .settling } } d l s.cableway.pins
        s.time.elapsed)) := by
  subst hc
  rw [limitSwitch_runs hruns, changeLimit_met hd hl hp, limitMet, show (limited l true s).cableway.op = _ from hop]
  rcases hst with ⟨rfl, rfl⟩ | ⟨rfl, rfl⟩
  · have hdir : d.dir = .reelUp := by cases hdir : d.dir <;> simp [hdir, Direction.limit] at hl ⊢
    have hdrive : (onCable (·.zero .reel) (limited .top true s)).cableway.drive = some d :=
      (Cableway.drive_zero ..).trans hd
    dsimp only
    rw [cutAndSettle_driven hdrive (.inl OpName.noConfusion), settle_of_due_nil _ (by exact hruns.2), onCable,
      Cableway.zero_reel, Cableway.limitCut, hdir] <;> rfl
  · have hdir : d.dir = .traverseIn := by cases hdir : d.dir <;> simp [hdir, Direction.limit] at hl ⊢
    have hdrive : (onCable (·.zero .traverse) (limited .home true s)).cableway.drive = some d :=
      (Cableway.drive_zero ..).trans hd
    dsimp only
    rw [cutAndSettle_driven hdrive (.inl OpName.noConfusion), settle_of_due_nil _ (by exact hruns.2), onCable,
      Cableway.zero_traverse, Cableway.limitCut, hdir] <;> rfl

theorem limit_retract {st : HomeStep} (hop : s.cableway.op = none)
    (hr : s.cableway.retract = some { step := st, phase := ph })
    (hst : (st = .reel ∧ l = .top) ∨ (st = .traverse ∧ l = .home)) {c1 : Cableway}
    (hc : c1 = match st with
      | .reel => { s.cableway with reelCount := 0 }
      | .traverse => { s.cableway with traverseCount := 0 }) :
    exec (.limitSwitchChange l true) s = .next (s.withCableway
      (Cableway.limitCut { c1 with retract := some { step := st, phase := .settling } } d l s.cableway.pins
        s.time.elapsed)) := by
  subst hc
  rw [limitSwitch_runs hruns, changeLimit_met hd hl hp, limitMet, show (limited l true s).cableway.op = _ from hop,
    show (limited l true s).cableway.retract = _ from hr]
  rcases hst with ⟨rfl, rfl⟩ | ⟨rfl, rfl⟩
  · have hdir : d.dir = .reelUp := by cases hdir : d.dir <;> simp [hdir, Direction.limit] at hl ⊢
    have hdrive : (onCable (·.zero .reel) (limited .top true s)).cableway.drive = some d :=
      (Cableway.drive_zero ..).trans hd
    dsimp only
    rw [setRetract_cutDrives hdrive, settle_of_due_nil _ (by exact hruns.2), onCable, Cableway.zero_reel,
      Cableway.limitCut, hdir] <;> rfl
  · have hdir : d.dir = .traverseIn := by cases hdir : d.dir <;> simp [hdir, Direction.limit] at hl ⊢
    have hdrive : (onCable (·.zero .traverse) (limited .home true s)).cableway.drive = some d :=
      (Cableway.drive_zero ..).trans hd
    dsimp only
    rw [setRetract_cutDrives hdrive, settle_of_due_nil _ (by exact hruns.2), onCable, Cableway.zero_traverse,
      Cableway.limitCut, hdir] <;> rfl

end

/-! ### The repeat watch (R134) -/

theorem exec_repeatWatchExpiry (s : State) : exec .repeatWatchExpiry s = event expireRepeat s := rfl

theorem expireRepeat_cuts {w : U32} {ph : Phase} (hop : s.cableway.op = some { kind := .reelFree w, phase := ph })
    (hph : ph ≠ .settling) : expireRepeat s = cutAndSettle (.reelFree w) (reach w s) := by
  rw [expireRepeat, hop]
  cases ph with
  | waiting => rfl
  | driving => rfl
  | settling => exact absurd rfl hph

theorem mayResume_reelFree {c : Cableway} {w : U32} (h : c.op = some { kind := .reelFree w, phase := .settling }) :
    c.mayResume = !c.reelAxis.isCoasting := by
  unfold Cableway.mayResume
  rw [h]

end

end Sys2Proof.Machine

/-! An axis that has settled (R121): what waited for it goes on. -/

namespace Sys2Proof.Machine

theorem exec_axisSettled (a : Axis) (s : State) : exec (.axisSettled a) s = event (settleAxis a) s := rfl

/-- The cableway with a settled axis. -/
def Cableway.atRest (c : Cableway) (a : Axis) : Cableway := c.setAxis a (.settled (c.count a))

/-- The part when the axis has settled, at the reading `now`. -/
def settledAt (a : Axis) (now : U32) (s : State) : State :=
  (s.withTime { s.time with elapsed := now }).withCableway (s.cableway.atRest a)

section
variable {s : State} {a other : Axis} {since now : U32}

theorem axisSettled_runs (hruns : Runs s) (ha : s.cableway.axis a = .coasting since)
    (hnow : now = if ahead (since + 500#32) s.time.elapsed then since + 500#32 else s.time.elapsed) :
    exec (.axisSettled a) s = .next (settle (resume (settledAt a now s))) := by
  have hrest : onCable (fun c => c.setAxis a (.settled (c.count a))) (reach (after since 500) s)
      = settledAt a now s := by
    rw [reach_eq, after, ← hnow]
    rfl
  rw [exec_axisSettled, event_runs hruns.1, settleAxis, ha]
  dsimp only
  rw [hrest]

theorem atRest_beside (c : Cableway) (a : Axis) : (c.atRest a).drive = c.drive ∧ (c.atRest a).op = c.op
    ∧ (c.atRest a).retract = c.retract ∧ (c.atRest a).loadTrip = c.loadTrip ∧ (c.atRest a).referenced = c.referenced
    ∧ (c.atRest a).lastSurface = c.lastSurface ∧ (c.atRest a).config = c.config ∧ (c.atRest a).pins = c.pins
    ∧ (c.atRest a).traverseCount = c.traverseCount ∧ (c.atRest a).reelCount = c.reelCount := by
  cases a <;> exact ⟨rfl, rfl, rfl, rfl, rfl, rfl, rfl, rfl, rfl, rfl⟩

theorem atRest_x (c : Cableway) (a : Axis) : (c.atRest a).x = c.x := by cases a <;> rfl

theorem atRest_reel (c : Cableway) (a : Axis) : (c.atRest a).reel = c.reel := by cases a <;> rfl

theorem atRest_quiet (hne : a ≠ other) (c : Cableway) : (c.atRest a).quiet = !(c.axis other).isCoasting := by
  cases a with
  | traverse =>
    cases other with
    | traverse => exact absurd rfl hne
    | reel => rfl
  | reel =>
    cases other with
    | traverse => exact Bool.and_true _
    | reel => exact absurd rfl hne

/-- An axis that has settled where it stands has not drifted, and the other has not drifted by settling it. -/
theorem atRest_stands (hne : a ≠ other) (c : Cableway) (b : Axis)
    (h : other = b → ∀ n, c.axis other = .settled n → |(c.count other).toInt - n.toInt| ≤ 20) :
    (c.atRest a).Stands b := by
  have hown : ∀ {n : U32}, AxisState.settled n = .settled (c.count a) → |(c.count a).toInt - n.toInt| ≤ 20 := by
    intro n hn
    rw [AxisState.settled.inj hn, Int.sub_self]
    decide
  intro n hn
  cases a with
  | traverse =>
    cases other with
    | traverse => exact absurd rfl hne
    | reel =>
      cases b with
      | traverse => exact hown hn.symm
      | reel => exact h rfl n hn
  | reel =>
    cases other with
    | reel => exact absurd rfl hne
    | traverse =>
      cases b with
      | traverse => exact h rfl n hn
      | reel => exact hown hn.symm

/-! ### What may go on (R121, R134) -/

theorem mayResume_eq_quiet {c : Cableway} (h : ¬∃ w, c.op = some { kind := .reelFree w, phase := .settling }) :
    c.mayResume = c.quiet := by
  unfold Cableway.mayResume
  split
  · rename_i w hop
    exact absurd ⟨w, hop⟩ h
  · rfl
  · rfl

/-- Nothing goes on: nothing was waiting, or the other axis still coasts. -/
theorem axisSettled_waits (hruns : Runs s) (hne : a ≠ other) (ha : s.cableway.axis a = .coasting since)
    (hnow : now = if ahead (since + 500#32) s.time.elapsed then since + 500#32 else s.time.elapsed)
    (h : (s.cableway.op = none ∧ s.cableway.retract = none)
      ∨ ((s.cableway.axis other).isCoasting = true
        ∧ ¬((∃ w, s.cableway.op = some { kind := .reelFree w, phase := .settling }) ∧ a = .reel))) :
    exec (.axisSettled a) s = .next (settledAt a now s) := by
  obtain ⟨-, hop, hretract, -⟩ := atRest_beside s.cableway a
  have hstays : resume (settledAt a now s) = settledAt a now s := by
    rcases h with ⟨hnone, hr⟩ | ⟨hcoasts, hfreed⟩
    · unfold resume
      split
      · rw [show (settledAt a now s).cableway.op = none from hop.trans hnone,
          show (settledAt a now s).cableway.retract = none from hretract.trans hr]
      · rfl
    · refine resume_held ?_
      by_cases hfree : ∃ w, s.cableway.op = some { kind := .reelFree w, phase := .settling }
      · obtain ⟨w, hw⟩ := hfree
        refine mayResume_of_coasting_reel (k := .reelFree w) (hop.trans hw) ?_
        cases a with
        | reel => exact absurd ⟨⟨w, hw⟩, rfl⟩ hfreed
        | traverse =>
          cases other with
          | traverse => exact absurd rfl hne
          | reel => exact hcoasts
      · have hmay : (s.cableway.atRest a).mayResume = (s.cableway.atRest a).quiet :=
          mayResume_eq_quiet fun ⟨w, hw⟩ => hfree ⟨w, hop.symm.trans hw⟩
        rw [atRest_quiet hne, hcoasts] at hmay
        exact hmay
  have hdue : (settledAt a now s).due = [] := hruns.2
  rw [axisSettled_runs hruns ha hnow, hstays, settle_of_due_nil _ hdue]

end

/-! ### What goes on -/

section
variable {s : State} {k : OpKind}

theorem resume_settling (hop : s.cableway.op = some { kind := k, phase := .settling })
    (hmay : s.cableway.mayResume = true) : resume s = settleOp k s := by
  rw [resume, hmay, if_pos rfl, hop]

theorem resume_retracting {r : Retract} (hop : s.cableway.op = none) (hr : s.cableway.retract = some r)
    (hq : s.cableway.quiet = true) :
    (r.phase = .waiting → r.step = .reel → resume s = retractReel s)
    ∧ (r.phase = .settling → r.step = .reel → resume s = retractTraverse s)
    ∧ (r.phase = .settling → r.step = .traverse → resume s = finishRetract .retractDone s) := by
  have hmay : s.cableway.mayResume = true := by
    rw [mayResume_eq_quiet (by rw [hop]; simp), hq]
  refine ⟨fun hph hst => ?_, fun hph hst => ?_, fun hph hst => ?_⟩
  · rw [resume, hmay, if_pos rfl, hop, hr]
    dsimp only
    rw [hph, hst]
  · rw [resume, hmay, if_pos rfl, hop, hr]
    dsimp only
    rw [hph, hst]
  · rw [resume, hmay, if_pos rfl, hop, hr]
    dsimp only
    rw [hph, hst]

/-- An operation that ends DONE when its axis has settled. -/
theorem ended_of_settleOp {i : Instr} {s0 : State} {op : Operation} {o : OpOutcome} {r : OpResults}
    (hexec : exec i s = .next (settle (endOp o r s0))) (hop : s0.cableway.op = some op)
    (hd : s0.cableway.drive = none) (hst : s0.time.station = s.time.station) (hdue : s0.due = []) :
    exec i s = .next (endOp o r s0) ∧ OpEnded s (endOp o r s0) op.kind o r := by
  rw [settle_of_due_nil _ (by rw [endOp_of_op hop]; exact hdue)] at hexec
  exact ⟨hexec, (opEnded_endOp hop hd o r).of_station hst⟩

theorem energise_free {c : Cableway} {dir : Direction} {fast : Bool} (h : c.loadTrip.passed = false) (now : U32) :
    c.energise dir fast now = { c.setAxis dir.axis .driven with
      drive := some { dir := dir, fast := fast, since := now }, placement := none } := if_pos (mayDrive_free h)

end

end Sys2Proof.Machine

/-! What goes on when an axis has settled (R121, R127 to R131, R134, R139), operation by operation. -/

namespace Sys2Proof.Machine

/-- The drive of a step that begins where the part stands. -/
theorem drives_here {s0 : State} {k : OpKind} {dir : Direction} {fast : Bool}
    (hm : s0.cableway.mayDrive dir fast = true) :
    Drives s0 (setOp k .driving (onCable (·.energise dir fast s0.time.elapsed) s0)) k dir fast := by
  have h := drives_energise (k := k) (s0 := s0) hm rfl rfl
  rwa [State.withCableway_same] at h

/-- What HOME's end leaves (R127, R171). -/
theorem homed_of_done {h : Bool} {k : OpKind} {s t u : State} (hu : HomeDone h { kind := k, phase := .settling } t u)
    (hdt : t.cableway.drive = none) (hst : t.time.station = s.time.station) (hp : t.permit = s.permit) :
    OpEnded s u k .done .none ∧ u.cableway.referenced = true ∧ u.cableway.lastSurface = none
      ∧ (h = true → s.permit.record.state = .halted →
        u.permit.record = { state := .closed, cause := .homed, time := s.time.station })
      ∧ (h = false ∨ s.permit.record.state ≠ .halted → u.permit = s.permit) := by
  have hcloses := hu.closes
  have hstands := hu.stands
  rw [hp, hst] at hcloses
  rw [hp] at hstands
  refine ⟨(hu.opEnded hdt).of_station hst, ?_, ?_, hcloses, hstands⟩
  · rw [hu.cableway]
  · rw [hu.cableway]

theorem settled_quiet {s : State} {a other : Axis} (now : U32) (hne : a ≠ other)
    (hcoast : (s.cableway.axis other).isCoasting = false) : (settledAt a now s).cableway.quiet = true :=
  (atRest_quiet hne _).trans (by rw [hcoast]; decide)

/-- An operation that ends where its axis has settled. -/
theorem ended_at_rest {s : State} (a : Axis) (now : U32) {op : Operation} (hop : s.cableway.op = some op)
    (hd : s.cableway.drive = none) (o : OpOutcome) (r : OpResults) :
    OpEnded s (endOp o r (settledAt a now s)) op.kind o r := by
  obtain ⟨hdrive, hop', -⟩ := atRest_beside s.cableway a
  exact (opEnded_endOp (s := settledAt a now s) (hop'.trans hop) (hdrive.trans hd) o r).of_station rfl

section
variable {s : State} {a other : Axis} {since now : U32} (hruns : Runs s)
  (ha : s.cableway.axis a = .coasting since)
  (hnow : now = if ahead (since + 500#32) s.time.elapsed then since + 500#32 else s.time.elapsed)
include hruns ha hnow

/-- What goes on begins a drive. -/
theorem settled_drives {k : OpKind} {dir : Direction} {fast : Bool} (hload : s.cableway.loadTrip.passed = false)
    (h : resume (settledAt a now s)
      = setOp k .driving (onCable (·.energise dir fast (settledAt a now s).time.elapsed) (settledAt a now s))) :
    ∃ u, exec (.axisSettled a) s = .next u ∧ Drives (settledAt a now s) u k dir fast := by
  obtain ⟨-, -, -, htrip, -⟩ := atRest_beside s.cableway a
  refine ⟨_, ?_, drives_here (mayDrive_free (by exact (congrArg Filter.passed htrip).trans hload))⟩
  rw [axisSettled_runs hruns ha hnow, h, settle_of_due_nil _ (by exact hruns.2)]

/-- REEL_FREE ends with the reel at rest, whatever the traverse does (R134). -/
theorem settled_reelFree {w : U32} (hne : a ≠ other) (hd : s.cableway.drive = none)
    (hop : s.cableway.op = some { kind := .reelFree w, phase := .settling })
    (h : a = .reel ∨ (s.cableway.axis other).isCoasting = false) :
    ∃ u, exec (.axisSettled a) s = .next u ∧ OpEnded s u (.reelFree w) .done .none := by
  obtain ⟨hdrive, hop', -⟩ := atRest_beside s.cableway a
  have hreel : (s.cableway.atRest a).reelAxis.isCoasting = false := by
    cases a with
    | reel => rfl
    | traverse =>
      cases other with
      | traverse => exact absurd rfl hne
      | reel => exact h.resolve_left Axis.noConfusion
  have hmay : (settledAt a now s).cableway.mayResume = true :=
    (mayResume_reelFree (hop'.trans hop)).trans (by rw [hreel]; decide)
  have hexec := axisSettled_runs hruns ha hnow
  rw [resume_settling (hop'.trans hop) hmay] at hexec
  exact ⟨_, ended_of_settleOp hexec (hop'.trans hop) (hdrive.trans hd) rfl hruns.2⟩

variable (hne : a ≠ other) (hcoast : (s.cableway.axis other).isCoasting = false)
include hne hcoast

/-- What has settled is an operation's last drive step. -/
theorem settled_op {k : OpKind} (hk : k.name ≠ .reelFree)
    (hop : s.cableway.op = some { kind := k, phase := .settling }) :
    exec (.axisSettled a) s = .next (settle (settleOp k (settledAt a now s))) := by
  obtain ⟨-, hop', -⟩ := atRest_beside s.cableway a
  have hmay := (mayResume_of_settling (c := (settledAt a now s).cableway) (hop'.trans hop) hk).trans
    (settled_quiet now hne hcoast)
  rw [axisSettled_runs hruns ha hnow, resume_settling (hop'.trans hop) hmay]

omit hruns ha hnow in
/-- An operation that waited for the axis begins its step. -/
theorem settled_begins {k : OpKind} (hop : s.cableway.op = some { kind := k, phase := .waiting }) :
    resume (settledAt a now s) = beginOp k (settledAt a now s) := by
  obtain ⟨-, hop', -⟩ := atRest_beside s.cableway a
  exact resume_waiting (hop'.trans hop) (settled_quiet now hne hcoast)

variable (hd : s.cableway.drive = none)
include hd

theorem settled_move {target : Int} (hop : s.cableway.op = some { kind := .move target, phase := .settling }) :
    ∃ u, exec (.axisSettled a) s = .next u ∧ OpEnded s u (.move target) .done (.move s.cableway.x)
      ∧ ∃ x y z, u = ((s.withTime x).withCableway y).withPorts z := by
  obtain ⟨hdrive, hop', -⟩ := atRest_beside s.cableway a
  have hexec := settled_op hruns ha hnow hne hcoast OpName.noConfusion hop
  have hx : (settledAt a now s).cableway.x = s.cableway.x := atRest_x ..
  rw [settleOp, finishMove, hx] at hexec
  obtain ⟨he, hended⟩ := ended_of_settleOp (s := s) hexec (hop'.trans hop) (hdrive.trans hd) rfl hruns.2
  refine ⟨_, he, hended, ?_⟩
  rw [endOp_of_op (hop'.trans hop)]
  exact ⟨_, _, _, rfl⟩

theorem settled_sound {ls lb : Int}
    (hop : s.cableway.op = some { kind := .sound (some ls) (some lb), phase := .settling }) :
    ∃ u, exec (.axisSettled a) s = .next u
      ∧ OpEnded s u (.sound (some ls) (some lb)) .done (.sound s.cableway.x ls lb (lb - ls))
      ∧ u.working = { sounding := some { x := s.cableway.x, ls := ls, lb := lb, d := lb - ls }, observations := [] } := by
  obtain ⟨hdrive, hop', -⟩ := atRest_beside s.cableway a
  have hexec := settled_op hruns ha hnow hne hcoast OpName.noConfusion hop
  have hx : (settledAt a now s).cableway.x = s.cableway.x := atRest_x ..
  have hend := endOp_of_op (s := settledAt a now s) (hop'.trans hop) .done (.sound s.cableway.x ls lb (lb - ls))
  have hended := ended_at_rest a now hop hd .done (.sound s.cableway.x ls lb (lb - ls))
  rw [settleOp, finishSound, hx] at hexec
  dsimp only at hexec
  rw [hend] at hended hexec
  rw [settle_of_due_nil _ (by exact hruns.2)] at hexec
  exact ⟨_, hexec, hended, rfl⟩

theorem settled_position {p : PositionOp} {l : Int}
    (hop : s.cableway.op = some { kind := .position p, phase := .settling }) (hl : p.stop = some l) {depth : Int}
    (hdepth : depth = max 0 (l - s.cableway.config.hanger - p.surface)) :
    ∃ u, exec (.axisSettled a) s = .next u
      ∧ OpEnded s u (.position p) .done (.position (some p.fraction) depth p.low)
      ∧ u.cableway.placement = some { fraction := p.fraction, depth := depth, low := p.low } := by
  obtain ⟨hdrive, hop', -, -, -, -, hconfig, -⟩ := atRest_beside s.cableway a
  have hdepth' : depth = max 0 (l - (settledAt a now s).cableway.config.hanger - p.surface) := by
    rw [hdepth]
    exact congrArg (fun x : CableConfig => max 0 (l - x.hanger - p.surface)) hconfig.symm
  have hexec := settled_op hruns ha hnow hne hcoast OpName.noConfusion hop
  have hend := endOp_of_op (s := settledAt a now s) (hop'.trans hop) .done (.position (some p.fraction) depth p.low)
  have hended := ended_at_rest a now hop hd .done (.position (some p.fraction) depth p.low)
  rw [settleOp, finishPosition_eq (hop'.trans hop) p hl, ← hdepth', settle_of_due_nil _ (by exact hruns.2)] at hexec
  rw [hend] at hended
  exact ⟨_, hexec, hended, rfl⟩

theorem settled_carry (hop : s.cableway.op = some { kind := .carry, phase := .settling }) :
    ∃ u, exec (.axisSettled a) s = .next u ∧ OpEnded s u .carry .done (.position none 0 false)
      ∧ u.cableway.placement = none ∧ u.working = s.working := by
  obtain ⟨hdrive, hop', -⟩ := atRest_beside s.cableway a
  have hexec := settled_op hruns ha hnow hne hcoast OpName.noConfusion hop
  have hend := endOp_of_op (s := settledAt a now s) (hop'.trans hop) .done (.position none 0 false)
  have hended := ended_at_rest a now hop hd .done (.position none 0 false)
  rw [settleOp, finishCarry_eq (hop'.trans hop), settle_of_due_nil _ (by exact hruns.2)] at hexec
  rw [hend] at hended
  exact ⟨_, hexec, hended, rfl, rfl⟩

end

end Sys2Proof.Machine

/-! HOME and the retract when an axis has settled (R127, R139, R169, R171), and the ends of operations. -/

namespace Sys2Proof.Machine

section
variable {s : State} {a other : Axis} {since now : U32} (hruns : Runs s)
  (ha : s.cableway.axis a = .coasting since)
  (hnow : now = if ahead (since + 500#32) s.time.elapsed then since + 500#32 else s.time.elapsed)
  (hne : a ≠ other) (hcoast : (s.cableway.axis other).isCoasting = false)

theorem homingFast_settledAt (s : State) (a : Axis) (now : U32) : (settledAt a now s).cableway.homingFast
    = (s.cableway.referenced && decide (1000 < s.cableway.x)) := by
  obtain ⟨-, -, -, -, href, -⟩ := atRest_beside s.cableway a
  have hx := atRest_x s.cableway a
  unfold Cableway.homingFast
  rw [show (settledAt a now s).cableway.referenced = _ from href, show (settledAt a now s).cableway.x = _ from hx]

section
variable {h : Bool}
include hruns ha hnow hne hcoast

theorem settled_homeTraverse (hd : s.cableway.drive = none)
    (hop : s.cableway.op = some { kind := .home .traverse h, phase := .settling })
    (hother : ∀ n, s.cableway.axis other = .settled n → |(s.cableway.count other).toInt - n.toInt| ≤ 20) :
    ∃ u, exec (.axisSettled a) s = .next u ∧ OpEnded s u (.home .traverse h) .done .none
      ∧ (u.cableway.referenced = true ∧ u.cableway.lastSurface = none
      ∧ (h = true → s.permit.record.state = .halted →
        u.permit.record = { state := .closed, cause := .homed, time := s.time.station })
      ∧ (h = false ∨ s.permit.record.state ≠ .halted → u.permit = s.permit))
      ∧ u.cableway.traverseCount = s.cableway.traverseCount ∧ u.cableway.reelCount = s.cableway.reelCount := by
  obtain ⟨hdrive, hop', -, -, -, -, -, -, htraverse, hreel⟩ := atRest_beside s.cableway a
  have hdone := homeDone_finishHome (s := settledAt a now s) (h := h) (hop'.trans hop)
    (atRest_stands hne _ .reel fun _ => hother) (atRest_stands hne _ .traverse fun _ => hother)
  have hexec := settled_op hruns ha hnow hne hcoast OpName.noConfusion hop
  rw [settleOp, settle_of_due_nil _ (hdone.due.trans hruns.2)] at hexec
  obtain ⟨hended, hhomed⟩ := homed_of_done (s := s) hdone (hdrive.trans hd) rfl rfl
  refine ⟨_, hexec, hended, hhomed, ?_, ?_⟩
  · rw [hdone.cableway]
    exact htraverse
  · rw [hdone.cableway]
    exact hreel

theorem settled_homeReel_out (hop : s.cableway.op = some { kind := .home .reel h, phase := .settling })
    (hhome : s.cableway.pins.home = false) (hload : s.cableway.loadTrip.passed = false) :
    ∃ u, exec (.axisSettled a) s = .next u ∧ Drives (settledAt a now s) u (.home .traverse h) .traverseIn
      (s.cableway.referenced && decide (1000 < s.cableway.x)) := by
  obtain ⟨-, hop', -, -, -, -, -, hpins, -⟩ := atRest_beside s.cableway a
  have hmay := (mayResume_of_settling (c := (settledAt a now s).cableway) (hop'.trans hop) OpName.noConfusion).trans
    (settled_quiet now hne hcoast)
  refine settled_drives hruns ha hnow hload ?_
  rw [resume_settling (hop'.trans hop) hmay, settleOp,
    homeTraverse_out (by exact (congrArg Pins.home hpins).trans hhome), homingFast_settledAt]

theorem settled_homeReel_home (hd : s.cableway.drive = none)
    (hop : s.cableway.op = some { kind := .home .reel h, phase := .settling }) (hhome : s.cableway.pins.home = true)
    (hother : ∀ n, s.cableway.axis other = .settled n → other = .reel →
      |(s.cableway.count other).toInt - n.toInt| ≤ 20) :
    ∃ u, exec (.axisSettled a) s = .next u ∧ OpEnded s u (.home .reel h) .done .none
      ∧ (u.cableway.referenced = true ∧ u.cableway.lastSurface = none
      ∧ (h = true → s.permit.record.state = .halted →
        u.permit.record = { state := .closed, cause := .homed, time := s.time.station })
      ∧ (h = false ∨ s.permit.record.state ≠ .halted → u.permit = s.permit))
      ∧ u.cableway.traverseCount = 0 := by
  obtain ⟨hdrive, hop', -, -, -, -, -, hpins, -⟩ := atRest_beside s.cableway a
  have hdone := homeDone_finishHome (s := onCable (·.zero .traverse) (settledAt a now s)) (h := h)
    ((Cableway.op_of_afield (Cableway.afield_zero ..)).trans (hop'.trans hop))
    (Cableway.stands_zero_other _ (by decide) (atRest_stands hne _ .reel fun hr n hn => hother n hn hr))
    (Cableway.stands_zero _ _)
  have hexec := settled_op hruns ha hnow hne hcoast OpName.noConfusion hop
  rw [settleOp, homeTraverse_home (by exact (congrArg Pins.home hpins).trans hhome),
    settle_of_due_nil _ (hdone.due.trans hruns.2)] at hexec
  obtain ⟨hended, hhomed⟩ := homed_of_done (s := s) hdone ((Cableway.drive_zero ..).trans (hdrive.trans hd)) rfl rfl
  refine ⟨_, hexec, hended, hhomed, ?_⟩
  rw [hdone.cableway]
  exact Cableway.traverseCount_zero _

/-! ### The retract (R139, R169) -/

variable (hop : s.cableway.op = none)
include hop

theorem settled_retract {r : Retract} (hr : s.cableway.retract = some r) :
    (r.phase = .waiting → r.step = .reel →
      exec (.axisSettled a) s = .next (settle (retractReel (settledAt a now s))))
    ∧ (r.phase = .settling → r.step = .reel →
      exec (.axisSettled a) s = .next (settle (retractTraverse (settledAt a now s))))
    ∧ (r.phase = .settling → r.step = .traverse →
      exec (.axisSettled a) s = .next (settle (finishRetract .retractDone (settledAt a now s)))) := by
  obtain ⟨-, hop', hr', -⟩ := atRest_beside s.cableway a
  obtain ⟨hwaits, hreel, htraverse⟩ := resume_retracting (s := settledAt a now s) (hop'.trans hop) (hr'.trans hr)
    (settled_quiet now hne hcoast)
  have hexec := axisSettled_runs hruns ha hnow
  exact ⟨fun hph hst => by rw [hexec, hwaits hph hst], fun hph hst => by rw [hexec, hreel hph hst],
    fun hph hst => by rw [hexec, htraverse hph hst]⟩

theorem settled_retractTraverse (hd : s.cableway.drive = none)
    (hr : s.cableway.retract = some { step := .traverse, phase := .settling }) :
    ∃ u, exec (.axisSettled a) s = .next u
      ∧ u.cableway.retract = none ∧ u.cableway.drive = none
      ∧ (s.permit.record.state = .standingDown →
        u.permit.record = { state := .closed, cause := .retractDone, time := s.time.station }
          ∧ u.ports.cableway.events.permit = true ∧ u.ports.warning.events.permit = true)
      ∧ (s.permit.record.state ≠ .standingDown → u.permit = s.permit) := by
  obtain ⟨hdrive, -⟩ := atRest_beside s.cableway a
  have hexec := (settled_retract hruns ha hnow hne hcoast hop hr).2.2 rfl rfl
  have hdone := retractDone_finishRetract .retractDone (settledAt a now s)
  rw [settle_of_due_nil _ (hdone.due.trans hruns.2)] at hexec
  refine ⟨_, hexec, ?_, ?_, hdone.closes, hdone.stands⟩
  · rw [hdone.cableway]
  · rw [hdone.cableway]
    exact hdrive.trans hd

theorem settled_retractReel_home (hd : s.cableway.drive = none)
    (hr : s.cableway.retract = some { step := .reel, phase := .settling })
    (hhome : s.cableway.pins.home = true) :
    ∃ u, exec (.axisSettled a) s = .next u
      ∧ (u.cableway.retract = none ∧ u.cableway.drive = none
      ∧ (s.permit.record.state = .standingDown →
        u.permit.record = { state := .closed, cause := .retractDone, time := s.time.station }
          ∧ u.ports.cableway.events.permit = true ∧ u.ports.warning.events.permit = true)
      ∧ (s.permit.record.state ≠ .standingDown → u.permit = s.permit))
      ∧ u.cableway.traverseCount = 0
      ∧ u.cableway.traverseAxis = match (settledAt a now s).cableway.traverseAxis with
        | .settled _ => .settled 0
        | x => x := by
  obtain ⟨hdrive, -, -, -, -, -, -, hpins, -⟩ := atRest_beside s.cableway a
  have hexec := (settled_retract hruns ha hnow hne hcoast hop hr).2.1 rfl rfl
  have hdone := retractDone_finishRetract .retractDone (onCable (·.zero .traverse) (settledAt a now s))
  rw [retractTraverse_home (by exact (congrArg Pins.home hpins).trans hhome),
    settle_of_due_nil _ (hdone.due.trans hruns.2)] at hexec
  refine ⟨_, hexec, ⟨?_, ?_, hdone.closes, hdone.stands⟩, ?_, ?_⟩
  · rw [hdone.cableway]
  · rw [hdone.cableway]
    exact (Cableway.drive_zero ..).trans (hdrive.trans hd)
  · rw [hdone.cableway]
    exact Cableway.traverseCount_zero _
  · rw [hdone.cableway]
    exact congrArg Cableway.traverseAxis (Cableway.zero_traverse _)

theorem settled_retractReel_out (hr : s.cableway.retract = some { step := .reel, phase := .settling })
    (hhome : s.cableway.pins.home = false) (hload : s.cableway.loadTrip.passed = false) :
    exec (.axisSettled a) s = .next ((settledAt a now s).withCableway
      { (settledAt a now s).cableway with
        retract := some { step := .traverse, phase := .driving }, traverseAxis := .driven
        drive := some { dir := .traverseIn, fast := s.cableway.referenced && decide (1000 < s.cableway.x), since := now }
        placement := none }) := by
  obtain ⟨-, -, -, htrip, -, -, -, hpins, -⟩ := atRest_beside s.cableway a
  have hload' : (settledAt a now s).cableway.loadTrip.passed = false := (congrArg Filter.passed htrip).trans hload
  have hexec := (settled_retract hruns ha hnow hne hcoast hop hr).2.1 rfl rfl
  rw [retractTraverse_out (by exact (congrArg Pins.home hpins).trans hhome), onCable, energise_free hload',
    homingFast_settledAt, settle_of_due_nil _ (by exact hruns.2)] at hexec
  exact hexec

theorem settled_retractReel_begins (hr : s.cableway.retract = some { step := .reel, phase := .waiting })
    (htop : s.cableway.pins.top = false) (hload : s.cableway.loadTrip.passed = false) :
    exec (.axisSettled a) s = .next ((settledAt a now s).withCableway
      { (settledAt a now s).cableway with
        retract := some { step := .reel, phase := .driving }, reelAxis := .driven
        drive := some { dir := .reelUp, fast := true, since := now }, placement := none }) := by
  obtain ⟨-, -, -, htrip, -, -, -, hpins, -⟩ := atRest_beside s.cableway a
  have hload' : (settledAt a now s).cableway.loadTrip.passed = false := (congrArg Filter.passed htrip).trans hload
  have hexec := (settled_retract hruns ha hnow hne hcoast hop hr).1 rfl rfl
  rw [retractReel_lowered (by exact (congrArg Pins.top hpins).trans htop), onCable, energise_free hload',
    settle_of_due_nil _ (by exact hruns.2)] at hexec
  exact hexec

end

/-! ### First steps that waited (R121) -/

section
variable {k : OpKind} (hop : s.cableway.op = some { kind := k, phase := .waiting })
  (hload : s.cableway.loadTrip.passed = false)
include hruns ha hnow hne hcoast hop hload

theorem settled_begins_home {h : Bool} (hk : k = .home .reel h) (htop : s.cableway.pins.top = false) :
    ∃ u, exec (.axisSettled a) s = .next u ∧ Drives (settledAt a now s) u k .reelUp true := by
  obtain ⟨-, -, -, -, -, -, -, hpins, -⟩ := atRest_beside s.cableway a
  subst hk
  refine settled_drives hruns ha hnow hload ((settled_begins hne hcoast hop).trans ?_)
  exact homeReel_lowered (s := settledAt a now s) ((congrArg Pins.top hpins).trans htop)

theorem settled_begins_move {target : Int} (hk : k = .move target) :
    (s.cableway.x < target → s.cableway.pins.far = false →
      ∃ u, exec (.axisSettled a) s = .next u
        ∧ Drives (settledAt a now s) u k .traverseOut (decide (1000 < |target - s.cableway.x|)))
    ∧ (target < s.cableway.x → s.cableway.pins.home = false →
      ∃ u, exec (.axisSettled a) s = .next u
        ∧ Drives (settledAt a now s) u k .traverseIn (decide (1000 < |target - s.cableway.x|))) := by
  obtain ⟨-, -, -, -, -, -, -, hpins, -⟩ := atRest_beside s.cableway a
  have hx : (settledAt a now s).cableway.x = s.cableway.x := atRest_x ..
  subst hk
  have hbegin := settled_begins (now := now) hne hcoast hop
  refine ⟨fun hlt hfar => ?_, fun hlt hhome => ?_⟩
  · have hout := beginMove_outward (s := settledAt a now s) (hx ▸ hlt)
    rw [hx, beginDrive_free (by rintro l ⟨⟩; exact (congrArg Pins.far hpins).trans hfar)] at hout
    exact settled_drives hruns ha hnow hload (hbegin.trans hout)
  · have hin := beginMove_inward (s := settledAt a now s) (hx ▸ hlt)
    rw [hx, beginDrive_free (by rintro l ⟨⟩; exact (congrArg Pins.home hpins).trans hhome)] at hin
    exact settled_drives hruns ha hnow hload (hbegin.trans hin)

theorem settled_begins_sound (hk : k = .sound none none) (hmark : s.cableway.lastSurface = none)
    (hlt : s.cableway.reel < s.cableway.config.maxReel) :
    ∃ u, exec (.axisSettled a) s = .next u ∧ Drives (settledAt a now s) u k .reelDown false := by
  obtain ⟨-, -, -, -, -, hsurface, hconfig, -⟩ := atRest_beside s.cableway a
  have hreel : (settledAt a now s).cableway.reel = s.cableway.reel := atRest_reel ..
  have hfast : soundFast (settledAt a now s).cableway none = false :=
    (soundFast_cases _ none).2 (.inr (hsurface.trans hmark))
  subst hk
  have hlowers := beginSound_lowers (s := settledAt a now s) (ls := none) (lb := none) (by
    rw [hreel, show (settledAt a now s).cableway.config = _ from hconfig]
    exact hlt)
  rw [hfast] at hlowers
  exact settled_drives hruns ha hnow hload ((settled_begins hne hcoast hop).trans hlowers)

theorem settled_begins_carry (hk : k = .carry) (hlt : (s.cableway.config.carry : Int) < s.cableway.reel)
    (htop : s.cableway.pins.top = false) :
    ∃ u, exec (.axisSettled a) s = .next u
      ∧ Drives (settledAt a now s) u k .reelUp (decide (300 < s.cableway.reel - s.cableway.config.carry)) := by
  obtain ⟨-, -, -, -, -, -, hconfig, hpins, -⟩ := atRest_beside s.cableway a
  have hreel : (settledAt a now s).cableway.reel = s.cableway.reel := atRest_reel ..
  have hcarry : (settledAt a now s).cableway.config = s.cableway.config := hconfig
  subst hk
  have hup := beginCarry_upward (s := settledAt a now s) (by rw [hreel, hcarry]; exact hlt)
  rw [hreel, hcarry, reelFast_above hlt,
    beginDrive_free (by rintro l ⟨⟩; exact (congrArg Pins.top hpins).trans htop)] at hup
  exact settled_drives hruns ha hnow hload ((settled_begins hne hcoast hop).trans hup)

end
end

end Sys2Proof.Machine

/-! The ends of the operations and of the retract (R121, R126 to R134, R139, R169, R171). -/

namespace Sys2Proof.Machine

/-! ### The repeat watch (R134) -/

section
variable {s : State} {w now : U32} (hruns : Runs s)
  (hnow : now = if ahead w s.time.elapsed then w else s.time.elapsed)
include hruns hnow

theorem repeatWatch_runs {ph : Phase} (hop : s.cableway.op = some { kind := .reelFree w, phase := ph })
    (hph : ph ≠ .settling) : exec .repeatWatchExpiry s
      = .next (settle (cutAndSettle (.reelFree w) (s.withTime { s.time with elapsed := now }))) := by
  rw [exec_repeatWatchExpiry, event_runs hruns.1, expireRepeat_cuts hop hph, reach_eq, ← hnow]

theorem repeatWatch_drives {d : Drive} (hop : s.cableway.op = some { kind := .reelFree w, phase := .driving })
    (hd : s.cableway.drive = some d) (hdir : d.dir = .reelUp) :
    exec .repeatWatchExpiry s = .next ((s.withTime { s.time with elapsed := now }).withCableway
      { s.cableway with
        reelAxis := .coasting now, op := some { kind := .reelFree w, phase := .settling }, drive := none }) := by
  rw [repeatWatch_runs hruns hnow hop Phase.noConfusion,
    cutAndSettle_driven (s := s.withTime { s.time with elapsed := now }) (d := d) hd (.inr (by rw [hdir]; decide)),
    settle_of_due_nil _ (by exact hruns.2), hdir] <;> rfl

theorem repeatWatch_waits (hop : s.cableway.op = some { kind := .reelFree w, phase := .waiting })
    (hd : s.cableway.drive = none) :
    (s.cableway.reelAxis.isCoasting = true →
      exec .repeatWatchExpiry s = .next ((s.withTime { s.time with elapsed := now }).withCableway
        { s.cableway with op := some { kind := .reelFree w, phase := .settling }, drive := none }))
    ∧ (s.cableway.reelAxis.isCoasting = false →
      ∃ u, exec .repeatWatchExpiry s = .next u ∧ OpEnded s u (.reelFree w) .done .none) := by
  have hexec := repeatWatch_runs hruns hnow hop Phase.noConfusion
  rw [cutAndSettle, cutDrives_still (by exact hd)] at hexec
  have hmay := mayResume_reelFree
    (c := (setOp (.reelFree w) .settling (s.withTime { s.time with elapsed := now })).cableway) (w := w) rfl
  refine ⟨fun hcoasts => ?_, fun hrest => ?_⟩
  · rw [resume_held (hmay.trans (congrArg not hcoasts)), settle_of_due_nil _ (by exact hruns.2)] at hexec
    rw [hexec, ← hd] <;> rfl
  · rw [resume_settling rfl (hmay.trans (congrArg not hrest))] at hexec
    exact ⟨_, ended_of_settleOp (s := s) hexec rfl hd rfl hruns.2⟩

end

/-- Settles O48: ABORT, the aimed limits, what goes on when an axis has settled, and the repeat watch. -/
theorem operationsEnd : Obligations.OperationsEnd := by
  unfold Obligations.OperationsEnd
  intro s c
  refine ⟨fun hj => ⟨fun op hop => abort_op hj hop, fun hop hr => abort_retract hj hop hr,
    fun hop hr => abort_none hj hop hr⟩, fun hruns d l hd hl hp => ?limits,
    fun hruns a other since hne ha => ?settled, fun hruns w => ?watch⟩
  case limits =>
    intro coasts settling
    exact ⟨fun h ph hop hlim => limit_home hruns hd hl hp hop (.inl ⟨rfl, hlim⟩) rfl,
      fun h ph hop hlim => limit_home hruns hd hl hp hop (.inr ⟨rfl, hlim⟩) rfl,
      fun k ph hop hk => limit_aimed hruns hd hl hp hop hk,
      fun ph hop hr hlim => limit_retract hruns hd hl hp hop hr (.inl ⟨rfl, hlim⟩) rfl,
      fun ph hop hr hlim => limit_retract hruns hd hl hp hop hr (.inr ⟨rfl, hlim⟩) rfl⟩
  case watch =>
    intro now settling
    exact ⟨fun d hop hd hdir => repeatWatch_drives hruns rfl hop hd hdir,
      fun hop hd => repeatWatch_waits hruns rfl hop hd⟩
  case settled =>
    intro end_ now s0 c0 freed ends drives homing zeroed homed retracted
    refine ⟨fun h => axisSettled_waits hruns hne ha rfl h, fun w hop hd h => ?_, fun hcoast hd =>
      ⟨fun target hop => settled_move hruns ha rfl hne hcoast hd hop,
        fun ls lb hop => settled_sound hruns ha rfl hne hcoast hd hop,
        fun p l hop hl => settled_position hruns ha rfl hne hcoast hd hop hl rfl,
        fun hop => settled_carry hruns ha rfl hne hcoast hd hop,
        fun h hop hother => settled_homeTraverse hruns ha rfl hne hcoast hd hop hother,
        fun h hop => ⟨fun hhome hload => settled_homeReel_out hruns ha rfl hne hcoast hop hhome hload,
          fun hhome hother => settled_homeReel_home hruns ha rfl hne hcoast hd hop hhome hother⟩,
        fun hop hr => settled_retractTraverse hruns ha rfl hne hcoast hop hd hr,
        fun hop hr => ⟨fun hhome hload => settled_retractReel_out hruns ha rfl hne hcoast hop hr hhome hload,
          fun hhome => settled_retractReel_home hruns ha rfl hne hcoast hop hd hr hhome⟩,
        fun hop hr htop hload => settled_retractReel_begins hruns ha rfl hne hcoast hop hr htop hload,
        fun k hop => ⟨fun h hk htop hload => settled_begins_home hruns ha rfl hne hcoast hop hload hk htop,
          fun target hk => ⟨fun hlt hfar hload => (settled_begins_move hruns ha rfl hne hcoast hop hload hk).1 hlt hfar,
            fun hlt hhome hload => (settled_begins_move hruns ha rfl hne hcoast hop hload hk).2 hlt hhome⟩,
          fun hk hmark hlt hload => settled_begins_sound hruns ha rfl hne hcoast hop hload hk hmark hlt,
          fun hk hlt htop hload => settled_begins_carry hruns ha rfl hne hcoast hop hload hk hlt htop⟩⟩⟩
    obtain ⟨u, hu, hended⟩ := settled_reelFree hruns ha rfl hne hd hop h
    exact ⟨u, hu, hended, trivial⟩

end Sys2Proof.Machine
